-- ==== Sys2Proof/Word.lean ====
section
/-!
DEFINITION. The word types of the package: a byte of memory, and bit-field arithmetic on natural numbers held to a width.
-/
namespace Sys2Proof

/-- One byte. -/
abbrev Byte := BitVec 8

/-- The `w` bits of `v` from bit `lo` up. -/
def bits (v lo w : Nat) : Nat := v / 2 ^ lo % 2 ^ w

/-- Bit `b` of `v`. -/
def bit (v b : Nat) : Bool := v / 2 ^ b % 2 == 1

/-- `x` as a number, 1 for true. -/
def b2n (x : Bool) : Nat := if x then 1 else 0

end Sys2Proof
end

