-- ==== Sys2Proof/Machine/Store.lean ====
section
/-!
DEFINITION. Sparse stores: a list of (key, value) pairs with strictly rising keys in which no listed value is the default.
Every large memory of the package (data stores, instruction tier, cave banks, HBM, register fields) is held in this one
canonical form, so that equal contents are equal data.
-/
namespace Sys2Proof.Machine

/-- A sparse store in canonical form (`Store.wf`). -/
abbrev Store (α : Type) := List (Nat × α)

/-- The value at key `k`; an unlisted key holds the default `d`. -/
def Store.get {α : Type} (d : α) : Store α → Nat → α
  | [], _ => d
  | (k', v) :: m, k => if k = k' then v else Store.get d m k

/-- Drop key `k` (it returns to the default). -/
def Store.erase {α : Type} : Store α → Nat → Store α
  | [], _ => []
  | (k', v) :: m, k => if k = k' then Store.erase m k else (k', v) :: Store.erase m k

/-- Put `v` at key `k`: the default value removes the entry, so the form stays canonical. -/
def Store.set {α : Type} [DecidableEq α] (d : α) : Store α → Nat → α → Store α
  | [], k, v => if v = d then [] else [(k, v)]
  | (k', v') :: m, k, v =>
    if k < k' then (if v = d then Store.erase ((k', v') :: m) k else (k, v) :: (k', v') :: m)
    else if k = k' then (if v = d then Store.erase m k else (k, v) :: m)
    else (k', v') :: Store.set d m k v

/-- Canonical form: keys strictly rise and no listed value is the default. -/
def Store.wf {α : Type} [DecidableEq α] (d : α) : Store α → Bool
  | [] => true
  | [(_, v)] => decide (v ≠ d)
  | (k, v) :: (k', v') :: m => decide (v ≠ d) && decide (k < k') && Store.wf d ((k', v') :: m)

/-- The entries with `lo ≤ key < hi`, in rising order. -/
def Store.range {α : Type} (m : Store α) (lo hi : Nat) : List (Nat × α) :=
  m.filter fun e => decide (lo ≤ e.1) && decide (e.1 < hi)

/-- Drop the entries whose key satisfies `p` (they return to the default). -/
def Store.drop {α : Type} (m : Store α) (p : Nat → Bool) : Store α := m.filter fun e => !p e.1

/-- Put every pair of a list. -/
def Store.setAll {α : Type} [DecidableEq α] (d : α) (m : Store α) (l : List (Nat × α)) : Store α :=
  l.foldl (fun m e => m.set d e.1 e.2) m

/-- A store of numbers: default 0. -/
abbrev NStore := Store Nat

/-- Read a number store. -/
def NStore.at (m : NStore) (k : Nat) : Nat := Store.get 0 m k

/-- Write a number store. -/
def NStore.put (m : NStore) (k v : Nat) : NStore := Store.set 0 m k v

end Sys2Proof.Machine
end

