-- ==== Sys2Proof/Machine/DebugTypes.lean ====
section
/-!
DEFINITION. What an instruction fed to a halted management processor does (R418). The instruction set is another document's; the command tells
the effect.
-/
namespace Sys2Proof.Machine

/-- Effect of a fed instruction: it would change the PC, halt, raise or return from an exception, or its access times out; it sets registers
(number 0 to 33, the PC apart); it loads `n` bytes into a register, sign-extended or not; it stores words. -/
inductive FeedOut where
  | err
  | regs (l : List (Nat × Nat))
  | load (reg addr n : Nat) (signed : Bool)
  | store (addr : Nat) (data : List Nat)
deriving DecidableEq, Repr

end Sys2Proof.Machine
end

