-- ==== Sys2Proof/Machine/LinkTypes.lean ====
section
/-!
DEFINITION. The data types of the Mindiong Link: lanes (R237-R249), flits and control messages (R256, R277), ports
(R254-R275) and the cascade master's records (R192, R278-R280).
-/
namespace Sys2Proof.Machine

/-- What the status word of a training frame says (Table 127). -/
structure TrainFrame where
  lane    : Nat
  port    : Nat
  die     : Nat
  pkg     : Nat
  compat  : Bool := false
  pam4Cap : Bool := false
  phase   : Nat
  rxReady : Bool := false
  seen    : Bool := false
  go      : Bool := false
  count   : Nat := 0
deriving DecidableEq, Repr

/-- A lane beside its registers: how far its training has come, and its checker's run of bits (R240-R249). -/
structure Lane where
  frames : Nat := 0               -- consecutive frames received, up to 64
  seen   : Bool := false          -- own SEEN
  ready  : Bool := false          -- own RX_READY in the current modulation
  pSeen  : Bool := false          -- partner's SEEN as last received
  pReady : Bool := false          -- partner's RX_READY as last received
  zero   : Nat := 0               -- consecutive frames with PHASE 0
  count  : Nat := 255             -- COUNT of the own countdown (T3), the next to be sent
  sent   : Nat := 0               -- status word of the training frame last sent
  mism   : Bool := false          -- held in T2 by a partner of the other format (R241)
  txPam  : Bool := false          -- transmitter switched to PAM4
  rxPam  : Bool := false          -- receiver switched to PAM4
  t4ok   : Bool := false          -- the present T4 count ended with fewer than 16 errors
  tries  : Nat := 0               -- T4 attempts failed in a row
  fb     : Bool := false          -- has not passed OFF, FAULT_CLR or RETRAIN since a fallback of its port (R242)
  cold   : Bool := false          -- a Cold exit is in progress: re-acquire at the stored rate
  stored : Nat := 0               -- rate stored at entry to COLD, 0 for none (R246)
  last   : Nat := 0               -- rate last trained (R248)
  keepEq : Bool := false          -- the next T1 keeps the last equaliser settings (R245)
  lost   : Bool := false          -- lock lost in TEST: the relock leads to T1 (R245)
  nrz    : Bool := false          -- MODE_MAX as taken at the last T1
  txeq   : Nat := 0               -- LNK_LANE_TXEQ as taken at the last T1 or TEST entry
  prbs   : Option Nat := none     -- LNK_PRBS_CFG write that waits for the fault to be cleared (R250)
  gen    : Nat := 0               -- generator: register, the bit last sent in bit 0
  since  : Nat := 0               -- generator: bits sent since the last periodic injection
  chk    : Nat := 0               -- checker: register, the latest bit in bit 0
  run    : Nat := 0               -- checker: consecutive error-free bits
  pos    : Nat := 0               -- checker: bits received since CHK_EN was set
  errs   : List Nat := []         -- checker: positions of the last errors while locked, newest first, at most 1,024
deriving DecidableEq, Repr

/-- What a control message says (Table 140). -/
inductive Ctl where
  | ready (uid mask : Nat)
  | fail (code : Nat)
  | commit
  | abort
  | commitAck
  | start (count : Nat) (resume : Bool)
  | startAck (code : Nat)
  | startCancel
  | stopAt (cycle cause : Nat)
  | freezeNow (cause : Nat)
  | event (cause mcc : Nat)
  | halt (pkg : Nat)
  | heartbeat
  | flush (done : Bool)
  | lpReq (st : Nat)
  | faultNote
deriving DecidableEq, Repr

/-- A control message (R277). -/
structure CtlMsg where
  src   : Nat
  dst   : Nat := 0
  bcast : Bool := false
  inst  : Nat := 0
  body  : Ctl
deriving DecidableEq, Repr

/-- Payload of a flit by TYPE (Table 136). -/
inductive Flit where
  | idle
  | lack (ack : Nat) (nak : Bool) (freed : List Nat)
  | sched (payload : Nat)
  | schsync (mcc depth : Nat)
  | mem (payload : Nat)
  | svc (payload : Nat)
  | ctl (m : CtlMsg)
  | phase (own last at_ : Nat)
deriving DecidableEq, Repr

/-- Virtual channel of a sequenced flit (Table 137); none for the unsequenced types. -/
def Flit.vc : Flit → Option Nat
  | .sched _ => some 0
  | .schsync _ _ => some 0
  | .mem _ => some 1
  | .svc _ => some 2
  | .ctl _ => some 3
  | _ => none

/-- A flit with its SEQ. -/
structure TxFlit where
  seq  : Nat
  body : Flit
deriving DecidableEq, Repr

/-- A link port beside its registers (R254-R275). -/
structure LPort where
  cfgd    : Bool := false              -- a LINKCFG record configures it (R284)
  sched   : Bool := false              -- it carries scheduled lines
  ctlUp   : Bool := false
  ctlDown : Bool := false
  peerPkg : Nat := 0
  peerPort : Nat := 0
  replay  : List TxFlit := []          -- unacknowledged flits, oldest first (R260)
  resend  : Nat := 0                   -- how many of the newest of them are still to be resent
  txSch   : List Flit := []            -- flits waiting to be sent, by channel
  txMem   : List Flit := []
  txSvc   : List Flit := []
  txCtl   : List Flit := []
  nak     : Bool := false              -- a LACK with NAK is owed
  nakAge  : Nat := 64                  -- flit periods since the last NAK was sent, up to 64 (R259)
  lackDue : Bool := false              -- ACK_SEQ or FREED has changed since the last LACK
  since   : Nat := 0                   -- flit periods since the last LACK
  rebase  : Bool := false              -- the first LACK after entry to UP is awaited (R261)
  base    : List Nat := [0, 0, 0, 0]   -- last FREED values received
  rxMem   : List Nat := []             -- MEM payloads that wait for a LINK_RECV (R348)
  held    : List (Nat × Nat) := []     -- received SCHED flits: absolute first step of the group and payload, oldest first
  rxMcc   : Nat := 0                   -- MCC expected in the next SCHSYNC
  rxCnt   : Nat := 0                   -- SCHED flits since the last SCHSYNC
  rxOn    : Bool := false              -- a SCHSYNC has been received
  group   : Nat := 0                   -- payload of the SCHED flit being formed
  silent  : Bool := false              -- UP and 1 us without an error-free flit (R272)
  lpPeer  : Nat := 0                   -- state the partner requests (R275)
  exiting : Bool := false              -- exit from LOWPWR has begun
  realign : Bool := false              -- a full realignment is requested (R274)
  phases  : Nat := 0                   -- PHASE round trips in this ALIGN
  phLast  : Nat := 0                   -- last PHASE value received
  phAt    : Nat := 0                   -- own count when it was received
  flush   : Bool := false              -- a FLUSH request of this end awaits its done
  wire    : Option Nat := some 0       -- bits of the flit last sent; none for an alignment word
  period  : Nat := 0                   -- flit periods since the last alignment word (R257)
  ph0     : Option (Nat × Nat) := none -- first PHASE value of this ALIGN, and the own count then (R440)
  closing : Bool := false              -- without an owner, it sends what tells of a failed load (R192)
deriving DecidableEq, Repr

/-- A start or resume exchange in progress on the master (R279). -/
structure StartReq where
  inst   : Nat
  count  : Nat
  resume : Bool
  acks   : List Nat := []
  cmd    : Option (Nat × Nat) := none      -- RUN_CTL command it completes: mailbox and SEQ
deriving DecidableEq, Repr

/-- Cascade records of the master: who has reported READY with which UID and instances, whose COMMIT_ACK is awaited, which packages
hold part of each cascade instance since the last commit (R192); the exchanges of R279 in progress, at most one per instance. Of a slave: the
master's step rate as learned, true for the slower (R440). -/
structure Cascade where
  ready : List (Nat × Nat × Nat) := []   -- PKG_ID, CFG_UID, instance mask
  await : List Nat := []
  peers : List (Nat × Nat) := []         -- PKG_ID, instance
  starts : List StartReq := []
  slow  : Option Bool := none
deriving DecidableEq, Repr

end Sys2Proof.Machine
end

