-- ==== Sys2Proof/Machine/LoadTypes.lean ====
section
/-!
DEFINITION. The data types of configuration loading (R178-R205): what a stream's header, chunks and records say, how far a stream has
been taken in, a relocation in progress, and what Turner keeps of the frames (R207-R214).
-/
namespace Sys2Proof.Machine

/-- The fields of a stream header (Table 97). `pkgs` are the first NPKG entries of the package table: PKG_ID, reserved byte, SECTIONS, CHUNKS.
`rsv` collects every byte that must be 0: the reserved ones and the entries from NPKG on. -/
structure StreamHdr where
  magic   : Nat
  version : Nat
  keysrc  : Nat
  gen     : Nat
  nonce   : Nat
  npkg    : Nat
  master  : Nat
  flags   : Nat
  rsv     : Nat := 0
  stream  : Nat
  pkgs    : List (Nat × Nat × Nat × Nat)
deriving DecidableEq, Repr

/-- Little-endian number in `n` bytes from offset `off` on (R179). -/
def leAt (b : List Nat) (off n : Nat) : Nat := ((b.drop off).take n).foldr (fun x v => x % 256 + 256 * v) 0

/-- The header that 560 bytes spell. -/
def StreamHdr.ofBytes (b : List Nat) : StreamHdr :=
  let npkg := leAt b 0x10 1
  { magic := leAt b 0 4, version := leAt b 4 2, keysrc := leAt b 6 1, gen := leAt b 7 1, nonce := leAt b 8 8, npkg := npkg,
    master := leAt b 0x11 1, flags := leAt b 0x12 1, rsv := leAt b 0x13 5 + leAt b (0x20 + 8 * npkg) (8 * (64 - npkg)), stream := leAt b 0x18 8,
    pkgs := (List.range (min npkg 64)).map fun n => let o := 0x20 + 8 * n; (leAt b o 1, leAt b (o + 1) 1, leAt b (o + 2) 2, leAt b (o + 4) 4) }

/-- The fields of a chunk header (Table 98). -/
structure ChunkHdr where
  magic   : Nat
  pkg     : Nat
  die     : Nat
  counter : Nat
  len     : Nat
  ulen    : Nat
  flags   : Nat
  rsv     : Nat := 0
deriving DecidableEq, Repr

/-- The chunk header that 32 bytes spell. -/
def ChunkHdr.ofBytes (b : List Nat) : ChunkHdr :=
  { magic := leAt b 0 2, pkg := leAt b 2 1, die := leAt b 3 1, counter := leAt b 4 4, len := leAt b 8 4, ulen := leAt b 12 4,
    flags := leAt b 0x10 1, rsv := leAt b 0x11 15 }

/-- A chunk as it stands in the stream: header, ciphertext, tag, and what its plaintext's Zstandard frame decodes to, none where it fails to
decode or fails its content checksum (R183; RFC 8878 is not part of the spec). -/
structure ChunkData where
  head    : List (BitVec 8)
  data    : List (BitVec 8)
  tag     : List (BitVec 8)
  content : Option (List (BitVec 8)) := none
deriving DecidableEq, Repr

/-- Its header's fields. -/
def ChunkData.hdr (c : ChunkData) : ChunkHdr := ChunkHdr.ofBytes (c.head.map BitVec.toNat)

/-- What every record's header gives beside its type (R184): INST, the reserved byte, LEN, ADDR. -/
structure RecHdr where
  inst : Nat
  len  : Nat
  addr : Nat := 0
  rsv  : Nat := 0
deriving DecidableEq, Repr

/-- The instance descriptor as a SECTION_BEGIN record carries it (Table 100). -/
structure ImgDesc where
  depth     : Nat
  edgeLen   : Nat
  vrows     : Nat
  vcols     : Nat
  flags     : Nat
  hbmSegs   : Nat
  ioBanks   : Nat
  ports     : Nat
  flowBase  : Nat
  flowCount : Nat
  pin       : List Nat                       -- eight bytes
  pairs     : List (Nat × Nat × Nat)         -- NPAIR entries: virtual dies A and B, bridge-hop count
  regions   : List (Nat × Nat × Nat × Nat)   -- entries not all zero: virtual die, virtual region, USE, BANKS
  rsv       : Nat := 0
deriving DecidableEq, Repr

/-- A record of a patch, held in staging until it is applied (R205). -/
inductive PatchRec where
  | frame (addr content : Nat) (ok : Bool)   -- `ok`: it passes the check that follows the write (R214)
  | cave (vdie region bank first : Nat) (words : List Nat)
  | hbm (addr : Nat) (bytes : List Nat)
  | qentry (vdie region port entry word : Nat)
deriving DecidableEq, Repr

/-- The one-time fuses (R199-R203): policy bits, generation, the eFuse key with its check field, and whether it verified. -/
structure Fuses where
  secure   : Bool := false
  efKeyDis : Bool := false
  bbKeyDis : Bool := false
  gen      : Nat := 0
  key      : Nat := 0
  check    : Nat := 0
  keyOk    : Bool := false
deriving DecidableEq, Repr

/-- A slot of the battery-backed key memory (R201); `ok` tells that its commit word checks. -/
structure KeySlot where
  key : Nat := 0
  kcv : Nat := 0
  seq : Nat := 0
  ok  : Bool := false
deriving DecidableEq, Repr

/-- One section being taken in (R185). -/
structure Section where
  inst    : Nat
  patch   : Bool
  restore : Bool := false
  closed  : Bool := false
  frames  : Nat := 0
  records : Nat := 0
  bytes   : Nat := 0                         -- staged patch content
  staged  : List PatchRec := []
  traced  : Bool := false                    -- carries TRACECFG records
  compat  : Bool := false
  depth   : Nat := 0
deriving DecidableEq, Repr

/-- A stream in progress (R178, R189): the command that brought it, its header's entry for this package, and the content that has no
place in the physical stores, kept for the checks of phase 4 (R90, R158, R169, R176). -/
structure LoadEng where
  active  : Bool := false
  cmd     : Option (Nat × Nat) := none       -- mailbox and SEQ of the LOAD
  replace : Bool := false
  hdr     : Option StreamHdr := none
  key     : Nat := 0                         -- the key KEYSRC names, as it stood when the header came
  sections : Nat := 0                        -- SECTIONS of the own entry
  chunks  : Nat := 0                         -- CHUNKS of the own entry
  next    : Nat := 1                         -- COUNTER expected
  die     : Option Nat := none               -- DIE of the own chunk being taken
  last    : Bool := false                    -- the LAST chunk has been taken
  secs    : List Section := []               -- in order of their begin records
  genPend : Nat := 0                         -- generation whose advance was refused (R203); 0 none
  clearing : List Nat := []                  -- dies whose refusal registers this load has cleared
  oddReg  : List (Nat × Nat × Nat) := []     -- region field: key as the stream names it, key to report, reason
  oddDie  : List (Nat × Nat × Nat) := []     -- die field: likewise, under instance*8 + die
  oddWord : List Nat := []                   -- Series 1 word with a must-be-0 bit set: unit*1024 + address
  oddDesc : List Nat := []                   -- descriptor that names an unused cluster: (region*8+port)*64 + n
deriving DecidableEq, Repr

/-- A relocation between its copy and its switch (R171-R173): the command, the virtual die, and the pairs of old and new physical
regions. -/
structure Reloc where
  cmd   : Nat × Nat
  vdie  : Nat := 0
  moves : List (Nat × Nat × Nat)             -- virtual region, old package region, new package region
deriving DecidableEq, Repr

/-- Turner's view of the stored frames (R209-R214): for each physical frame address, the bits in which the stored codeword differs from
the one last written (0 to 4,095 data, 4,096 to 4,127 check word); and the bad frames with their kinds, oldest first. -/
structure Turner where
  errs : Store (List Nat) := []
  bad  : List (Nat × Nat) := []
  pos  : NStore := []                        -- rank an engine goes on from in its pass (R208), key die*64 + engine
deriving DecidableEq, Repr

end Sys2Proof.Machine
end

