-- ==== Sys2Proof/Machine/LossTypes.lean ====
section
/-!
DEFINITION. What an HBM access finds (R155), and what a loss of power interrupts (R454).
-/
namespace Sys2Proof.Machine

/-- How the controller's ECC found the block of an access (R155). -/
inductive Ecc where
  | clean | corrected | uncorrectable
deriving DecidableEq, Repr

/-- The write that a loss of power interrupts, and how far it came: the command in progress that makes it, and which of the bits it was to
blow read 1 afterwards. -/
inductive CutWrite where
  | none
  | bbKey (mbx seq : Nat)                        -- KEY_BB_WRITE: the inactive slot
  | efKey (mbx seq key check : Nat)              -- KEY_EF_PROGRAM: masks of the key and check bits
  | policy (mbx seq set : Nat)                   -- FUSE_POLICY: mask of the policy bits
  | gen (n : Nat)                                -- generation bits: CFG_GEN as it reads afterwards
deriving DecidableEq, Repr

end Sys2Proof.Machine
end

