-- ==== Sys2Proof/Machine/RingTypes.lean ====
section
/-!
DEFINITION. The data types of the service rings (R378, R385), the time unit (R397-R411), debug (R414-R427) and start-up (R432-R448).
-/
namespace Sys2Proof.Machine

/-- A request packet (Table 192). `ecc` tells what the stop that removes it finds: 0 nothing, 1 a corrected bit, 2 an uncorrectable
error or a header whose CHK fails (R384), and `back` what the initiator's stop finds in its response. Data and reads count in 32-bit words. -/
structure RingPkt where
  write : Bool
  init  : Nat
  tag   : Nat
  inst  : Option Nat := none
  cls   : Nat := 0
  srcPkg : Nat := 0
  dst   : Option Nat := none         -- DST_PKG of a REMOTE request
  len   : Nat := 1                   -- words
  fbe   : Nat := 15
  lbe   : Nat := 15
  addr  : Nat
  data  : List Nat := []
  ecc   : Nat := 0
  back  : Nat := 0
  prio  : Nat := 0
deriving DecidableEq, Repr

/-- A request that awaits its response, as its initiator keeps it: `num` is its place among the requests inserted; `remote` is the package and
tag of the request of another package that the remote gateway makes it for. -/
structure RingReq where
  init  : Nat
  tag   : Nat
  addr  : Nat
  inst  : Option Nat
  write : Bool
  num   : Nat
  remote : Option (Nat × Nat) := none
  prio  : Nat := 0                       -- priority that its response travels at (R379)
  away  : Bool := false                  -- for another package
deriving DecidableEq, Repr

/-- A response on its way to request `num`: none of the data words for a write; `err` is the cause of an ERR_RSP, 0 otherwise. -/
structure RingRsp where
  init : Nat
  tag  : Nat
  num  : Nat
  err  : Nat
  data : List Nat
  ecc  : Nat := 0                        -- what the stop that removes it finds
deriving DecidableEq, Repr

/-- The service rings beside their registers. -/
structure Rings where
  out   : List RingReq := []
  rsp   : List RingRsp := []
  late  : List RingReq := []             -- timed-out requests whose tag is not free yet
  num   : Nat := 0                       -- requests inserted so far
  got   : Store (List Nat) := []         -- words of the last response, by initiator
  inbox : List (Nat × Nat) := []         -- notifications delivered: die and kind
  ca    : NStore := []                   -- PCIe port: 1 if its last read completed with Completer Abort (R314)
deriving DecidableEq, Repr

/-! ## Time unit (R397-R411) -/

/-- A pending launch entry (R407, Table 201): its ID, its time T, words W2, W3 and W4 with W5, its place in the order of push, and the
RUN_CTL command that pushed it (R412). `late` marks an entry with DISC_LATE 0 whose time a push or a step passed by more than 1 us (R409). -/
structure Launch where
  num  : Nat
  id   : Nat
  t    : Nat
  w2   : Nat
  w3   : Nat
  w45  : Nat := 0
  cmd  : Option (Nat × Nat) := none
  late : Bool := false
deriving DecidableEq, Repr

/-- KIND 1: a cascade control message. -/
def Launch.ctl (x : Launch) : Bool := x.w2 % 4 == 1
/-- DISC_LATE. -/
def Launch.discLate (x : Launch) : Bool := x.w2 / 4 % 2 == 1
/-- INST of a KIND 1 entry. -/
def Launch.inst (x : Launch) : Nat := x.w3 / 256 % 16

/-- An Ethernet port of die 0: the frame last launched on it, and the last PTP event messages with their timestamps in picoseconds, board
delays added (R400). -/
structure EthPort where
  sent : List Byte := []
  tx   : Option (Nat × Nat) := none
  rx   : Option (Nat × Nat) := none
deriving DecidableEq, Repr

/-- A frame received on an Ethernet port (R399): its port, what it is (0 Sync, 1 another supported PTP event message, 2 a supported PTP general
message, 3 anything else), its transport and domain, and whether a qualified master sent it. -/
structure EthFrame where
  port : Nat
  kind : Nat
  transport : Nat := 0
  domain : Nat := 0
  qualified : Bool := false
deriving DecidableEq, Repr

/-- The time unit beside its registers: network time as seconds × 10^9 + nanoseconds with its 32-bit fraction (R397, R398); the launch queue;
the frame buffer; the servo's run of Syncs (R402) and the rates applied while it steered, newest first, as clock periods and rate (R404). -/
structure TimeUnit where
  ns    : Nat := 0
  frac  : Nat := 0
  lq    : List Launch := []                -- in order of push
  num   : Nat := 0                         -- entries pushed so far
  buf   : List Host.Cell := []             -- frame buffer, 64 KiB
  run   : Nat := 0
  adjLo : Nat := 0                         -- low half of TIM_ADJ as last written
  slew  : Int := 0                         -- nanoseconds still to be slewed for a TIM_ADJ
  hist  : List (Nat × Int) := []
  hold  : Nat := 0                         -- half nanoseconds in the current or last holdover
  eth   : Store EthPort := []
deriving DecidableEq, Repr

/-! ## Debug (R414-R427) -/

/-- The debug unit beside its registers: the test access port's instruction and what an ACCESS scan last captured; the access that is
outstanding (tag, address, direction) and the result of the last completed one; the registers of the management processors, by die*64 + number
(R418); the watchpoints whose predecessor has matched, by die*8 + number (R422); and the pulses driven on DBG_XTRIG_OUT_N. `irOut` is what its
instruction register last captured. -/
structure Debug where
  ir     : Nat := 1
  irOut  : Nat := 0
  cap    : Nat := 0
  busy   : Option (Nat × Nat × Bool) := none
  data   : Nat := 0
  addr   : Nat := 0
  status : Nat := 0
  cause  : Nat := 0
  regs   : NStore := []
  hits   : NStore := []
  xtOut  : Nat := 0
deriving DecidableEq, Repr

/-! ## Start-up and monitoring (R431-R450) -/

/-- What reset release finds: the straps of Table 213, which references are valid, and how the steps of Table 214 end: the fuse check, the
valid flash copies with their header versions, the stacks that fail training, and what the start-up march finds, by package bank. -/
structure BootEnv where
  pkgId     : Nat := 0
  masterSel : Bool := true
  compat    : Nat := 0
  bscanCe   : Bool := false
  bootHalt  : Bool := false
  refA      : Bool := true
  refB      : Bool := true
  fuseOk    : Bool := true
  copyA     : Option Nat := some 0
  copyB     : Option Nat := none
  badStacks : List Nat := []
  march     : List (Nat × List (Nat × Nat)) := []
deriving DecidableEq, Repr

/-- The ADC of a die beside its registers (R444-R446). -/
structure Adc where
  start  : Bool := false                   -- a START waits for the boundary
  wait   : Nat := 0                        -- conversion periods before the next conversion of continuous mode
  conv   : Option (Nat × Nat × Bool) := none   -- the conversion in progress: channel, reference, unsettled
  settle : Nat := 0                        -- microseconds of settling left
deriving DecidableEq, Repr

/-- Start-up and monitoring beside their registers. `health` holds the values the firmware last converted, by die*16 + item: sensors 0 to 3 in
0.01 °C (16-bit), the five rails in mV, VIO of banks 0 to 3 in mV (R450). -/
structure Boot where
  env    : Option BootEnv := none          -- reset has been released
  relock : List Nat := []                  -- dies whose root PLL relocks
  realign : Bool := false                  -- every bridge realigns with the relock (R437, R440)
  bad    : List Nat := []                  -- stacks that failed training
  adc    : Store Adc := []
  health : NStore := []
  warm   : NStore := []                    -- sensor die*4 + s: highest level reached and not cleared, 1 WARN, 2 CRIT
deriving DecidableEq, Repr

end Sys2Proof.Machine
end

