-- ==== Sys2Proof/Syntax.lean ====
section
/-!
DEFINITION. The commands of the part: one constructor for each row of the table of operations and events. An operand is what the command carries,
or, where the row is an event, what the world outside the package brings to it. Units are numbered over the package: regions die*64 + region,
cave banks die*1024 + region*16 + bank, queue ports die*512 + region*8 + port, lanes die*16 + lane, ports and I/O banks die*4 + number, word units
die*2048 + region*32 + cluster, cells die*128 + cell. `init` is an initiator code (Table 193).
-/
namespace Sys2Proof
open Machine

/-- A command or event of the table. -/
inductive Instr where
  /-- ARRAY_STEP (R18): one step period; the first of `perr` are the bridge blocks received wrong in it, by receiving side die*4+side and block, with the lines
and, in bit 32, the parity bit that differ from what was sent; the second are the frame bits that have upset before it, by physical frame address. -/
  | arrayStep (i : Fin 16) (perr : List (Fin 32 × Fin 8 × BitVec 33) × List (BitVec 32 × List (Fin 4128)))
  /-- STALL_RELEASE (R30). -/
  | stallRelease (i : Fin 16)
  /-- MAJOR_CYCLE_BOUNDARY (R22): the boundary after step D - 1; `pads` are the levels outside cells that have changed. -/
  | majorCycleBoundary (i : Fin 16) (pads : List (Fin 1024 × Fin 3))
  /-- FLOW_HOLD_RELEASE (R30). -/
  | flowHoldRelease (i : Fin 16) (pads : List (Fin 1024 × Fin 3))
  /-- CALL_TIMEOUT (R32). -/
  | callTimeout (i : Fin 16)
  /-- START (R41): ARY_RUN_CTL.START. -/
  | start (i : Fin 16) (init : Fin 128) (pads : List (Fin 1024 × Fin 3))
  /-- PAUSE (R41): ARY_RUN_CTL.PAUSE. -/
  | pause (i : Fin 16) (init : Fin 128)
  /-- RESUME (R41): ARY_RUN_CTL.RESUME. -/
  | resume (i : Fin 16) (init : Fin 128)
  /-- FREEZE (R41): ARY_RUN_CTL.FREEZE. -/
  | freeze (i : Fin 16) (init : Fin 128)
  /-- SNAP (R41): ARY_RUN_CTL.SNAP. -/
  | snap (i : Fin 16) (init : Fin 128)
  /-- DATA_STORE_WRITE (R62): a write of the ARY data-store window. -/
  | dataStoreWrite (init : Fin 128) (inst : Option (Fin 16)) (d : Fin 8) (off : Fin 33554432) (data : List (BitVec 32)) (be : Option Nat)
  /-- WU_STATE_WRITE (R119): a write of the word-unit state window. -/
  | wuStateWrite (init : Fin 128) (inst : Option (Fin 16)) (d : Fin 8) (off : Fin 8388608) (data : List (BitVec 32)) (be : Option Nat)
  /-- BRIDGE_ALIGNMENT_LOSS (R79). -/
  | bridgeAlignmentLoss (d : Fin 8) (k : Fin 4)
  /-- CAV_OWN_WRITE (R133): a write of CAV_OWN. -/
  | cavOwnWrite (b : Fin 8192) (init : Fin 128) (w : BitVec 32)
  /-- HANDOVER_COMPLETE (R133): the old owner's ring accesses of a bank have completed. -/
  | handoverComplete (b : Fin 8192)
  /-- CAVE_ATOM_ADD (R137): CAV_ATOM_CMD, OP ADD. -/
  | caveAtomAdd (b : Fin 8192) (init : Fin 128) (a : BitVec 14) (v : BitVec 16)
  /-- CAVE_ATOM_SWAP (R137): CAV_ATOM_CMD, OP SWAP. -/
  | caveAtomSwap (b : Fin 8192) (init : Fin 128) (a : BitVec 14) (v : BitVec 16)
  /-- CAVE_WINDOW_WRITE (R136): a write of the CAV window. -/
  | caveWindowWrite (init : Fin 128) (inst : Option (Fin 16)) (d : Fin 8) (off : Fin 33554432) (data : List (BitVec 32)) (be : Option Nat)
  /-- MARCH_START (R141): CAV_MARCH_CTL.START. -/
  | marchStart (p : Fin 512) (init : Fin 128) (mode : Fin 2) (set : BitVec 16)
  /-- MARCH_DONE (R139): the march of a region ends; `fails` are the failing reads by bank, as word and differing bits. -/
  | marchDone (p : Fin 512) (fails : List (Fin 16 × List (BitVec 14 × BitVec 16)))
  /-- HELD_REQUEST_SEND (R150): room frees in a queue port, die*512 + region*8 + port. -/
  | heldRequestSend (k : Fin 4096)
  /-- QUEUE_RESULT_RETURN (R149): request `n` of those in flight returns after `lat` step periods. -/
  | queueResultReturn (k : Fin 4096) (n : Fin 256) (lat : Nat) (e : Ecc)
  /-- PATROL_SCRUB_READ (R155): patrol scrub reads a block. -/
  | patrolScrubRead (j : Fin 4) (a : BitVec 36) (e : Ecc)
  /-- SEG_OWN_WRITE (R144): a write of QUE_SEG_OWN. -/
  | segOwnWrite (k : Fin 576) (init : Fin 128) (w : BitVec 32)
  /-- RELOCATE (R171): the command, in its turn; `expired` tells that 2 ms have passed waiting for the queue ports. -/
  | relocate (m : Fin 16) (seq : BitVec 16) (expired : Bool)
  /-- RELOCATION_SWITCH (R172): the copy is complete, or has failed. -/
  | relocationSwitch (i : Fin 16) (copyOk : Bool)
  /-- LOAD (R178): the command, in its turn. -/
  | load (m : Fin 16) (seq : BitVec 16)
  /-- STREAM_HEADER (R180): the 560 bytes. -/
  | streamHeader (b : List (BitVec 8))
  /-- CHUNK (R182): header, ciphertext, tag, and what a Zstandard frame in it decodes to. -/
  | chunk (c : ChunkData)
  /-- SECTION_BEGIN (R190). -/
  | sectionBegin (h : RecHdr) (x : ImgDesc)
  /-- PATCH_BEGIN (R204). -/
  | patchBegin (h : RecHdr)
  /-- SECTION_END (R185). -/
  | sectionEnd (h : RecHdr) (frames : BitVec 64) (records : BitVec 64)
  /-- FRAMES (R188): the record with its frames; `verified` tells that every frame read back as written. -/
  | frames (h : RecHdr) (l : List (BitVec 4096)) (verified : Bool)
  /-- CAVE (R184). -/
  | cave (h : RecHdr) (words : List (BitVec 16))
  /-- PORTCFG (R184). -/
  | portcfg (h : RecHdr) (cfg : BitVec 8) (rsv : BitVec 56)
  /-- QENTRY (R204). -/
  | qentry (h : RecHdr) (word : BitVec 64)
  /-- HBM (R184). -/
  | hbm (h : RecHdr) (bytes : List (BitVec 8))
  /-- EDGE (R184). -/
  | edge (h : RecHdr) (l : List (BitVec 64))
  /-- GDL (R184). -/
  | gdl (h : RecHdr) (l : List (BitVec 32))
  /-- IOCFG (R230). -/
  | iocfg (h : RecHdr) (vio : BitVec 8) (rsv : BitVec 56) (cells : List (BitVec 32))
  /-- LINKCFG (R284). -/
  | linkcfg (h : RecHdr) (mode : BitVec 8) (roles : BitVec 8) (pkg : BitVec 8) (port : BitVec 8) (rsv : BitVec 96)
  /-- TRACECFG (R310): the payload in 32-bit words. -/
  | tracecfg (h : RecHdr) (words : List (BitVec 32))
  /-- LOAD_CHECK (R189): every frame is written; `tierOk` tells that the check pass found every syndrome zero, `blow`, where the rails have been
in range for 10 ms, how many generation bits read back before one does not. -/
  | loadCheck (tierOk : Bool) (blow : Option (BitVec 7))
  /-- COMMIT_TIMEOUT (R192). -/
  | commitTimeout
  /-- SLAVE_COMMIT_TIMEOUT (R192). -/
  | slaveCommitTimeout
  /-- COMMIT_ACK_TIMEOUT (R192). -/
  | commitAckTimeout
  /-- STREAM_STALL (R194). -/
  | streamStall
  /-- CFG_ABORT (R194): CFG_CTRL.ABORT. -/
  | cfgAbort (init : Fin 128)
  /-- ERR_CLR (R196): CFG_CTRL.ERR_CLR. -/
  | errClr (init : Fin 128)
  /-- TURNER_FRAME_CHECK (R209): engine `g` of a die reads the frame with physical address `a`, which is the next of its pass; `flips` are the codeword bits upset since its last visit, `stuck` that a
corrected bit reads back wrong, `us` how long the pass has lasted. -/
  | turnerFrameCheck (d : Fin 8) (g : Fin 64) (a : BitVec 32) (flips : List (Fin 4128)) (stuck : Bool) (us : BitVec 32)
  /-- BANK_SUPPLY_FAULT (R222). -/
  | bankSupplyFault (b : Fin 32)
  /-- BANK_SUPPLY_RESTORED (R222). -/
  | bankSupplyRestored (b : Fin 32)
  /-- EXTEST (R233): the boundary-scan register updates with the bits shifted in, by number. -/
  | extest (upd : List (Fin 3072 × Fin 2)) (pads : List (Fin 1024 × Fin 3))
  /-- BSCAN_IDCODE (R233). -/
  | bscanIdcode
  /-- SAMPLE_PRELOAD (R233). -/
  | samplePreload (upd : List (Fin 3072 × Fin 2)) (pads : List (Fin 1024 × Fin 3))
  /-- CLAMP (R233). -/
  | clamp
  /-- HIGHZ (R233). -/
  | highz
  /-- BSCAN_BYPASS (R233): 0xFF or any opcode that the table of instructions does not list. -/
  | bscanBypass (ir : BitVec 8)
  /-- LANE_EN (R238): LNK_LANE_CTRL.EN; the other fields as last written. -/
  | laneEn (l : Fin 128) (init : Fin 128) (on : Bool)
  /-- LANE_TGT_APPLY (R247). -/
  | laneTgtApply (l : Fin 128)
  /-- RETRAIN (R252): LNK_LANE_CTRL.RETRAIN. -/
  | retrain (l : Fin 128) (init : Fin 128)
  /-- LANE_FAULT_CLR (R250): LNK_LANE_CTRL.FAULT_CLR. -/
  | laneFaultClr (l : Fin 128) (init : Fin 128)
  /-- SYNTH_LOCK (R245). -/
  | synthLock (l : Fin 128)
  /-- SYNTH_LOCK_TIMEOUT (R245). -/
  | synthLockTimeout (l : Fin 128) (noBand : Bool)
  /-- SYNTH_LOCK_LOSS (R245). -/
  | synthLockLoss (l : Fin 128)
  /-- CDR_LOCK_LOSS (R245). -/
  | cdrLockLoss (l : Fin 128)
  /-- TRAINING_FRAME (R239): one frame period; the marker and the status word received, and whether the receiver's adaptation has converged. -/
  | trainingFrame (l : Fin 128) (f : BitVec 64 × BitVec 64 × Bool)
  /-- PAM4_ATTEMPT_END (R242). -/
  | pam4AttemptEnd (l : Fin 128) (errs : BitVec 32)
  /-- TRAINING_TIMEOUT (R243). -/
  | trainingTimeout (l : Fin 128)
  /-- WAKE_TONE_DETECT (R246). -/
  | wakeToneDetect (l : Fin 128)
  /-- PRBS_CFG_WRITE (R248): a write of LNK_PRBS_CFG. -/
  | prbsCfgWrite (l : Fin 128) (init : Fin 128) (w : BitVec 32)
  /-- INJ_SHOT (R249): LNK_PRBS_CFG.INJ_SHOT. -/
  | injShot (l : Fin 128) (init : Fin 128)
  /-- PERIODIC_INJECTION (R249). -/
  | periodicInjection (l : Fin 128)
  /-- PORT_BOND (R255): the frequency offset and the lane skew as measured. -/
  | portBond (q : Fin 32) (ppb : Nat) (skewPs : Nat)
  /-- FLIT_SEND (R258). -/
  | flitSend (q : Fin 32)
  /-- IDLE_FLIT (R271). -/
  | idleFlit (q : Fin 32)
  /-- LACK (R260). -/
  | lack (q : Fin 32) (ack : BitVec 12) (nak : Bool) (freed : List (BitVec 16))
  /-- SCHED (R266). -/
  | sched (q : Fin 32) (seq : BitVec 12) (payload : BitVec 256)
  /-- SCHSYNC (R266). -/
  | schsync (q : Fin 32) (seq : BitVec 12) (mcc : BitVec 64) (depth : BitVec 16)
  /-- MEM_FLIT (R256). -/
  | memFlit (q : Fin 32) (seq : BitVec 12) (w : BitVec 256)
  /-- SVC_FLIT (R383). -/
  | svcFlit (q : Fin 32) (seq : BitVec 12) (w : BitVec 256)
  /-- PHASE_FLIT (R274): `elapsed` step periods after the last event that told the step count. -/
  | phaseFlit (q : Fin 32) (elapsed : Nat) (theirs : BitVec 64) (echo : BitVec 64) (at_ : BitVec 64)
  /-- BAD_FLIT (R259): the port and the 288 bits received. -/
  | badFlit (q : Fin 32 × BitVec 288)
  /-- REPLAY_TIMEOUT (R260). -/
  | replayTimeout (q : Fin 32)
  /-- LINK_SILENCE (R272). -/
  | linkSilence (q : Fin 32)
  /-- LINK_DOWN_TIMEOUT (R272). -/
  | linkDownTimeout (q : Fin 32)
  /-- PORT_FAULT_CLR (R273): LNK_PORT_CTRL.FAULT_CLR. -/
  | portFaultClr (q : Fin 32) (init : Fin 128)
  /-- PORT_SNAP (R285): LNK_PORT_CTRL.SNAP. -/
  | portSnap (q : Fin 32) (init : Fin 128)
  /-- PORT_LP_APPLY (R275). -/
  | portLpApply (q : Fin 32)
  /-- LOWPWR_ENTRY (R275): `partnerDone` tells that every sequenced flit of the partner is acknowledged. -/
  | lowpwrEntry (q : Fin 32) (partnerDone : Bool)
  /-- PORT_REALIGN (R274): LNK_PORT_CTRL.REALIGN. -/
  | portRealign (q : Fin 32) (init : Fin 128)
  /-- READY (R192). -/
  | ready (q : Fin 32) (seq : BitVec 12) (src : Fin 64) (dst : Fin 64) (bcast : Bool) (uid : BitVec 64) (mask : BitVec 16) (blow : Option (BitVec 7))
  /-- FAIL (R192). -/
  | fail (q : Fin 32) (seq : BitVec 12) (src : Fin 64) (dst : Fin 64) (bcast : Bool) (code : BitVec 4)
  /-- COMMIT (R192). -/
  | commit (q : Fin 32) (seq : BitVec 12) (src : Fin 64) (dst : Fin 64) (bcast : Bool) (blow : Option (BitVec 7))
  /-- ABORT (R192). -/
  | abort (q : Fin 32) (seq : BitVec 12) (src : Fin 64) (dst : Fin 64) (bcast : Bool)
  /-- COMMIT_ACK (R192). -/
  | commitAck (q : Fin 32) (seq : BitVec 12) (src : Fin 64) (dst : Fin 64) (bcast : Bool)
  /-- CAS_START (R279): `told` is LNK_STEP_CNT at the receipt. -/
  | casStart (q : Fin 32) (seq : BitVec 12) (src : Fin 64) (dst : Fin 64) (bcast : Bool) (i : Fin 16) (count : BitVec 64) (resume : Bool) (told : BitVec 64)
  /-- START_ACK (R279). -/
  | startAck (q : Fin 32) (seq : BitVec 12) (src : Fin 64) (dst : Fin 64) (bcast : Bool) (i : Fin 16) (code : BitVec 4)
  /-- START_CANCEL (R279). -/
  | startCancel (q : Fin 32) (seq : BitVec 12) (src : Fin 64) (dst : Fin 64) (bcast : Bool) (i : Fin 16)
  /-- CAS_STOP_AT (R280). -/
  | casStopAt (q : Fin 32) (seq : BitVec 12) (src : Fin 64) (dst : Fin 64) (bcast : Bool) (i : Fin 16) (cycle : BitVec 64) (cause : BitVec 4)
  /-- FREEZE_NOW (R213). -/
  | freezeNow (q : Fin 32) (seq : BitVec 12) (src : Fin 64) (dst : Fin 64) (bcast : Bool) (i : Fin 16) (cause : BitVec 4)
  /-- CAS_EVENT (R280). -/
  | casEvent (q : Fin 32) (seq : BitVec 12) (src : Fin 64) (dst : Fin 64) (bcast : Bool) (i : Fin 16) (cause : BitVec 4) (mcc : BitVec 64)
  /-- HALT (R278). -/
  | halt (q : Fin 32) (seq : BitVec 12) (src : Fin 64) (dst : Fin 64) (bcast : Bool) (i : Fin 16) (pkg : Fin 64)
  /-- HEARTBEAT (R278). -/
  | heartbeat (q : Fin 32) (seq : BitVec 12) (src : Fin 64) (dst : Fin 64) (bcast : Bool)
  /-- FLUSH (R264). -/
  | flush (q : Fin 32) (seq : BitVec 12) (src : Fin 64) (dst : Fin 64) (bcast : Bool) (i : Fin 16) (done : Bool)
  /-- LP_REQ (R275). -/
  | lpReq (q : Fin 32) (seq : BitVec 12) (src : Fin 64) (dst : Fin 64) (bcast : Bool) (i : Fin 16) (lp : Fin 4)
  /-- FAULT_NOTE (R278). -/
  | faultNote (q : Fin 32) (seq : BitVec 12) (src : Fin 64) (dst : Fin 64) (bcast : Bool) (i : Fin 16)
  /-- HEARTBEAT_SEND (R278). -/
  | heartbeatSend
  /-- PEER_TIMEOUT (R278). -/
  | peerTimeout (n : Fin 64)
  /-- START_ACK_DEADLINE (R279), of the exchange with the earliest start count that still lacks an answer. -/
  | startAckDeadline
  /-- CASCADE_START_COUNT (R279). -/
  | cascadeStartCount (i : Fin 16) (pads : List (Fin 1024 × Fin 3))
  /-- WHY_ARM (R308): WHY_CAP_CTL.ARM. -/
  | whyArm (init : Fin 128)
  /-- WHY_STOP (R308): WHY_CAP_CTL.STOP. -/
  | whyStop (init : Fin 128)
  /-- WHY_SNAP (R298): WHY_CAP_CTL.SNAP. -/
  | whySnap (init : Fin 128)
  /-- DEFERRED_ARM (R308). -/
  | deferredArm
  /-- FIFO_DRAIN (R294): up to `n` staged bytes go to the sink. -/
  | fifoDrain (d : Fin 8) (n : Nat)
  /-- RING_RPTR_WRITE (R295): a write of WHY_RING_RPTR, both words. -/
  | ringRptrWrite (d : Fin 8) (init : Fin 128) (w : BitVec 64)
  /-- AUTO_TRIGGER_TIMEOUT (R307). -/
  | autoTriggerTimeout
  /-- REGISTER_WRITE (R317): a write through the service address space. -/
  | registerWrite (init : Fin 128) (inst : Option (Fin 16)) (addr : BitVec 40) (data : List (BitVec 32)) (be : Option Nat)
  /-- ALIAS_WRITE (R323): a write of bit `n` of register word `o` (offset 4 * `o` of the die) through the bit-alias window. -/
  | aliasWrite (init : Fin 128) (inst : Option (Fin 16)) (d : Fin 8) (o : Fin 16777216) (n : Fin 32) (w : BitVec 32)
  /-- DOORBELL (R332): a write of MBX_CMD_TAIL. -/
  | doorbell (m : Fin 16) (init : Fin 128) (tail : BitVec 16)
  /-- SLOT_TAKE (R336): `fetched` are the slot's 64 bytes in host memory. -/
  | slotTake (m : Fin 16) (fetched : List (BitVec 8))
  /-- PARTIAL_MESSAGE_TIMEOUT (R336). -/
  | partialMessageTimeout (m : Fin 16)
  /-- COMPLETION_WRITE (R332). -/
  | completionWrite (m : Fin 16)
  /-- CPL_HEAD_WRITE (R332): a write of MBX_CPL_HEAD. -/
  | cplHeadWrite (m : Fin 16) (init : Fin 128) (head : BitVec 16)
  /-- MAILBOX_RESET (R340): MBX_CTRL.RESET. -/
  | mailboxReset (m : Fin 16) (init : Fin 128)
  /-- FETCH_RETRY (R332). -/
  | fetchRetry (m : Fin 16)
  /-- EVENT_WRITE (R349). -/
  | eventWrite
  /-- DEFERRED_ACTION_DONE (R343). -/
  | deferredActionDone (m : Fin 16) (seq : BitVec 16)
  /-- PING (R345): `ms` is the time since ready. -/
  | ping (m : Fin 16) (seq : BitVec 16) (ms : BitVec 64)
  /-- GET_INFO (R345). -/
  | getInfo (m : Fin 16) (seq : BitVec 16)
  /-- GET_FUSEMAP (R345): `fail`: the bytes after which the transfer to the host fails, if it does. -/
  | getFusemap (m : Fin 16) (seq : BitVec 16) (fail : Option Nat)
  /-- GET_HEALTH (R450). -/
  | getHealth (m : Fin 16) (seq : BitVec 16) (fail : Option Nat)
  /-- LOAD_ABORT (R345). -/
  | loadAbort (m : Fin 16) (seq : BitVec 16)
  /-- LOAD_REPORT (R346). -/
  | loadReport (m : Fin 16) (seq : BitVec 16) (fail : Option Nat)
  /-- UNLOAD (R373). -/
  | unload (m : Fin 16) (seq : BitVec 16)
  /-- RUN_CTL_START (R345). -/
  | runCtlStart (m : Fin 16) (seq : BitVec 16)
  /-- RUN_CTL_PAUSE (R345). -/
  | runCtlPause (m : Fin 16) (seq : BitVec 16)
  /-- RUN_CTL_RESUME (R345). -/
  | runCtlResume (m : Fin 16) (seq : BitVec 16)
  /-- RUN_CTL_FREEZE (R345). -/
  | runCtlFreeze (m : Fin 16) (seq : BitVec 16)
  /-- RUN_CTL_SET_STOP_AT (R345). -/
  | runCtlSetStopAt (m : Fin 16) (seq : BitVec 16)
  /-- RUN_CTL_CLEAR_STOP_AT (R345). -/
  | runCtlClearStopAt (m : Fin 16) (seq : BitVec 16)
  /-- INST_RESET (R371). -/
  | instReset (m : Fin 16) (seq : BitVec 16)
  /-- RESET_DRAIN_COMPLETE (R371): `ns` nanoseconds on. -/
  | resetDrainComplete (i : Fin 16) (ns : Nat)
  /-- RESET_OVERRUN (R372). -/
  | resetOverrun (i : Fin 16) (ns : Nat)
  /-- CAVE_OWN (R345). -/
  | caveOwn (m : Fin 16) (seq : BitVec 16)
  /-- MARCH (R345): `fails` are the failing reads by bank of the die. -/
  | march (m : Fin 16) (seq : BitVec 16) (fails : List (Fin 1024 × List (BitVec 14 × BitVec 16)))
  /-- MEM_READ (R345): `ue`: slice address of the first uncorrectable block met, if one is. -/
  | memRead (m : Fin 16) (seq : BitVec 16) (ue : Option Nat) (fail : Option Nat)
  /-- MEM_WRITE (R345): `bytes` are the host buffer's. -/
  | memWrite (m : Fin 16) (seq : BitVec 16) (bytes : List (BitVec 8)) (ue : Option Nat) (fail : Option Nat)
  /-- TRACE_READ (R345). -/
  | traceRead (m : Fin 16) (seq : BitVec 16) (fail : Option Nat)
  /-- LINK_SEND (R348). -/
  | linkSend (m : Fin 16) (seq : BitVec 16) (bytes : List (BitVec 8)) (fail : Option Nat)
  /-- LINK_RECV (R348): `fail`: the transfer to the host fails once that many bytes have been delivered. -/
  | linkRecv (m : Fin 16) (seq : BitVec 16) (fail : Option Nat)
  /-- KEY_EF_PROGRAM (R200): `steady`: the rails have been in range for 10 ms; `reads`: every bit reads back. -/
  | keyEfProgram (m : Fin 16) (seq : BitVec 16) (steady : Bool) (reads : Bool)
  /-- KEY_BB_WRITE (R201). -/
  | keyBbWrite (m : Fin 16) (seq : BitVec 16) (reads : Bool)
  /-- KEY_BB_ZERO (R345). -/
  | keyBbZero (m : Fin 16) (seq : BitVec 16)
  /-- FUSE_POLICY (R345): `stuck` are the bits that do not read back. -/
  | fusePolicy (m : Fin 16) (seq : BitVec 16) (steady : Bool) (stuck : BitVec 3)
  /-- MP_RESTART (R350). -/
  | mpRestart (m : Fin 16) (seq : BitVec 16)
  /-- FLOW_BIND (R357). -/
  | flowBind (m : Fin 16) (seq : BitVec 16)
  /-- FLOW_UNBIND (R357). -/
  | flowUnbind (m : Fin 16) (seq : BitVec 16)
  /-- WDOG_KICK (R350): a write of MBX_WDOG_KICK. -/
  | wdogKick (d : Fin 8) (init : Fin 128)
  /-- WDOG_EXPIRY (R350). -/
  | wdogExpiry (d : Fin 8)
  /-- MP_REBOOT_DONE (R350). -/
  | mpRebootDone (d : Fin 8)
  /-- MP_FAILED (R351). -/
  | mpFailed (d : Fin 8)
  /-- OUTBOUND_ENTRY_WRITE_DONE (R361): the entry write on engine `e` completes, `ns` nanoseconds on. -/
  | outboundEntryWriteDone (e : Fin 40) (ns : Nat)
  /-- CALL_ANSWER (R362): a write of SCH_FLOW_ANS_HI, with SCH_FLOW_ANS_LO in the same access where `lo` gives it. -/
  | callAnswer (f : Fin 4096) (init : Fin 128) (lo : Option (BitVec 32)) (hi : BitVec 32)
  /-- FLOW_HOST_POINTER_WRITE (R359): a write of SCH_FLOW_HOST. -/
  | flowHostPointerWrite (f : Fin 4096) (init : Fin 128) (ptr : BitVec 16)
  /-- INBOUND_FETCH_DONE (R363): the fetch on engine `e` brings an entry. -/
  | inboundFetchDone (e : Fin 40) (ns : Nat) (fseq : BitVec 32) (len : BitVec 16) (words : List (BitVec 16))
  /-- WORK_ITEM_DISPATCH (R367). -/
  | workItemDispatch (e : Fin 40) (ns : Nat)
  /-- DMA_RETRY (R368). -/
  | dmaRetry (e : Fin 40)
  /-- SCH_SNAP (R376): SCH_CTRL.SNAP. -/
  | schSnap (init : Fin 128)
  /-- ENGINE_RETURN (R372): SCH_ENG_CTRL.RETURN. -/
  | engineReturn (e : Fin 40) (init : Fin 128)
  /-- RING_REQUEST (R378): a request packet is inserted and performed at its target stop. -/
  | ringRequest (r : RingPkt)
  /-- RING_RESPONSE (R385): `dep` is the command that the failure of this access ends, if one depends on it. -/
  | ringResponse (init : Fin 128) (tag : BitVec 6) (dep : Option (Fin 16 × BitVec 16))
  /-- RING_MSG (R378). -/
  | ringMsg (d : Fin 8)
  /-- RING_TIMEOUT (R385). -/
  | ringTimeout (init : Fin 128) (tag : BitVec 6) (dep : Option (Fin 16 × BitVec 16))
  /-- REGION_POWER_OFF (R389): SVC_PD_CTL.CMD = 1. -/
  | regionPowerOff (p : Fin 512) (init : Fin 128)
  /-- REGION_DRAINED (R389). -/
  | regionDrained (p : Fin 512)
  /-- DRAIN_TIMEOUT (R389). -/
  | drainTimeout (p : Fin 512)
  /-- REGION_OFF (R389): `us` microseconds after its command. -/
  | regionOff (p : Fin 512) (us : BitVec 16)
  /-- REGION_POWER_ON (R389): SVC_PD_CTL.CMD = 2. -/
  | regionPowerOn (p : Fin 512) (init : Fin 128)
  /-- REGION_ON (R389). -/
  | regionOn (p : Fin 512) (us : BitVec 16)
  /-- AUTO_POWER_OFF (R391). -/
  | autoPowerOff (p : Fin 512)
  /-- PTP_FRAME_RECEIVE (R399). -/
  | ptpFrameReceive (x : EthFrame)
  /-- PTP_FRAME_TRANSMIT (R400): kind 0 Sync, 1 Delay_Req, 2 Pdelay_Req, 3 Pdelay_Resp, 4 general; `csum`: its checksum could not be updated in place.
-/
  | ptpFrameTransmit (kind : Fin 5) (csum : Bool)
  /-- SERVO_OFFSET (R403): the offset NT minus master, the rate that matches the master, and the rate the servo chooses. -/
  | servoOffset (o : Int) (match_ : Int) (want : Int)
  /-- MASTER_LOST (R404). -/
  | masterLost
  /-- TIME_ADJUST (R405): a write of both words of TIM_ADJ. -/
  | timeAdjust (init : Fin 128) (w : BitVec 64)
  /-- LAUNCH_PUSH (R407): TIM_LQ_PUSH.PUSH. -/
  | launchPush (init : Fin 128)
  /-- LAUNCH_FIRE (R408): `n` time-unit clock periods on. -/
  | launchFire (n : Nat) (held : Bool) (csum : Bool)
  /-- LAUNCH_CANCEL (R410): TIM_LQ_CANCEL. -/
  | launchCancel (init : Fin 128) (id : BitVec 6)
  /-- DBG_ACCESS (R415): an ACCESS scan. -/
  | dbgAccess (dr : BitVec 80)
  /-- DBG_PSTAT (R414). -/
  | dbgPstat
  /-- DBG_XTRIG (R424). -/
  | dbgXtrig (mask : BitVec 4)
  /-- DBG_IDCODE (R414). -/
  | dbgIdcode
  /-- DBG_BYPASS (R414). -/
  | dbgBypass
  /-- MP_HALT (R417): DBG_MP_CTL.HALT. -/
  | mpHalt (d : Fin 8) (init : Fin 128)
  /-- MP_RESUME (R417): DBG_MP_CTL.RESUME. -/
  | mpResume (d : Fin 8) (init : Fin 128)
  /-- MP_STEP (R417): DBG_MP_CTL.STEP. -/
  | mpStep (d : Fin 8) (init : Fin 128)
  /-- MP_BREAKPOINT (R417). -/
  | mpBreakpoint (d : Fin 8)
  /-- MP_REG_WRITE (R418): a write of both words of DBG_MP_REG. -/
  | mpRegWrite (d : Fin 8) (init : Fin 128) (w : BitVec 64)
  /-- MP_FEED (R418): a write of DBG_MP_FEED; `o` is what the instruction does. -/
  | mpFeed (d : Fin 8) (init : Fin 128) (insn : BitVec 32) (o : FeedOut)
  /-- XT_PULSE (R424): a write of DBG_XT_PULSE. -/
  | xtPulse (init : Fin 128) (mask : BitVec 4)
  /-- XTRIG_IN (R424). -/
  | xtrigIn
  /-- DEBUG_FREEZE (R425): DBG_INST_CTL.FREEZE. -/
  | debugFreeze (i : Fin 16) (init : Fin 128)
  /-- DEBUG_RELEASE (R426): DBG_INST_CTL.RELEASE. -/
  | debugRelease (i : Fin 16) (init : Fin 128)
  /-- DEBUG_STEP (R427): DBG_INST_CTL.STEP. -/
  | debugStep (i : Fin 16) (init : Fin 128)
  /-- RESET_RELEASE (R432). -/
  | resetRelease (env : BootEnv)
  /-- DIE_BOOT_TIMEOUT (R443). -/
  | dieBootTimeout (d : Fin 8)
  /-- FIRMWARE_READY (R441). -/
  | firmwareReady (ms : BitVec 32)
  /-- PCIE_LINK_UP (R442). -/
  | pcieLinkUp (port : Fin 2)
  /-- REFERENCE_INVALID (R436): input A, B or recovered. -/
  | referenceInvalid (k : Fin 3)
  /-- REFERENCE_VALID (R436). -/
  | referenceValid (k : Fin 3)
  /-- REF_CTRL_WRITE (R437): a write of ADC_REF_CTRL; `far`: the two references differ by more than a hitless switch takes. -/
  | refCtrlWrite (init : Fin 128) (w : BitVec 32) (far : Bool)
  /-- ROOT_WRITE (R440): ADC_CLK_CFG.ROOT. -/
  | rootWrite (init : Fin 128) (root : Bool)
  /-- ROOT_LOCK_LOSS (R440). -/
  | rootLockLoss (d : Fin 8)
  /-- ADC_START (R446): ADC_CTRL.START. -/
  | adcStart (d : Fin 8) (init : Fin 128)
  /-- ADC_CONVERSION_END (R446). -/
  | adcConversionEnd (d : Fin 8) (code : BitVec 12)
  /-- RAIL_DEPARTURE (R447): rail CORE, TIER, AUX, SD or SDA at `mv` millivolts. -/
  | railDeparture (d : Fin 8) (r : Fin 5) (mv : BitVec 16)
  /-- TEMP_WARN (R448): sensor `n` at `v`, in 0.01 °C. -/
  | tempWarn (d : Fin 8) (n : Fin 4) (v : Int)
  /-- TEMP_CRIT (R448). -/
  | tempCrit (d : Fin 8) (n : Fin 4) (v : Int)
  /-- THERMAL_TRIP (R448). -/
  | thermalTrip (d : Fin 8) (n : Fin 4)
  /-- TEMP_CLEAR (R448). -/
  | tempClear (d : Fin 8) (n : Fin 4) (crit : Bool) (v : Int)
  /-- POWER_LOSS (R453). -/
  | powerLoss (c : CutWrite)
  /-- BRIDGE_REALIGNMENT (R79). -/
  | bridgeRealignment (d : Fin 8) (k : Fin 4)
  /-- PLL_RELOCK (R440). -/
  | pllRelock (d : Fin 8)
  /-- RAIL_RETURN (R447). -/
  | railReturn (d : Fin 8) (r : Fin 5) (mv : BitVec 16)
  /-- VBAT_LOSS (R201). -/
  | vbatLoss
  /-- PRBS_CHECKER_RECEIVE (R248): the bits received, `b` first. -/
  | prbsCheckerReceive (l : Fin 128) (b : Bool) (more : List Bool)
  /-- MP_WATCHPOINT_MATCH (R423): a fetch, or a load or store of `n` bytes. -/
  | mpWatchpointMatch (d : Fin 8) (fetch : Bool) (write : Bool) (addr : BitVec 64) (n : Fin 9) (data : List (BitVec 32))
  /-- ADC_CONVERSION_BOUNDARY (R446). -/
  | adcConversionBoundary (d : Fin 8)
  /-- NT_MICROSECOND (R413): `n` time-unit clock periods on. -/
  | ntMicrosecond (n : Nat)
  /-- HBM_ACCESS_WINDOW (R154). -/
  | hbmAccessWindow (j : Fin 4) (pc : Fin 32)
  /-- TIMED_OUT_TAG_RELEASE (R385). -/
  | timedOutTagRelease (init : Fin 128) (tag : BitVec 6)
deriving DecidableEq, Repr

end Sys2Proof
end

