-- ==== Sys2Proof/Decode.lean ====
section
/-!
DEFINITION. The commands that a word spells by the bits of the table. No row of the table gives bits: a command reaches the part as a register access,
a mailbox command, a record of a stream, a flit or an event, never as an instruction word. Every word is refused.
-/
namespace Sys2Proof

/-- The command of a word by the table's bits: none, for the table gives no row any. -/
def decodeTableWord (_nbits _w : Nat) : Option Instr := none

end Sys2Proof
end

