-- ==== Sys2Proof/Config.lean ====
section
/-!
DEFINITION. What the spec leaves open. Each constant has no body: nothing proved of the model can rest on its value.
The assumption log's rows name every one.
-/
namespace Sys2Proof

/-- The n-th free value the machine draws (undefined bits, power-on contents, values the spec does not state); applied to
the counter `fresh` of the state, so each draw is a new unknown. -/
opaque Config.freeValue : Nat → Nat

/-- Manufacturer identity in the IDCODE register (R233, R414): given by the BSDL file, not by the spec. -/
opaque Config.manufacturerId : Nat

end Sys2Proof
end

