-- ==== Sys2Proof/Machine/MailTypes.lean ====
section
/-!
DEFINITION. The data types of the mailboxes (R331-R343): slots, messages, completions, the result cache.
-/
namespace Sys2Proof.Machine

/-- Status codes of Table 167. -/
inductive Status where
  | ok | deferred | busy | duplicate | rejected | fault
deriving DecidableEq, Repr

/-- Reason codes of Table 168. -/
inductive Reason where
  | none | badOpcode | badArgs | seqGap | seqStale | incomplete | slotCheck | instState | notOwner | policy | notMaster | grade
  | depth | initBad | supply | loadFail | instReset | resourceBusy | notReady | settling | mpRestart | mpFailed | hostDma | verify
  | engineFault | laneFault | abandoned
deriving DecidableEq, Repr

/-- A command slot as the device fetched it (Table 164); the two flags say whether MAGIC and CHK are right. -/
structure MSlot where
  seq     : Nat
  idx     : Nat
  last    : Nat
  magicOk : Bool := true
  chkOk   : Bool := true
  body    : List Nat            -- 56 byte values
deriving DecidableEq, Repr

/-- An accepted command (Table 165). `order` is its place in the order of acceptance over all mailboxes (R344). -/
structure Msg where
  seq   : Nat
  op    : Nat
  prio  : Nat
  inst  : Nat
  flags : Nat
  args  : List Nat
  tag   : Nat
  order : Nat
  started : Bool := false
  xfer  : Option Nat := none          -- items its transfer still needs, while it waits for them
deriving DecidableEq, Repr

/-- A message being assembled (R336): slots taken so far and their bodies. -/
structure Asm where
  seq  : Nat
  last : Nat
  n    : Nat
  body : List Nat
  pos  : Nat                    -- place of its first slot in the ring
deriving DecidableEq, Repr

/-- A completion entry that waits for ring space (Table 166). -/
structure Cpl where
  seq    : Nat
  op     : Nat
  status : Nat
  orig   : Nat
  reason : Nat
  qdepth : Nat
  tag    : Nat
  result : List Nat
deriving DecidableEq, Repr

/-- One entry of the result cache (R339); status none while the command is in progress. -/
structure CacheEnt where
  seq    : Nat
  op     : Nat
  status : Option Status
  reason : Reason := .none
  result : List Nat := []
deriving DecidableEq, Repr

/-- A mailbox beside its registers. -/
structure Mailbox where
  asm   : Option Asm := none
  run   : List Msg := []
  cache : List CacheEnt := []          -- at most 256, newest first
  cplq  : List Cpl := []               -- oldest first
  wrote : Nat := 0                     -- completions written since the last reset of the mailbox
deriving DecidableEq, Repr

/-- A LINK_SEND under way (R348): its command, its port and its length in bytes; whether it was answered DEFERRED, and whether it has ended in an
error with its flits still to go. -/
structure SendJob where
  mbx   : Nat
  seq   : Nat
  port  : Nat
  bytes : Nat
  deferred : Bool := false
  ended : Bool := false
deriving DecidableEq, Repr

/-- A LINK_RECV posted (R348); `fail` tells after how many bytes its transfer fails, if it does. -/
structure RecvJob where
  mbx  : Nat
  seq  : Nat
  port : Nat
  addr : Nat
  len  : Nat
  got  : Nat := 0
  fail : Option Nat := none
deriving DecidableEq, Repr

end Sys2Proof.Machine
end

