-- ==== Sys2Proof/Machine/SchTypes.lean ====
section
/-!
DEFINITION. The data types of the task scheduler, the transactor flows and the instance reset (R356-R375).
-/
namespace Sys2Proof.Machine

/-- What a work item does (Table 182): a mailbox command; at most 64 KiB of the transfer that a command makes (of type TRC for TRACE_READ); a
transfer between packages on a port (R369); an entry write or fetch of a flow. -/
inductive ItemRef where
  | cmd (mbx seq : Nat)
  | move (mbx seq : Nat) (trc : Bool)
  | pkg (port : Nat)
  | out (flow fseq : Nat)
  | inb (flow : Nat)
deriving DecidableEq, Repr

/-- Type code of an item (Table 182). -/
def ItemRef.code : ItemRef → Nat
  | .cmd _ _ => 0 | .move _ _ t => if t then 2 else 1 | .pkg _ => 1 | .out _ _ => 3 | .inb _ => 3

/-- The item belongs to the transfer of this command. -/
def ItemRef.moves : ItemRef → Nat → Nat → Bool
  | .move a b _, m, seq => a == m && b == seq
  | _, _, _ => false

/-- A work item (R365); `engine` is the engine it runs on, none while it is ready. -/
structure Item where
  num    : Nat
  prio   : Nat
  inst   : Option Nat
  arr    : Nat
  ref    : ItemRef
  engine : Option Nat := none
deriving DecidableEq, Repr

/-- A staged outbound entry (R360, R361). -/
structure FlowEnt where
  fseq    : Nat
  slot    : Nat
  words   : List Nat
  inst    : Nat
  call    : Bool
  mcc     : Nat
  taken   : Nat              -- time of the take, ns
  written : Bool := false
deriving DecidableEq, Repr

/-- A flow beside its registers. `calls` are the unanswered calls, oldest first: FSEQ and whether released. -/
structure Flow where
  unit  : Nat := 0                        -- word unit, die*2048 + region*32 + cluster
  out   : List FlowEnt := []
  inb   : List (List Nat) := []
  calls : List (Nat × Bool) := []
  word  : Nat := 0
  halt  : Bool := false                   -- stopped by a sequence or length error until it is unbound (R363)
  unbind : Option (Nat × Nat) := none     -- FLOW_UNBIND command to complete: mailbox and SEQ
deriving DecidableEq, Repr

/-- An instance reset or unload under way (R370-R373). -/
structure Reset where
  unload  : Bool := false
  mbx     : Option (Nat × Nat) := none    -- INST_RESET or UNLOAD command to complete
  caveOwn : List Nat := []                -- banks to hand back at the end of the restore (R135)
  patch   : Bool := false                 -- performed for RESTORE = 1 (R205)
  since   : Nat := 0                      -- time of acceptance, ns
deriving DecidableEq, Repr

/-- The scheduler beside its registers. -/
structure Sched where
  items  : List Item := []
  num    : Nat := 0                       -- items created so far
  now    : Nat := 0                       -- time in ns, as far as commands have told it
  flows  : Store Flow := []
  resets : Store (Option Reset) := []
  since  : NStore := []                   -- engine: time + 1 at which it became busy
  busy   : NStore := []                   -- engine: busy time so far, ns (SCH_ENG_BUSY_US)
  spans  : List (Nat × Nat × Nat) := []   -- engine, begin and end of its busy times, ns, that reach into the last 1,024 us
deriving DecidableEq, Repr

end Sys2Proof.Machine
end

