-- ==== Sys2Proof/Machine/Fields.lean ====
section
/-!
DEFINITION. Names of every register and register field of the package (spec Tables 17-22, 31, 44, 45, 57, 59-61,
69-71, 81-83, 91, 105, 109-111, 120-122, 131, 132, 142, 143, 152-154, 160, 174-176, 186-189, 197, 202, 207-210,
217-219): one constructor of `Reg` per register, one of `Fld` per field that holds a value (a WO field holds none, R317).
A field of a register that the spec repeats (per die, region, lane, flow ...) is one name with an index.
-/
namespace Sys2Proof.Machine

/-- The register blocks of Table 159 (R324); the block code is the position plus one. -/
inductive Blk where
  | ARY | XBR | WU | CAV | QUE | IOC | LNK | CFG | TRN | WHY | RNT | MBX | SCH | SVC | TIM | ADC | DBG
deriving DecidableEq, Repr

/-- Access types of Table 157 (R317). -/
inductive Acc where
  | RW | RO | W1C | WO | RWB
deriving DecidableEq, Repr

/-- Every register that has a name in the spec's register tables. -/
inductive Reg where
  | ARY_RUN_CTL | ARY_RUN_STAT | ARY_CFG_INFO | ARY_CTRL | ARY_STOP_AT_LO | ARY_STOP_AT_HI | ARY_CALL_TMO
  | ARY_STOP_POS | ARY_ERR | ARY_MCC | ARY_TOTAL | ARY_EXEC | ARY_STALL_LNK | ARY_STALL_QUE | ARY_STALL_CALL
  | ARY_HOLD_FLOW | ARY_STALLED_MC | ARY_BP_REFUSE | ARY_VMAP_REG | ARY_VMAP_CL | ARY_VMAP_USE
  | ARY_VMAP_BANK | XBR_GDL_HOST | XBR_GDL_VAL | XBR_NOCAP_CNT | XBR_GDL_CFG | XBR_ROUTE_REFUSE0
  | XBR_ROUTE_REFUSE1 | XBR_BRG_STAT | XBR_BRG_PERR | XBR_OWN_BRG | XBR_OWN_THR | XBR_OWN_VALID
  | XBR_OWN_VALID_THR | WU_REFUSE | WU_INST_EXC | WU_INST_EXC_CNT | WU_INST_EXC_CYC | WU_EXC_SUM
  | WU_EXC_FLAGS | WU_EXC_POS | WU_EXC_CYC | WU_EXC_LOOPA | WU_EXC_LOOPB | WU_EXC_CNT | CAV_OWN
  | CAV_PORT_CFG | CAV_BUSY_CNT | CAV_DROP_CNT | CAV_ATOM_CMD | CAV_ATOM_RES | CAV_MARCH_RES | CAV_MARCH_CNT
  | CAV_MARCH_CTL | CAV_MARCH_STAT | CAV_STAT | CAV_AVAIL | CAV_INST_BUSY_CNT | CAV_INST_DROP_CNT
  | CAV_INST_SKIP_CNT | QUE_ISSUED | QUE_SKIPPED | QUE_CANCELLED | QUE_COMPLETED | QUE_ORPHANED | QUE_PURGED
  | QUE_UNCORR | QUE_STALL | QUE_LEVEL | QUE_STAT | QUE_LAT_MAX | QUE_LAT_LAST | QUE_ENT_STAT
  | QUE_WAIT_FREE_CNT | QUE_INST_CFG | QUE_INST_ERR | QUE_INST_UE_ADDR | QUE_SEG_MAP | QUE_HBM_CFG
  | QUE_HBM_CE | QUE_HBM_UE | QUE_HBM_UE_LOG | QUE_SEG_OWN | CFG_CTRL | CFG_LOAD_STAT | CFG_FAIL_INFO
  | CFG_STALL_TMO | CFG_COMMIT_TMO | CFG_CHUNK_RX | CFG_CHUNK_TAKEN | CFG_CHUNK_SKIP | CFG_CHUNK_BAD
  | CFG_BYTES | CFG_SEC | CFG_GEN | CFG_KEY_STAT | CFG_KCV_EF | CFG_KCV_BB | CFG_UID | CFG_PKG
  | CFG_STREAM_ID | TRN_CTRL | TRN_STAT | TRN_CHECKED | TRN_CLEAN | TRN_CE | TRN_UE | TRN_PASS_CNT
  | TRN_PASS_US | TRN_CE_ADDR | TRN_CE_BIT | TRN_UE_ADDR | TRN_UE_INFO | TRN_BAD_SUM | TRN_DRR_BAD
  | TRN_INST_STAT | TRN_INST_UE_CYC | TRN_INST_UE_ADDR | TRN_INST_CE_CNT | IOC_CELL_CFG | IOC_CELL_STAT
  | IOC_BANK_CFG | IOC_BANK_STAT | IOC_BANK_VFAULT_CNT | IOC_SCAN_STAT | LNK_LANE_CTRL | LNK_LANE_STAT
  | LNK_LANE_PARTNER | LNK_LANE_TXEQ | LNK_LANE_RXINFO | LNK_PRBS_CFG | LNK_PRBS_STAT | LNK_PRBS_USER
  | LNK_PRBS_BITS | LNK_PRBS_ERR | LNK_PRBS_INJ | LNK_TRAIN_CNT | LNK_LOSS_CNT | LNK_STATE_CNT
  | LNK_FAULT_SUM | LNK_COMPAT_STRAP | LNK_TRAIN_TMO | LNK_PORT_CTRL | LNK_PORT_STAT | LNK_DOWN_TMO
  | LNK_PORT_PARTNER | LNK_SEQ | LNK_RPL_USED | LNK_TX_NEW | LNK_ACKED | LNK_RPL_DROP | LNK_RPL_EVT
  | LNK_RPL_FLITS | LNK_RX_ACCEPT | LNK_RX_BAD | LNK_RX_GAP | LNK_RX_DUP | LNK_STALL_RX | LNK_STALL_TX
  | LNK_DOWN_CNT | LNK_VC_CRD | LNK_VC_OCC | LNK_VC_SENT | LNK_VC_CRRET | LNK_VC_RESTORED | LNK_VC_RCVD
  | LNK_VC_FREED | LNK_VC_DISC | LNK_CAS_STAT | LNK_CAS_LEAD | LNK_CAS_PEER_TMO | LNK_CAS_LOST
  | LNK_CAS_ALIVE | LNK_STEP_CNT | LNK_CAS_MSG_TX | LNK_CAS_MSG_RX | WHY_SINK_CFG | WHY_PROBE_CNT
  | WHY_RING_WPTR | WHY_RING_RPTR | WHY_RING_OLDEST | WHY_RING_WRAPS | WHY_FIFO_LEVEL | WHY_BYTES_PROD
  | WHY_BYTES_WR | WHY_BYTES_LOST | WHY_PKT_LOST | WHY_LOST_PEND | WHY_STAT | WHY_RING_SEG | WHY_CAP_CTL
  | WHY_CAP_STAT | WHY_CAP_CFG | WHY_POST | WHY_ARM_MCC | WHY_END_MCC | RNT_CMP_SRC | RNT_CMP_VAL
  | RNT_CMP_HIT | RNT_ST_CFG | RNT_BR_MASK_LO | RNT_BR_MASK_HI | RNT_BR_CTL | RNT_BR_ACT | RNT_CNT_CFG
  | RNT_CNT_LIM | RNT_CNT_VAL | RNT_TMR_LIM | RNT_TMR_VAL | RNT_TMR_LAST | RNT_CTL | RNT_AUTO_TMO | RNT_STAT
  | RNT_TRIG_MCC | RNT_TRIG_INFO | MBX_MP_STAT | MBX_WDOG_CFG | MBX_WDOG_KICK | MBX_WDOG_CNT
  | MBX_MP_RESTART_CNT | MBX_CTRL | MBX_RING_CFG | MBX_CMD_BASE | MBX_CPL_BASE | MBX_CMD_TAIL | MBX_CMD_HEAD
  | MBX_CPL_TAIL | MBX_CPL_HEAD | MBX_SEQ | MBX_STAT | MBX_SLOT_POSTED | MBX_SLOT_USED | MBX_SLOT_DISC
  | MBX_MSG_IN | MBX_MSG_DISC | MBX_CPL_WR | MBX_MSG_DUP | MBX_MSG_BUSY | MBX_EVT_CTRL | MBX_EVT_BASE
  | MBX_EVT_TAIL | MBX_EVT_HEAD | MBX_EVT_PROD | MBX_EVT_WR | MBX_EVT_LOST | MBX_EVT_PEND | MBX_PKG_STAT
  | MSIX_ADDR | MSIX_DATA | MSIX_CTL | MSIX_PBA
  | SCH_CTRL | SCH_STAT | SCH_POOL | SCH_DL | SCH_DEPTH_LO | SCH_DEPTH_HI | SCH_CREATED | SCH_DONE
  | SCH_PURGED | SCH_READY | SCH_RUN | SCH_LATE | SCH_WAIT_HIST | SCH_DMA_ISSUED | SCH_DMA_DONE
  | SCH_DMA_DISCARD | SCH_DMA_ACTIVE | SCH_DMA_RETRY | SCH_INST_RST | SCH_INST_OUT | SCH_INST_RST_US
  | SCH_INST_RST_CNT | SCH_INST_PURGED | SCH_ENG_STAT | SCH_ENG_CTRL | SCH_ENG_DONE | SCH_ENG_LOAD
  | SCH_ENG_BUSY_US | SCH_FLOW_CFG | SCH_FLOW_BUF | SCH_FLOW_STAT | SCH_FLOW_HOST | SCH_FLOW_DEV
  | SCH_FLOW_TAKEN | SCH_FLOW_REL | SCH_FLOW_PURGED | SCH_FLOW_ANS_LO | SCH_FLOW_ANS_HI | SCH_FLOW_HOLD
  | SCH_FLOW_LAT_MAX | SCH_FLOW_RING | SCH_FLOW_RINGCFG | SCH_FLOW_SNAPLVL | SVC_TMO | SVC_STAT | SVC_CE_CNT
  | SVC_UE_CNT | SVC_TMO_LOG_ADDR | SVC_TMO_LOG_INFO | SVC_PD_AUTO | SVC_RMT_ROUTE | SVC_REQ | SVC_RSP
  | SVC_ERR | SVC_TMO_CNT | SVC_OUTST | SVC_LATE | SVC_PD_CTL | SVC_PD_STAT | SVC_PD_CNT | SVC_PD_US
  | TIM_CTRL | TIM_STAT | TIM_NT | TIM_NS | TIM_SEC | TIM_RATE | TIM_ADJ | TIM_STEP_THR | TIM_SLEW_MAX
  | TIM_LOCK_THR | TIM_SYNC_TMO | TIM_PTP_CFG | TIM_STEP_CNT | TIM_STEP_LOG_AMT | TIM_STEP_LOG_AT
  | TIM_OFFSET | TIM_HOLD_MS | TIM_GUARD | TIM_ETH_STAT | TIM_ETH_TXLAT | TIM_ETH_RXDISC | TIM_ETH_CSUM
  | TIM_LQ_W | TIM_LQ_PUSH | TIM_LQ_RES | TIM_LQ_CANCEL | TIM_LQ_LEVEL | TIM_LQ_PUSHED | TIM_LQ_FIRED
  | TIM_LQ_DISC | TIM_LQ_CANCELLED | TIM_LQ_LATE | DBG_PORT_CTL | DBG_PORT_STAT | DBG_PORT_CNT
  | DBG_PORT_REFUSED | DBG_XT_SRC | DBG_XT_SINK | DBG_XT_PULSE | DBG_XT_STAT | DBG_MP_CTL | DBG_MP_STAT
  | DBG_MP_REG_SEL | DBG_MP_REG | DBG_MP_FEED | DBG_MP_CTX | DBG_MP_HALT_CNT | DBG_WP_LO | DBG_WP_HI
  | DBG_WP_CTL | DBG_WP_DATA | DBG_WP_MASK | DBG_WP_CNT | DBG_WP_STAT | DBG_PATCH_CTL | DBG_PATCH_DATA
  | DBG_PATCH_LOCK | DBG_INST_CTL | DBG_INST_STEPN | DBG_INST_STAT | DBG_INST_LEFT | ADC_CTRL | ADC_CFG
  | ADC_STAT | ADC_RESULT | ADC_CONV_CNT | ADC_MON_RAIL | ADC_MON_TEMP | ADC_MON_THR | ADC_MON_UV_CNT
  | ADC_PLL_STAT | ADC_CLK_CFG | ADC_REF_CTRL | ADC_REF_STAT | ADC_REF_SW_CNT | ADC_BOOT_STAT | ADC_BOOT_MS
  | ADC_FW_VER | BLK_ID | BLK_ERR | BLK_ERR_ADDR | BLK_ERR_CNT | QUE_REFUSE
deriving DecidableEq, Repr

/-- Every register field that holds a value, named `<register>_<field>`, or by its register alone where that has one field. -/
inductive Fld where
  | ARY_RUN_STAT_STATE | ARY_RUN_STAT_MID_CYCLE | ARY_RUN_STAT_STOP_CAUSE | ARY_RUN_STAT_STALLING
  | ARY_RUN_STAT_STALL_CAUSE | ARY_RUN_STAT_HOLDING | ARY_RUN_STAT_PAUSE_PEND | ARY_RUN_STAT_FREEZE_PEND
  | ARY_RUN_STAT_BUF_PEND | ARY_RUN_STAT_SNAP_PEND | ARY_CFG_INFO_DEPTH | ARY_CFG_INFO_COMPAT
  | ARY_CFG_INFO_CASCADE | ARY_CFG_INFO_MASTER | ARY_CFG_INFO_EDGE_LEN | ARY_CTRL_STOP_AT_EN
  | ARY_CTRL_FREEZE_ON_WU_EXC | ARY_CTRL_FAULT_IO_OFF | ARY_STOP_AT_LO | ARY_STOP_AT_HI | ARY_CALL_TMO
  | ARY_STOP_POS | ARY_ERR_CMD_IGNORED | ARY_ERR_START_REFUSED | ARY_ERR_RESUME_BLOCKED | ARY_MCC | ARY_TOTAL
  | ARY_EXEC | ARY_STALL_LNK | ARY_STALL_QUE | ARY_STALL_CALL | ARY_HOLD_FLOW | ARY_STALLED_MC
  | ARY_BP_REFUSE_REGION | ARY_BP_REFUSE_CLUSTER | ARY_BP_REFUSE_BP | ARY_BP_REFUSE_SLOT
  | ARY_BP_REFUSE_REASON | ARY_BP_REFUSE_VALID | ARY_VMAP_REG_REGION | ARY_VMAP_REG_DIE | ARY_VMAP_REG_USED
  | ARY_VMAP_REG_VALID | ARY_VMAP_CL | ARY_VMAP_USE | ARY_VMAP_BANK | XBR_GDL_HOST | XBR_GDL_VAL
  | XBR_NOCAP_CNT | XBR_GDL_CFG_MODE | XBR_GDL_CFG_DIE | XBR_GDL_CFG_REGION | XBR_GDL_CFG_CLUSTER
  | XBR_GDL_CFG_BP | XBR_GDL_CFG_ADDR | XBR_ROUTE_REFUSE0_SLOT | XBR_ROUTE_REFUSE0_FIELD
  | XBR_ROUTE_REFUSE0_REGION | XBR_ROUTE_REFUSE0_LEVEL | XBR_ROUTE_REFUSE0_VALID | XBR_ROUTE_REFUSE1
  | XBR_BRG_STAT_PRESENT | XBR_BRG_STAT_ALIGNED | XBR_BRG_STAT_ALIGN_LOST | XBR_BRG_STAT_PERR | XBR_BRG_PERR
  | XBR_OWN_BRG | XBR_OWN_THR | XBR_OWN_VALID | XBR_OWN_VALID_THR | WU_REFUSE_REGION | WU_REFUSE_CLUSTER
  | WU_REFUSE_WADDR | WU_REFUSE_REASON | WU_REFUSE_VALID | WU_INST_EXC_PEND | WU_INST_EXC_FRZ_REQ
  | WU_INST_EXC_FIRST_DIE | WU_INST_EXC_FIRST_REGION | WU_INST_EXC_FIRST_CLUSTER | WU_INST_EXC_FIRST_VALID
  | WU_INST_EXC_CNT | WU_INST_EXC_CYC | WU_EXC_SUM | WU_EXC_FLAGS_OVF | WU_EXC_FLAGS_SAT | WU_EXC_FLAGS_DVF
  | WU_EXC_FLAGS_VALID | WU_EXC_FLAGS_MULTI | WU_EXC_POS_STEP_IDX | WU_EXC_POS_WADDR | WU_EXC_POS_KIND
  | WU_EXC_POS_DEST | WU_EXC_POS_MODE | WU_EXC_CYC | WU_EXC_LOOPA_LC0 | WU_EXC_LOOPA_LC1 | WU_EXC_LOOPB_LC2
  | WU_EXC_LOOPB_LC3 | WU_EXC_LOOPB_DEPTH | WU_EXC_CNT | CAV_OWN_INST | CAV_OWN_KIND | CAV_OWN_PEND
  | CAV_PORT_CFG_WIDTH_A | CAV_PORT_CFG_BUSY15_A | CAV_PORT_CFG_WIDTH_B | CAV_PORT_CFG_BUSY15_B
  | CAV_BUSY_CNT | CAV_DROP_CNT | CAV_ATOM_RES_OLD | CAV_ATOM_RES_DONE | CAV_MARCH_RES_FIRST_ADDR
  | CAV_MARCH_RES_FAIL | CAV_MARCH_RES_TESTED | CAV_MARCH_RES_FAIL_BITS | CAV_MARCH_CNT | CAV_MARCH_STAT_BUSY
  | CAV_MARCH_STAT_DONE | CAV_MARCH_STAT_FAILED | CAV_STAT | CAV_AVAIL | CAV_INST_BUSY_CNT
  | CAV_INST_DROP_CNT | CAV_INST_SKIP_CNT | QUE_ISSUED | QUE_SKIPPED | QUE_CANCELLED | QUE_COMPLETED
  | QUE_ORPHANED | QUE_PURGED | QUE_UNCORR | QUE_STALL | QUE_LEVEL_INFLIGHT | QUE_LEVEL_INFLIGHT_CUR
  | QUE_LEVEL_HELD | QUE_LEVEL_OWNER | QUE_LEVEL_OWNED | QUE_STAT_SKIP_INV | QUE_STAT_SKIP_RANGE
  | QUE_STAT_ORPHAN | QUE_STAT_WAIT_FREE | QUE_LAT_MAX | QUE_LAT_LAST | QUE_ENT_STAT | QUE_WAIT_FREE_CNT
  | QUE_INST_CFG | QUE_INST_ERR | QUE_INST_UE_ADDR | QUE_SEG_MAP_SEGMENT | QUE_SEG_MAP_STACK
  | QUE_SEG_MAP_VALID | QUE_HBM_CFG_TRC_MIN | QUE_HBM_CFG_SVC_MIN | QUE_HBM_CE | QUE_HBM_UE | QUE_HBM_UE_LOG
  | QUE_SEG_OWN_INST | QUE_SEG_OWN_KIND | CFG_LOAD_STAT_PHASE | CFG_LOAD_STAT_FAIL | CFG_LOAD_STAT_PATCH
  | CFG_LOAD_STAT_ERR | CFG_LOAD_STAT_DONE | CFG_LOAD_STAT_PEER_MISSING | CFG_LOAD_STAT_GEN_ADV_PEND
  | CFG_LOAD_STAT_NOT_ADDRESSED | CFG_FAIL_INFO_SECTION | CFG_FAIL_INFO_INST | CFG_FAIL_INFO_CHUNK
  | CFG_STALL_TMO | CFG_COMMIT_TMO | CFG_CHUNK_RX | CFG_CHUNK_TAKEN | CFG_CHUNK_SKIP | CFG_CHUNK_BAD
  | CFG_BYTES | CFG_SEC_SECURE | CFG_SEC_EF_KEY_DIS | CFG_SEC_BB_KEY_DIS | CFG_GEN | CFG_KEY_STAT_EF_VALID
  | CFG_KEY_STAT_BB_VALID | CFG_KEY_STAT_BB_SLOT | CFG_KCV_EF | CFG_KCV_BB | CFG_UID | CFG_PKG_PKG_ID
  | CFG_PKG_MASTER_SEL | CFG_STREAM_ID | TRN_CTRL_EN | TRN_CTRL_INTERVAL | TRN_STAT_ACTIVE | TRN_STAT_CE
  | TRN_STAT_UE | TRN_CHECKED | TRN_CLEAN | TRN_CE | TRN_UE | TRN_PASS_CNT | TRN_PASS_US | TRN_CE_ADDR
  | TRN_CE_BIT | TRN_UE_ADDR | TRN_UE_INFO_KIND | TRN_UE_INFO_VALID | TRN_BAD_SUM | TRN_DRR_BAD
  | TRN_INST_STAT_BAD | TRN_INST_STAT_INIT_BAD | TRN_INST_STAT_FRZ_REQ | TRN_INST_UE_CYC | TRN_INST_UE_ADDR
  | TRN_INST_CE_CNT | IOC_CELL_CFG_MODE | IOC_CELL_CFG_SLEW | IOC_CELL_CFG_DRIVE | IOC_CELL_CFG_KEEPER
  | IOC_CELL_CFG_PULL | IOC_CELL_CFG_INIT | IOC_CELL_CFG_INIT_EN | IOC_CELL_STAT_PAD | IOC_CELL_STAT_VAL
  | IOC_CELL_STAT_OE | IOC_CELL_STAT_DRV | IOC_BANK_CFG_VIO | IOC_BANK_CFG_OWNER | IOC_BANK_CFG_OWNED
  | IOC_BANK_STAT_VOK | IOC_BANK_STAT_ENABLED | IOC_BANK_STAT_VFAULT | IOC_BANK_STAT_SCAN
  | IOC_BANK_VFAULT_CNT | IOC_SCAN_STAT_BSCAN_CE | IOC_SCAN_STAT_IR | LNK_LANE_CTRL_EN | LNK_LANE_CTRL_TGT
  | LNK_LANE_CTRL_MODE_MAX | LNK_LANE_STAT_STATE | LNK_LANE_STAT_PHASE | LNK_LANE_STAT_RATE
  | LNK_LANE_STAT_SYN_LOCK | LNK_LANE_STAT_CDR_LOCK | LNK_LANE_STAT_SIG_DET | LNK_LANE_STAT_COMPAT_MISMATCH
  | LNK_LANE_STAT_FAULT_CAUSE | LNK_LANE_STAT_ETA_US | LNK_LANE_PARTNER_ID | LNK_LANE_PARTNER_PAM4_CAP
  | LNK_LANE_PARTNER_VALID | LNK_LANE_TXEQ_PRE1 | LNK_LANE_TXEQ_MAIN | LNK_LANE_TXEQ_POST1
  | LNK_LANE_TXEQ_SWING | LNK_LANE_RXINFO_EYE | LNK_LANE_RXINFO_CTLE | LNK_PRBS_CFG_GEN_PAT
  | LNK_PRBS_CFG_CHK_PAT | LNK_PRBS_CFG_GEN_EN | LNK_PRBS_CFG_CHK_EN | LNK_PRBS_CFG_LOOPBACK
  | LNK_PRBS_CFG_INJ_MODE | LNK_PRBS_CFG_INJ_PERIOD | LNK_PRBS_STAT_CHK_LOCK | LNK_PRBS_STAT_ERR_SEEN
  | LNK_PRBS_USER | LNK_PRBS_BITS | LNK_PRBS_ERR | LNK_PRBS_INJ | LNK_TRAIN_CNT_OK | LNK_TRAIN_CNT_FAIL
  | LNK_LOSS_CNT_SYN_LOSS | LNK_LOSS_CNT_CDR_LOSS | LNK_STATE_CNT_FALLBACK | LNK_STATE_CNT_COLD_EXIT
  | LNK_FAULT_SUM | LNK_COMPAT_STRAP | LNK_TRAIN_TMO | LNK_PORT_CTRL_EN | LNK_PORT_CTRL_LP
  | LNK_PORT_STAT_STATE | LNK_PORT_STAT_MODE | LNK_PORT_STAT_ID_ERR | LNK_PORT_STAT_RATE_ERR
  | LNK_PORT_STAT_FREQ_ERR | LNK_PORT_STAT_PHASE_ERR | LNK_PORT_STAT_SCHED_ERR | LNK_PORT_STAT_LP_BLOCKED
  | LNK_PORT_STAT_OWNER | LNK_PORT_STAT_OWNED | LNK_PORT_STAT_PHASE_OFF | LNK_PORT_STAT_DOWN_SEEN
  | LNK_DOWN_TMO | LNK_PORT_PARTNER_PKG | LNK_PORT_PARTNER_PORT | LNK_PORT_PARTNER_VALID | LNK_SEQ_TX_NEXT
  | LNK_SEQ_RX_EXP | LNK_RPL_USED | LNK_TX_NEW | LNK_ACKED | LNK_RPL_DROP | LNK_RPL_EVT | LNK_RPL_FLITS
  | LNK_RX_ACCEPT | LNK_RX_BAD | LNK_RX_GAP | LNK_RX_DUP | LNK_STALL_RX | LNK_STALL_TX | LNK_DOWN_CNT
  | LNK_VC_CRD_LIMIT | LNK_VC_CRD_AVAIL | LNK_VC_OCC | LNK_VC_SENT | LNK_VC_CRRET | LNK_VC_RESTORED
  | LNK_VC_RCVD | LNK_VC_FREED | LNK_VC_DISC | LNK_CAS_STAT_MASTER | LNK_CAS_STAT_UP_PORT
  | LNK_CAS_STAT_UP_VALID | LNK_CAS_STAT_ALIGNED | LNK_CAS_LEAD | LNK_CAS_PEER_TMO | LNK_CAS_LOST_PKG
  | LNK_CAS_LOST_VALID | LNK_CAS_ALIVE | LNK_STEP_CNT | LNK_CAS_MSG_TX | LNK_CAS_MSG_RX | WHY_SINK_CFG_SINK
  | WHY_SINK_CFG_RING_MODE | WHY_SINK_CFG_PORT | WHY_SINK_CFG_RING_SEGS | WHY_SINK_CFG_STAGE_BANKS
  | WHY_SINK_CFG_OWNED | WHY_PROBE_CNT | WHY_RING_WPTR | WHY_RING_RPTR | WHY_RING_OLDEST | WHY_RING_WRAPS
  | WHY_FIFO_LEVEL | WHY_BYTES_PROD | WHY_BYTES_WR | WHY_BYTES_LOST | WHY_PKT_LOST | WHY_LOST_PEND | WHY_STAT
  | WHY_RING_SEG_SEGMENT | WHY_RING_SEG_STACK | WHY_RING_SEG_VALID | WHY_CAP_STAT_STATE | WHY_CAP_STAT_REASON
  | WHY_CAP_STAT_OWNER | WHY_CAP_STAT_OWNED | WHY_CAP_STAT_CMD_IGNORED | WHY_CAP_STAT_SNAP_VALID
  | WHY_CAP_CFG_SYNC_PERIOD | WHY_CAP_CFG_DONE_FRZ | WHY_CAP_CFG_ARM_ON_START | WHY_POST | WHY_ARM_MCC
  | WHY_END_MCC | RNT_CMP_SRC_BITPOS | RNT_CMP_SRC_DIE | RNT_CMP_SRC_WORD | RNT_CMP_SRC_SIGNED
  | RNT_CMP_SRC_OP | RNT_CMP_SRC_EN | RNT_CMP_VAL_VALUE | RNT_CMP_VAL_MASK | RNT_CMP_HIT | RNT_ST_CFG
  | RNT_BR_MASK_LO | RNT_BR_MASK_HI | RNT_BR_CTL_EN | RNT_BR_CTL_ALL | RNT_BR_CTL_CNT_DONE
  | RNT_BR_CTL_TMR_DONE | RNT_BR_CTL_NEXT | RNT_BR_ACT_CNT_CLR | RNT_BR_ACT_TMR_START | RNT_BR_ACT_TMR_STOP
  | RNT_BR_ACT_TRIGGER | RNT_BR_ACT_FREEZE | RNT_CNT_CFG_SRC | RNT_CNT_CFG_ALWAYS | RNT_CNT_CFG_STATES
  | RNT_CNT_LIM | RNT_CNT_VAL | RNT_TMR_LIM | RNT_TMR_VAL | RNT_TMR_LAST | RNT_CTL | RNT_AUTO_TMO
  | RNT_STAT_STATE | RNT_STAT_ARMED | RNT_STAT_TRIGGERED | RNT_STAT_RETRIG | RNT_TRIG_MCC | RNT_TRIG_INFO
  | MBX_MP_STAT_STATE | MBX_MP_STAT_WDOG_EXP | MBX_WDOG_CFG | MBX_WDOG_CNT | MBX_MP_RESTART_CNT | MBX_CTRL_EN
  | MBX_CTRL_ONCHIP | MBX_CTRL_PRIO | MBX_CTRL_PORT | MBX_CTRL_IRQ_EN | MBX_CTRL_MAXQ | MBX_RING_CFG
  | MBX_CMD_BASE | MBX_CPL_BASE | MBX_CMD_TAIL | MBX_CMD_HEAD | MBX_CPL_TAIL | MBX_CPL_HEAD | MBX_SEQ
  | MBX_STAT_BUSY | MBX_STAT_INFLIGHT | MBX_STAT_CPL_PEND | MBX_STAT_ASM | MBX_STAT_STALL_CPL
  | MBX_STAT_FETCH_ERR | MBX_STAT_SLOT_ERR | MBX_SLOT_POSTED | MBX_SLOT_USED | MBX_SLOT_DISC | MBX_MSG_IN
  | MBX_MSG_DISC | MBX_CPL_WR | MBX_MSG_DUP | MBX_MSG_BUSY | MBX_EVT_CTRL_EN | MBX_EVT_CTRL_LOG2N
  | MBX_EVT_CTRL_IRQ_EN | MBX_EVT_CTRL_PORT | MBX_EVT_BASE | MBX_EVT_TAIL | MBX_EVT_HEAD | MBX_EVT_PROD
  | MBX_EVT_WR | MBX_EVT_LOST | MBX_EVT_PEND | MBX_PKG_STAT_FW_READY | MBX_PKG_STAT_MASTER_FAILED
  | MBX_PKG_STAT_PORT0_UP | MBX_PKG_STAT_PORT1_UP | SCH_STAT_EDF | SCH_STAT_POOL_EMPTY
  | SCH_STAT_ENGINE_FAULT | SCH_POOL | SCH_DL | SCH_DEPTH_LO | SCH_DEPTH_HI | SCH_CREATED | SCH_DONE
  | SCH_PURGED | SCH_READY | SCH_RUN | SCH_LATE | SCH_WAIT_HIST | SCH_DMA_ISSUED | SCH_DMA_DONE
  | SCH_DMA_DISCARD | SCH_DMA_ACTIVE | SCH_DMA_RETRY | SCH_INST_RST_PHASE | SCH_INST_RST_OVERRUN
  | SCH_INST_OUT | SCH_INST_RST_US | SCH_INST_RST_CNT | SCH_INST_PURGED | SCH_ENG_STAT_PRESENT
  | SCH_ENG_STAT_FAULT | SCH_ENG_STAT_INPROG | SCH_ENG_STAT_INST | SCH_ENG_STAT_INST_VALID | SCH_ENG_DONE
  | SCH_ENG_LOAD | SCH_ENG_BUSY_US | SCH_FLOW_CFG_CALL | SCH_FLOW_CFG_VDIE | SCH_FLOW_CFG_VREGION
  | SCH_FLOW_CFG_VCLUSTER | SCH_FLOW_CFG_DEPTHM1 | SCH_FLOW_CFG_PRIO | SCH_FLOW_CFG_NREG | SCH_FLOW_CFG_NBIT
  | SCH_FLOW_BUF_BASE | SCH_FLOW_BUF_LEN | SCH_FLOW_STAT_STATE | SCH_FLOW_STAT_DIR | SCH_FLOW_STAT_SEQ_ERR
  | SCH_FLOW_STAT_DMA_ERR | SCH_FLOW_STAT_STAGED | SCH_FLOW_STAT_CALLS | SCH_FLOW_STAT_OWNER
  | SCH_FLOW_STAT_OWNED | SCH_FLOW_STAT_LEN_ERR | SCH_FLOW_HOST | SCH_FLOW_DEV | SCH_FLOW_TAKEN
  | SCH_FLOW_REL | SCH_FLOW_PURGED | SCH_FLOW_ANS_LO | SCH_FLOW_HOLD | SCH_FLOW_LAT_MAX | SCH_FLOW_RING
  | SCH_FLOW_RINGCFG_LOG2N | SCH_FLOW_RINGCFG_ENTRY_BYTES | SCH_FLOW_SNAPLVL | SVC_TMO | SVC_STAT_CE
  | SVC_STAT_UE | SVC_STAT_TMO | SVC_CE_CNT | SVC_UE_CNT | SVC_TMO_LOG_ADDR | SVC_TMO_LOG_INFO_INITIATOR
  | SVC_TMO_LOG_INFO_INST | SVC_TMO_LOG_INFO_INST_VALID | SVC_TMO_LOG_INFO_WRITE | SVC_TMO_LOG_INFO_VALID
  | SVC_PD_AUTO | SVC_RMT_ROUTE_PORT | SVC_RMT_ROUTE_VALID | SVC_REQ | SVC_RSP | SVC_ERR | SVC_TMO_CNT
  | SVC_OUTST | SVC_LATE | SVC_PD_STAT_STATE | SVC_PD_STAT_TMO | SVC_PD_CNT_OFF | SVC_PD_CNT_ON | SVC_PD_US
  | TIM_CTRL | TIM_STAT_STATE | TIM_STAT_STEPPED | TIM_STAT_LATE | TIM_STAT_CLK_LOST | TIM_STAT_VALID
  | TIM_NT | TIM_NS | TIM_SEC | TIM_RATE | TIM_STEP_THR | TIM_SLEW_MAX | TIM_LOCK_THR | TIM_SYNC_TMO
  | TIM_PTP_CFG_PORT | TIM_PTP_CFG_TRANSPORT | TIM_PTP_CFG_P2P | TIM_PTP_CFG_SLAVE_ONLY | TIM_PTP_CFG_DOMAIN
  | TIM_STEP_CNT | TIM_STEP_LOG_AMT | TIM_STEP_LOG_AT | TIM_OFFSET | TIM_HOLD_MS | TIM_GUARD
  | TIM_ETH_STAT_LINK | TIM_ETH_STAT_RSFEC | TIM_ETH_TXLAT_PS | TIM_ETH_TXLAT_RXLAT | TIM_ETH_RXDISC
  | TIM_ETH_CSUM | TIM_LQ_W | TIM_LQ_RES_ID | TIM_LQ_RES_REFUSE | TIM_LQ_LEVEL | TIM_LQ_PUSHED | TIM_LQ_FIRED
  | TIM_LQ_DISC | TIM_LQ_CANCELLED | TIM_LQ_LATE | DBG_PORT_CTL | DBG_PORT_STAT_OVERRUN | DBG_PORT_STAT_BUSY
  | DBG_PORT_CNT | DBG_PORT_REFUSED | DBG_XT_SRC_WP | DBG_XT_SRC_MP_HALT | DBG_XT_SRC_RENNET
  | DBG_XT_SRC_XTRIG_IN | DBG_XT_SINK_HALT_MP | DBG_XT_SINK_XTRIG_OUT | DBG_XT_SINK_INST | DBG_XT_STAT
  | DBG_MP_CTL_RST_HALT | DBG_MP_CTL_WDOG_RUN | DBG_MP_STAT_HALTED | DBG_MP_STAT_HALT_CAUSE
  | DBG_MP_STAT_FEED_BUSY | DBG_MP_STAT_FEED_ERR | DBG_MP_REG_SEL | DBG_MP_REG | DBG_MP_CTX_INST
  | DBG_MP_CTX_VALID | DBG_MP_HALT_CNT | DBG_WP_LO | DBG_WP_HI | DBG_WP_CTL_EN | DBG_WP_CTL_SRC
  | DBG_WP_CTL_RD | DBG_WP_CTL_WR | DBG_WP_CTL_IMODE | DBG_WP_CTL_INST | DBG_WP_CTL_INIT_EN
  | DBG_WP_CTL_INITIATOR | DBG_WP_CTL_LINK | DBG_WP_CTL_DATA_EN | DBG_WP_CTL_HALT_MP | DBG_WP_CTL_XT
  | DBG_WP_DATA | DBG_WP_MASK | DBG_WP_CNT | DBG_WP_STAT_HIT | DBG_WP_STAT_FIRST | DBG_WP_STAT_FIRST_VALID
  | DBG_PATCH_CTL_BLOCK | DBG_PATCH_CTL_EN | DBG_PATCH_DATA | DBG_PATCH_LOCK | DBG_INST_STEPN
  | DBG_INST_STAT_HOLD | DBG_INST_STAT_FRZ_PEND | DBG_INST_STAT_STEPPING | DBG_INST_STAT_STEP_REFUSED
  | DBG_INST_LEFT | ADC_CTRL_MODE | ADC_CTRL_HOST | ADC_CFG_CHAN | ADC_CFG_REF | ADC_CFG_RATE | ADC_STAT_BUSY
  | ADC_STAT_REF_SETTLED | ADC_RESULT_CODE | ADC_RESULT_CHAN | ADC_RESULT_REF | ADC_RESULT_UNSETTLED
  | ADC_RESULT_SEQ | ADC_CONV_CNT | ADC_MON_RAIL_IN | ADC_MON_RAIL_OUT | ADC_MON_TEMP_WARN
  | ADC_MON_TEMP_CRIT | ADC_MON_TEMP_WARN_SEEN | ADC_MON_TEMP_CRIT_SEEN | ADC_MON_THR_WARN | ADC_MON_THR_CRIT
  | ADC_MON_UV_CNT | ADC_PLL_STAT_ROOT_LOCK | ADC_PLL_STAT_ROOT_HOLD | ADC_PLL_STAT_SD_LOCK
  | ADC_PLL_STAT_HBM_LOCK | ADC_PLL_STAT_ROOT_LOCK_LOST | ADC_CLK_CFG_ROOT | ADC_CLK_CFG_GRADE
  | ADC_REF_CTRL_PRI | ADC_REF_CTRL_ALT | ADC_REF_CTRL_REVERT | ADC_REF_CTRL_REC_PORT | ADC_REF_STAT_ACTIVE
  | ADC_REF_STAT_A_VALID | ADC_REF_STAT_B_VALID | ADC_REF_STAT_REC_VALID | ADC_REF_STAT_HOLDOVER
  | ADC_REF_STAT_LOST | ADC_REF_STAT_SWITCHED | ADC_REF_SW_CNT | ADC_BOOT_STAT_PHASE | ADC_BOOT_STAT_FAIL
  | ADC_BOOT_STAT_COPY | ADC_BOOT_STAT_DIE_FAIL | ADC_BOOT_MS | ADC_FW_VER | BLK_ID_CODE | BLK_ID_REV
  | BLK_ERR_CAUSE | BLK_ERR_WRITE | BLK_ERR_ALIAS | BLK_ERR_INITIATOR | BLK_ERR_INST | BLK_ERR_VALID
  | BLK_ERR_ADDR | BLK_ERR_CNT | MSIX_ADDR | MSIX_DATA | MSIX_MASK | MSIX_PBA | QUE_REFUSE_REGION | QUE_REFUSE_PORT | QUE_REFUSE_DESC | QUE_REFUSE_REASON
  | QUE_REFUSE_VALID
deriving DecidableEq, Repr

end Sys2Proof.Machine
end

