-- ==== Sys2Proof/Machine/RegMap.lean ====
section
/-!
DEFINITION. The register map: width and reset value of every field, and for every register its block, slot, offset,
the strides by which the spec repeats it, and its fields with bit positions and access types (R317, R318, R324, R325
and the register tables of each chapter).
-/
namespace Sys2Proof.Machine

/-- Width in bits of a field, from the bit ranges of the register tables. -/
def Fld.width : Fld → Nat
  | .MSIX_MASK | .ARY_RUN_STAT_MID_CYCLE | .ARY_RUN_STAT_STALLING | .ARY_RUN_STAT_HOLDING | .ARY_RUN_STAT_PAUSE_PEND
  | .ARY_RUN_STAT_FREEZE_PEND | .ARY_RUN_STAT_BUF_PEND | .ARY_RUN_STAT_SNAP_PEND | .ARY_CFG_INFO_COMPAT
  | .ARY_CFG_INFO_CASCADE | .ARY_CFG_INFO_MASTER | .ARY_CTRL_STOP_AT_EN | .ARY_CTRL_FREEZE_ON_WU_EXC
  | .ARY_CTRL_FAULT_IO_OFF | .ARY_ERR_CMD_IGNORED | .ARY_ERR_START_REFUSED | .ARY_ERR_RESUME_BLOCKED
  | .ARY_BP_REFUSE_VALID | .ARY_VMAP_REG_VALID | .XBR_ROUTE_REFUSE0_VALID | .WU_REFUSE_VALID
  | .WU_INST_EXC_PEND | .WU_INST_EXC_FRZ_REQ | .WU_INST_EXC_FIRST_VALID | .WU_EXC_FLAGS_OVF
  | .WU_EXC_FLAGS_SAT | .WU_EXC_FLAGS_DVF | .WU_EXC_FLAGS_VALID | .WU_EXC_FLAGS_MULTI | .CAV_OWN_PEND
  | .CAV_PORT_CFG_BUSY15_A | .CAV_PORT_CFG_BUSY15_B | .CAV_ATOM_RES_DONE | .CAV_MARCH_RES_FAIL
  | .CAV_MARCH_RES_TESTED | .CAV_MARCH_STAT_BUSY | .CAV_MARCH_STAT_DONE | .CAV_STAT | .QUE_LEVEL_OWNED
  | .QUE_STAT_SKIP_INV | .QUE_STAT_SKIP_RANGE | .QUE_STAT_ORPHAN | .QUE_STAT_WAIT_FREE | .QUE_INST_ERR
  | .QUE_SEG_MAP_VALID | .CFG_LOAD_STAT_PATCH | .CFG_LOAD_STAT_ERR | .CFG_LOAD_STAT_DONE
  | .CFG_LOAD_STAT_PEER_MISSING | .CFG_LOAD_STAT_GEN_ADV_PEND | .CFG_LOAD_STAT_NOT_ADDRESSED | .CFG_CHUNK_BAD
  | .CFG_SEC_SECURE | .CFG_SEC_EF_KEY_DIS | .CFG_SEC_BB_KEY_DIS | .CFG_KEY_STAT_EF_VALID
  | .CFG_KEY_STAT_BB_VALID | .CFG_KEY_STAT_BB_SLOT | .CFG_PKG_MASTER_SEL | .TRN_CTRL_EN | .TRN_STAT_ACTIVE
  | .TRN_STAT_CE | .TRN_STAT_UE | .TRN_UE_INFO_VALID | .TRN_DRR_BAD | .TRN_INST_STAT_INIT_BAD
  | .TRN_INST_STAT_FRZ_REQ | .IOC_CELL_CFG_KEEPER | .IOC_CELL_CFG_INIT | .IOC_CELL_CFG_INIT_EN
  | .IOC_CELL_STAT_PAD | .IOC_CELL_STAT_VAL | .IOC_CELL_STAT_OE | .IOC_CELL_STAT_DRV | .IOC_BANK_CFG_OWNED
  | .IOC_BANK_STAT_VOK | .IOC_BANK_STAT_ENABLED | .IOC_BANK_STAT_VFAULT | .IOC_BANK_STAT_SCAN
  | .IOC_SCAN_STAT_BSCAN_CE | .LNK_LANE_CTRL_EN | .LNK_LANE_CTRL_MODE_MAX | .LNK_LANE_STAT_SYN_LOCK
  | .LNK_LANE_STAT_CDR_LOCK | .LNK_LANE_STAT_SIG_DET | .LNK_LANE_STAT_COMPAT_MISMATCH
  | .LNK_LANE_PARTNER_PAM4_CAP | .LNK_LANE_PARTNER_VALID | .LNK_PRBS_CFG_GEN_EN | .LNK_PRBS_CFG_CHK_EN
  | .LNK_PRBS_STAT_CHK_LOCK | .LNK_PRBS_STAT_ERR_SEEN | .LNK_PORT_CTRL_EN | .LNK_PORT_STAT_ID_ERR
  | .LNK_PORT_STAT_RATE_ERR | .LNK_PORT_STAT_FREQ_ERR | .LNK_PORT_STAT_PHASE_ERR | .LNK_PORT_STAT_SCHED_ERR
  | .LNK_PORT_STAT_LP_BLOCKED | .LNK_PORT_STAT_OWNED | .LNK_PORT_STAT_DOWN_SEEN | .LNK_PORT_PARTNER_VALID
  | .LNK_CAS_STAT_MASTER | .LNK_CAS_STAT_UP_VALID | .LNK_CAS_STAT_ALIGNED | .LNK_CAS_LOST_VALID
  | .WHY_SINK_CFG_OWNED | .WHY_STAT | .WHY_RING_SEG_VALID | .WHY_CAP_STAT_OWNED | .WHY_CAP_STAT_CMD_IGNORED
  | .WHY_CAP_STAT_SNAP_VALID | .WHY_CAP_CFG_DONE_FRZ | .WHY_CAP_CFG_ARM_ON_START | .RNT_CMP_SRC_WORD
  | .RNT_CMP_SRC_SIGNED | .RNT_CMP_SRC_EN | .RNT_ST_CFG | .RNT_BR_CTL_EN | .RNT_BR_CTL_ALL
  | .RNT_BR_ACT_TRIGGER | .RNT_BR_ACT_FREEZE | .RNT_CNT_CFG_ALWAYS | .RNT_CTL | .RNT_STAT_ARMED
  | .RNT_STAT_TRIGGERED | .MBX_MP_STAT_WDOG_EXP | .MBX_CTRL_EN | .MBX_CTRL_ONCHIP | .MBX_CTRL_PORT
  | .MBX_CTRL_IRQ_EN | .MBX_STAT_BUSY | .MBX_STAT_STALL_CPL | .MBX_STAT_FETCH_ERR | .MBX_STAT_SLOT_ERR
  | .MBX_EVT_CTRL_EN | .MBX_EVT_CTRL_IRQ_EN | .MBX_EVT_CTRL_PORT | .MBX_PKG_STAT_FW_READY
  | .MBX_PKG_STAT_MASTER_FAILED | .MBX_PKG_STAT_PORT0_UP | .MBX_PKG_STAT_PORT1_UP | .SCH_STAT_EDF
  | .SCH_STAT_POOL_EMPTY | .SCH_STAT_ENGINE_FAULT | .SCH_INST_RST_OVERRUN | .SCH_ENG_STAT_PRESENT
  | .SCH_ENG_STAT_FAULT | .SCH_ENG_STAT_INST_VALID | .SCH_FLOW_CFG_CALL | .SCH_FLOW_STAT_DIR
  | .SCH_FLOW_STAT_SEQ_ERR | .SCH_FLOW_STAT_DMA_ERR | .SCH_FLOW_STAT_OWNED | .SCH_FLOW_STAT_LEN_ERR
  | .SVC_STAT_CE | .SVC_STAT_UE | .SVC_STAT_TMO | .SVC_TMO_LOG_INFO_INST_VALID | .SVC_TMO_LOG_INFO_WRITE
  | .SVC_TMO_LOG_INFO_VALID | .SVC_RMT_ROUTE_VALID | .SVC_PD_STAT_TMO | .TIM_STAT_STEPPED | .TIM_STAT_LATE
  | .TIM_STAT_CLK_LOST | .TIM_STAT_VALID | .TIM_PTP_CFG_PORT | .TIM_PTP_CFG_P2P | .TIM_PTP_CFG_SLAVE_ONLY
  | .TIM_ETH_STAT_LINK | .TIM_ETH_STAT_RSFEC | .DBG_PORT_CTL | .DBG_PORT_STAT_OVERRUN | .DBG_PORT_STAT_BUSY
  | .DBG_XT_SRC_MP_HALT | .DBG_XT_SRC_RENNET | .DBG_XT_SRC_XTRIG_IN | .DBG_XT_SINK_HALT_MP
  | .DBG_XT_SINK_XTRIG_OUT | .DBG_MP_CTL_RST_HALT | .DBG_MP_CTL_WDOG_RUN | .DBG_MP_STAT_HALTED
  | .DBG_MP_STAT_FEED_BUSY | .DBG_MP_STAT_FEED_ERR | .DBG_MP_CTX_VALID | .DBG_WP_CTL_EN | .DBG_WP_CTL_RD
  | .DBG_WP_CTL_WR | .DBG_WP_CTL_INIT_EN | .DBG_WP_CTL_LINK | .DBG_WP_CTL_DATA_EN | .DBG_WP_CTL_HALT_MP
  | .DBG_WP_STAT_FIRST_VALID | .DBG_PATCH_CTL_EN | .DBG_PATCH_LOCK | .DBG_INST_STAT_HOLD
  | .DBG_INST_STAT_FRZ_PEND | .DBG_INST_STAT_STEPPING | .DBG_INST_STAT_STEP_REFUSED | .ADC_CTRL_MODE
  | .ADC_CTRL_HOST | .ADC_STAT_BUSY | .ADC_STAT_REF_SETTLED | .ADC_RESULT_UNSETTLED | .ADC_PLL_STAT_ROOT_LOCK
  | .ADC_PLL_STAT_ROOT_HOLD | .ADC_PLL_STAT_SD_LOCK | .ADC_PLL_STAT_HBM_LOCK | .ADC_PLL_STAT_ROOT_LOCK_LOST
  | .ADC_CLK_CFG_ROOT | .ADC_CLK_CFG_GRADE | .ADC_REF_CTRL_REVERT | .ADC_REF_STAT_A_VALID
  | .ADC_REF_STAT_B_VALID | .ADC_REF_STAT_REC_VALID | .ADC_REF_STAT_HOLDOVER | .ADC_REF_STAT_LOST
  | .ADC_REF_STAT_SWITCHED | .ADC_BOOT_STAT_COPY | .BLK_ERR_WRITE | .BLK_ERR_ALIAS | .BLK_ERR_VALID
  | .QUE_REFUSE_VALID => 1
  | .ARY_RUN_STAT_STALL_CAUSE | .XBR_GDL_CFG_MODE | .XBR_ROUTE_REFUSE0_LEVEL | .WU_EXC_POS_KIND
  | .CAV_OWN_KIND | .QUE_ENT_STAT | .QUE_SEG_MAP_STACK | .TRN_UE_INFO_KIND | .IOC_CELL_CFG_SLEW
  | .IOC_CELL_CFG_DRIVE | .IOC_CELL_CFG_PULL | .LNK_LANE_CTRL_TGT | .LNK_LANE_STAT_RATE
  | .LNK_LANE_STAT_FAULT_CAUSE | .LNK_LANE_TXEQ_SWING | .LNK_PRBS_CFG_LOOPBACK | .LNK_PRBS_CFG_INJ_MODE
  | .LNK_PORT_CTRL_LP | .LNK_PORT_STAT_MODE | .WHY_SINK_CFG_SINK | .WHY_SINK_CFG_RING_MODE
  | .WHY_RING_SEG_STACK | .WHY_CAP_STAT_STATE | .MBX_CTRL_PRIO | .SCH_FLOW_CFG_PRIO | .SCH_FLOW_STAT_STATE
  | .TIM_CTRL | .TIM_STAT_STATE | .TIM_PTP_CFG_TRANSPORT | .TIM_LQ_RES_REFUSE | .DBG_WP_CTL_SRC
  | .DBG_WP_CTL_IMODE | .ADC_CFG_REF | .ADC_RESULT_REF | .ADC_REF_CTRL_PRI | .ADC_REF_CTRL_ALT
  | .ADC_REF_STAT_ACTIVE => 2
  | .ARY_RUN_STAT_STATE | .ARY_VMAP_REG_DIE | .XBR_GDL_CFG_DIE | .WU_INST_EXC_FIRST_DIE | .WU_EXC_LOOPB_DEPTH
  | .CAV_PORT_CFG_WIDTH_A | .CAV_PORT_CFG_WIDTH_B | .QUE_SEG_OWN_KIND | .CFG_LOAD_STAT_PHASE
  | .IOC_CELL_CFG_MODE | .IOC_BANK_CFG_VIO | .LNK_LANE_STAT_STATE | .LNK_LANE_STAT_PHASE
  | .LNK_PRBS_CFG_GEN_PAT | .LNK_PRBS_CFG_CHK_PAT | .LNK_PORT_STAT_STATE | .WHY_CAP_STAT_REASON
  | .RNT_CMP_SRC_DIE | .MBX_MP_STAT_STATE | .SCH_INST_RST_PHASE | .SCH_ENG_STAT_INPROG | .SCH_FLOW_CFG_VDIE
  | .SVC_PD_STAT_STATE | .DBG_MP_STAT_HALT_CAUSE | .DBG_WP_STAT_FIRST | .ADC_BOOT_STAT_PHASE
  | .QUE_REFUSE_PORT => 3
  | .ARY_RUN_STAT_STOP_CAUSE | .ARY_BP_REFUSE_REASON | .XBR_ROUTE_REFUSE1 | .XBR_BRG_STAT_PRESENT
  | .XBR_BRG_STAT_ALIGNED | .XBR_BRG_STAT_ALIGN_LOST | .XBR_BRG_STAT_PERR | .XBR_OWN_BRG | .XBR_OWN_THR
  | .WU_REFUSE_REASON | .WU_EXC_POS_MODE | .CAV_OWN_INST | .QUE_LEVEL_OWNER | .QUE_SEG_OWN_INST
  | .CFG_LOAD_STAT_FAIL | .CFG_FAIL_INFO_INST | .IOC_BANK_CFG_OWNER | .LNK_COMPAT_STRAP
  | .LNK_PORT_STAT_OWNER | .WHY_CAP_STAT_OWNER | .RNT_CMP_SRC_OP | .RNT_BR_CTL_TMR_DONE | .RNT_BR_CTL_NEXT
  | .RNT_BR_ACT_TMR_START | .RNT_BR_ACT_TMR_STOP | .RNT_STAT_STATE | .MBX_RING_CFG | .MBX_STAT_ASM
  | .MBX_EVT_CTRL_LOG2N | .SCH_ENG_STAT_INST | .SCH_FLOW_CFG_NBIT | .SCH_FLOW_STAT_OWNER
  | .SCH_FLOW_RINGCFG_LOG2N | .SVC_TMO_LOG_INFO_INST | .DBG_XT_STAT | .DBG_MP_CTX_INST | .DBG_WP_CTL_INST
  | .DBG_WP_CTL_XT | .ADC_CFG_CHAN | .ADC_RESULT_CHAN | .ADC_MON_TEMP_WARN | .ADC_MON_TEMP_CRIT
  | .ADC_MON_TEMP_WARN_SEEN | .ADC_MON_TEMP_CRIT_SEEN | .ADC_BOOT_STAT_FAIL | .BLK_ID_REV | .BLK_ERR_CAUSE
  | .BLK_ERR_INST | .QUE_REFUSE_REASON => 4
  | .ARY_BP_REFUSE_CLUSTER | .ARY_VMAP_CL | .XBR_GDL_CFG_CLUSTER | .WU_REFUSE_CLUSTER
  | .WU_INST_EXC_FIRST_CLUSTER | .LNK_PRBS_CFG_INJ_PERIOD | .LNK_PORT_PARTNER_PORT | .LNK_CAS_STAT_UP_PORT
  | .WHY_SINK_CFG_PORT | .SCH_FLOW_CFG_VCLUSTER | .SCH_FLOW_CFG_NREG | .SVC_RMT_ROUTE_PORT | .ADC_MON_RAIL_IN
  | .ADC_MON_RAIL_OUT | .ADC_REF_CTRL_REC_PORT => 5
  | .ARY_BP_REFUSE_REGION | .ARY_BP_REFUSE_BP | .ARY_VMAP_REG_REGION | .ARY_VMAP_REG_USED
  | .XBR_GDL_CFG_REGION | .XBR_GDL_CFG_BP | .XBR_ROUTE_REFUSE0_REGION | .WU_REFUSE_REGION
  | .WU_INST_EXC_FIRST_REGION | .WU_EXC_POS_DEST | .QUE_HBM_CFG_TRC_MIN | .QUE_HBM_CFG_SVC_MIN
  | .CFG_PKG_PKG_ID | .LNK_LANE_TXEQ_PRE1 | .LNK_LANE_TXEQ_MAIN | .LNK_LANE_TXEQ_POST1
  | .LNK_PORT_PARTNER_PKG | .LNK_CAS_LOST_PKG | .RNT_CNT_CFG_SRC | .MBX_CTRL_MAXQ | .SCH_DMA_ACTIVE
  | .SCH_FLOW_CFG_VREGION | .SCH_FLOW_CFG_DEPTHM1 | .TIM_LQ_RES_ID | .DBG_MP_REG_SEL | .QUE_REFUSE_REGION
  | .QUE_REFUSE_DESC => 6
  | .QUE_LEVEL_HELD | .CFG_GEN | .WHY_SINK_CFG_STAGE_BANKS | .MBX_STAT_INFLIGHT | .MBX_STAT_CPL_PEND
  | .SCH_FLOW_STAT_STAGED | .SCH_FLOW_STAT_CALLS | .SCH_FLOW_SNAPLVL | .SVC_OUTST | .TIM_LQ_LEVEL => 7
  | .XBR_OWN_VALID | .XBR_OWN_VALID_THR | .QUE_LEVEL_INFLIGHT | .QUE_LEVEL_INFLIGHT_CUR
  | .QUE_SEG_MAP_SEGMENT | .CFG_FAIL_INFO_SECTION | .IOC_SCAN_STAT_IR | .LNK_LANE_RXINFO_EYE
  | .LNK_LANE_RXINFO_CTLE | .LNK_PORT_STAT_PHASE_OFF | .WHY_SINK_CFG_RING_SEGS | .WHY_RING_SEG_SEGMENT
  | .RNT_BR_CTL_CNT_DONE | .RNT_BR_ACT_CNT_CLR | .SVC_TMO_LOG_INFO_INITIATOR | .TIM_PTP_CFG_DOMAIN
  | .DBG_XT_SRC_WP | .DBG_WP_CTL_INITIATOR | .DBG_WP_STAT_HIT | .ADC_CFG_RATE | .ADC_MON_THR_WARN
  | .ADC_MON_THR_CRIT | .ADC_BOOT_STAT_DIE_FAIL | .BLK_ID_CODE | .BLK_ERR_INITIATOR => 8
  | .MBX_EVT_PEND => 9
  | .ARY_STOP_POS | .ARY_BP_REFUSE_SLOT | .XBR_GDL_CFG_ADDR | .XBR_ROUTE_REFUSE0_SLOT | .WU_REFUSE_WADDR
  | .WU_EXC_POS_STEP_IDX | .WU_EXC_POS_WADDR | .QUE_INST_CFG | .TRN_INST_STAT_BAD | .LNK_TRAIN_TMO
  | .LNK_RPL_USED | .MBX_WDOG_CFG | .SCH_ENG_LOAD | .SCH_FLOW_BUF_BASE => 10
  | .ARY_CFG_INFO_DEPTH | .WU_EXC_LOOPA_LC0 | .WU_EXC_LOOPA_LC1 | .WU_EXC_LOOPB_LC2 | .WU_EXC_LOOPB_LC3
  | .LNK_VC_CRD_LIMIT | .LNK_VC_CRD_AVAIL | .LNK_VC_OCC | .SCH_FLOW_BUF_LEN => 11
  | .XBR_ROUTE_REFUSE0_FIELD | .LNK_SEQ_TX_NEXT | .LNK_SEQ_RX_EXP | .TIM_GUARD | .DBG_PATCH_CTL_BLOCK
  | .ADC_RESULT_CODE | .ADC_RESULT_SEQ => 12
  | .ARY_CFG_INFO_EDGE_LEN | .TRN_CE_BIT | .SCH_FLOW_RINGCFG_ENTRY_BYTES => 13
  | .CAV_MARCH_RES_FIRST_ADDR | .CFG_STALL_TMO | .LNK_LANE_PARTNER_ID | .SCH_POOL => 14
  | .ARY_CALL_TMO | .ARY_VMAP_BANK | .XBR_GDL_HOST | .XBR_GDL_VAL | .CAV_ATOM_RES_OLD
  | .CAV_MARCH_RES_FAIL_BITS | .CAV_MARCH_STAT_FAILED | .CAV_AVAIL | .CFG_COMMIT_TMO | .TRN_CTRL_INTERVAL
  | .LNK_LANE_STAT_ETA_US | .LNK_TRAIN_CNT_OK | .LNK_TRAIN_CNT_FAIL | .LNK_LOSS_CNT_SYN_LOSS
  | .LNK_LOSS_CNT_CDR_LOSS | .LNK_STATE_CNT_FALLBACK | .LNK_STATE_CNT_COLD_EXIT | .LNK_FAULT_SUM
  | .RNT_CMP_VAL_VALUE | .RNT_CMP_VAL_MASK | .RNT_CNT_CFG_STATES | .RNT_STAT_RETRIG | .MBX_CMD_TAIL
  | .MBX_CMD_HEAD | .MBX_CPL_TAIL | .MBX_CPL_HEAD | .MBX_SEQ | .MBX_EVT_TAIL | .MBX_EVT_HEAD | .SCH_DEPTH_LO
  | .SCH_DEPTH_HI | .SCH_FLOW_HOST | .SCH_FLOW_DEV | .SVC_PD_AUTO | .SVC_PD_CNT_OFF | .SVC_PD_CNT_ON
  | .TIM_LOCK_THR | .TIM_SYNC_TMO | .TIM_ETH_TXLAT_PS | .TIM_ETH_TXLAT_RXLAT | .DBG_XT_SINK_INST
  | .DBG_INST_STEPN => 16
  | .LNK_CAS_LEAD | .WHY_PROBE_CNT | .WHY_CAP_CFG_SYNC_PERIOD | .RNT_CMP_SRC_BITPOS | .DBG_INST_LEFT => 17
  | .TIM_SLEW_MAX => 19
  | .CFG_FAIL_INFO_CHUNK | .LNK_DOWN_TMO | .LNK_CAS_PEER_TMO | .SCH_INST_OUT | .SVC_TMO => 20
  | .WHY_FIFO_LEVEL => 22
  | .SCH_DL => 24
  | .TIM_NS | .TIM_STEP_THR => 30
  | .QUE_HBM_UE_LOG => 36
  | .SVC_TMO_LOG_ADDR | .DBG_WP_LO | .DBG_WP_HI => 40
  | .RNT_CNT_LIM | .RNT_CNT_VAL | .RNT_TMR_LIM | .RNT_TMR_VAL | .RNT_TMR_LAST | .TIM_SEC => 48
  | .MSIX_ADDR => 62
  | .MSIX_PBA | .ARY_MCC | .ARY_TOTAL | .ARY_EXEC | .ARY_STALL_LNK | .ARY_STALL_QUE | .ARY_STALL_CALL | .ARY_HOLD_FLOW
  | .WU_INST_EXC_CYC | .WU_EXC_CYC | .QUE_ISSUED | .QUE_SKIPPED | .QUE_CANCELLED | .QUE_COMPLETED
  | .QUE_ORPHANED | .QUE_PURGED | .QUE_UNCORR | .QUE_STALL | .QUE_INST_UE_ADDR | .CFG_BYTES | .CFG_UID
  | .CFG_STREAM_ID | .TRN_CHECKED | .TRN_CLEAN | .TRN_CE | .TRN_UE | .TRN_BAD_SUM | .TRN_INST_UE_CYC
  | .LNK_PRBS_BITS | .LNK_PRBS_ERR | .LNK_CAS_ALIVE | .LNK_STEP_CNT | .WHY_RING_WPTR | .WHY_RING_RPTR
  | .WHY_RING_OLDEST | .WHY_BYTES_PROD | .WHY_BYTES_WR | .WHY_BYTES_LOST | .WHY_LOST_PEND | .WHY_ARM_MCC
  | .WHY_END_MCC | .RNT_TRIG_MCC | .MBX_CMD_BASE | .MBX_CPL_BASE | .MBX_EVT_BASE | .SCH_FLOW_RING | .TIM_NT
  | .TIM_STEP_LOG_AMT | .TIM_STEP_LOG_AT | .TIM_OFFSET | .DBG_MP_REG => 64
  | _ => 32

/-- Value after power-on reset (R318): the Reset column of the register tables. Fields whose reset is a fuse, strap or
position are read from the part (`Pkg.view`), so their entry here is unused. LNK_VC_CRD.LIMIT is Table 137 by channel, and a port holds that many
credits from power-on reset (R263). -/
def Fld.reset (f : Fld) (idx : Nat) : Nat :=
  match f with
  | .LNK_VC_CRD_LIMIT | .LNK_VC_CRD_AVAIL => [1024, 128, 64, 16].getD (idx % 4) 0
  | .SCH_DL => [10000, 1000, 100, 10].getD (idx % 4) 0
  | .MSIX_MASK | .CAV_OWN_KIND | .TRN_CTRL_EN | .IOC_SCAN_STAT_IR | .RNT_ST_CFG | .TIM_PTP_CFG_SLAVE_ONLY
  | .TIM_ETH_STAT_RSFEC | .DBG_PORT_CTL | .ADC_REF_CTRL_ALT | .ADC_REF_CTRL_REVERT => 1
  | .LNK_LANE_TXEQ_SWING => 2
  | .QUE_HBM_CFG_SVC_MIN | .LNK_LANE_TXEQ_PRE1 | .MBX_RING_CFG | .MBX_EVT_CTRL_LOG2N => 4
  | .LNK_LANE_TXEQ_POST1 => 12
  | .LNK_PRBS_CFG_INJ_PERIOD => 20
  | .QUE_HBM_CFG_TRC_MIN => 24
  | .MBX_CTRL_MAXQ => 32
  | .LNK_LANE_TXEQ_MAIN => 48
  | .LNK_TRAIN_TMO => 50
  | .CFG_STALL_TMO | .MBX_WDOG_CFG | .SVC_TMO | .SVC_PD_AUTO | .TIM_LOCK_THR | .ADC_MON_THR_WARN => 100
  | .ADC_MON_THR_CRIT => 110
  | .LNK_CAS_LEAD => 200
  | .TIM_GUARD => 600
  | .TRN_CTRL_INTERVAL => 640
  | .ARY_CALL_TMO | .CFG_COMMIT_TMO | .LNK_DOWN_TMO | .LNK_CAS_PEER_TMO | .RNT_AUTO_TMO => 1000
  | .WHY_CAP_CFG_SYNC_PERIOD => 1024
  | .TIM_SYNC_TMO => 2000
  | .SCH_POOL => 8192
  | .TIM_SLEW_MAX => 100000
  | .TIM_STEP_THR => 1000000
  | _ => 0

/-- Which 1 MiB slot of a block holds a register (R324): every die's die-control slot, die 0's instance-control or package
slot, the part of a die-control slot that exists on die 0 only, or the block's primary slot (R325). -/
inductive Slot where
  | die | inst | pkg | die0 | prim
deriving DecidableEq, Repr

/-- One field of a register: bits [hi:lo], access type, and, where the register packs `n` equal sub-fields, which one.
`fld = none` for a WO field, which holds no value (R317). -/
structure FieldSpec where
  fld : Option Fld
  hi  : Nat
  lo  : Nat
  acc : Acc
  sub : Nat := 0
  n   : Nat := 1
deriving DecidableEq, Repr

/-- One register: where it stands and what it holds. `dims` are the (stride, count) pairs of its repeats, widest first;
`wide` marks a LO/HI pair. -/
structure RegSpec where
  reg    : Reg
  blk    : Blk
  slot   : Slot
  off    : Nat
  dims   : List (Nat × Nat)
  wide   : Bool
  fields : List FieldSpec
deriving DecidableEq, Repr

/-- A field of one value. -/
def fd (f : Fld) (hi lo : Nat) (a : Acc) : FieldSpec := { fld := some f, hi := hi, lo := lo, acc := a }
/-- A WO field. -/
def fw (hi lo : Nat) : FieldSpec := { fld := none, hi := hi, lo := lo, acc := .WO }
/-- `n` equal sub-fields of `w` bits from bit 0 up. -/
def fs (f : Fld) (w n : Nat) : List FieldSpec :=
  (List.range n).map fun j => { fld := some f, hi := w * j + w - 1, lo := w * j, acc := .RO, sub := j, n := n }

/-- Registers of the ARY block: Tables 17, 18, 19, 20, 21, 22, 31, 91 (R170, R41, R61). -/
def regsARY : List RegSpec := [
  ⟨.ARY_RUN_CTL, .ARY, .inst, 0x0, [(0x100, 16)], false,
    [fw 0 0, fw 1 1, fw 2 2, fw 3 3, fw 4 4]⟩,
  ⟨.ARY_RUN_STAT, .ARY, .inst, 0x4, [(0x100, 16)], false,
    [fd .ARY_RUN_STAT_STATE 2 0 .RO, fd .ARY_RUN_STAT_MID_CYCLE 3 3 .RO, fd .ARY_RUN_STAT_STOP_CAUSE 7 4 .RO, fd .ARY_RUN_STAT_STALLING 8 8 .RO, fd .ARY_RUN_STAT_STALL_CAUSE 10 9 .RO, fd .ARY_RUN_STAT_HOLDING 11 11 .RO, fd .ARY_RUN_STAT_PAUSE_PEND 12 12 .RO, fd .ARY_RUN_STAT_FREEZE_PEND 13 13 .RO, fd .ARY_RUN_STAT_BUF_PEND 14 14 .RO, fd .ARY_RUN_STAT_SNAP_PEND 15 15 .RO]⟩,
  ⟨.ARY_CFG_INFO, .ARY, .inst, 0x8, [(0x100, 16)], false,
    [fd .ARY_CFG_INFO_DEPTH 10 0 .RO, fd .ARY_CFG_INFO_COMPAT 11 11 .RO, fd .ARY_CFG_INFO_CASCADE 12 12 .RO, fd .ARY_CFG_INFO_MASTER 13 13 .RO, fd .ARY_CFG_INFO_EDGE_LEN 28 16 .RO]⟩,
  ⟨.ARY_CTRL, .ARY, .inst, 0xc, [(0x100, 16)], false,
    [fd .ARY_CTRL_STOP_AT_EN 0 0 .RWB, fd .ARY_CTRL_FREEZE_ON_WU_EXC 1 1 .RWB, fd .ARY_CTRL_FAULT_IO_OFF 2 2 .RWB]⟩,
  ⟨.ARY_STOP_AT_LO, .ARY, .inst, 0x10, [(0x100, 16)], false,
    [fd .ARY_STOP_AT_LO 31 0 .RWB]⟩,
  ⟨.ARY_STOP_AT_HI, .ARY, .inst, 0x14, [(0x100, 16)], false,
    [fd .ARY_STOP_AT_HI 31 0 .RWB]⟩,
  ⟨.ARY_CALL_TMO, .ARY, .inst, 0x18, [(0x100, 16)], false,
    [fd .ARY_CALL_TMO 15 0 .RWB]⟩,
  ⟨.ARY_STOP_POS, .ARY, .inst, 0x1c, [(0x100, 16)], false,
    [fd .ARY_STOP_POS 9 0 .RO]⟩,
  ⟨.ARY_ERR, .ARY, .inst, 0x58, [(0x100, 16)], false,
    [fd .ARY_ERR_CMD_IGNORED 0 0 .W1C, fd .ARY_ERR_START_REFUSED 1 1 .W1C, fd .ARY_ERR_RESUME_BLOCKED 2 2 .W1C]⟩,
  ⟨.ARY_MCC, .ARY, .inst, 0x20, [(0x100, 16)], true,
    [fd .ARY_MCC 63 0 .RO]⟩,
  ⟨.ARY_TOTAL, .ARY, .inst, 0x28, [(0x100, 16)], true,
    [fd .ARY_TOTAL 63 0 .RO]⟩,
  ⟨.ARY_EXEC, .ARY, .inst, 0x30, [(0x100, 16)], true,
    [fd .ARY_EXEC 63 0 .RO]⟩,
  ⟨.ARY_STALL_LNK, .ARY, .inst, 0x38, [(0x100, 16)], true,
    [fd .ARY_STALL_LNK 63 0 .RO]⟩,
  ⟨.ARY_STALL_QUE, .ARY, .inst, 0x40, [(0x100, 16)], true,
    [fd .ARY_STALL_QUE 63 0 .RO]⟩,
  ⟨.ARY_STALL_CALL, .ARY, .inst, 0x48, [(0x100, 16)], true,
    [fd .ARY_STALL_CALL 63 0 .RO]⟩,
  ⟨.ARY_HOLD_FLOW, .ARY, .inst, 0x50, [(0x100, 16)], true,
    [fd .ARY_HOLD_FLOW 63 0 .RO]⟩,
  ⟨.ARY_STALLED_MC, .ARY, .inst, 0x5c, [(0x100, 16)], false,
    [fd .ARY_STALLED_MC 31 0 .RO]⟩,
  ⟨.ARY_BP_REFUSE, .ARY, .die, 0x800, [], false,
    [fd .ARY_BP_REFUSE_REGION 5 0 .RO, fd .ARY_BP_REFUSE_CLUSTER 10 6 .RO, fd .ARY_BP_REFUSE_BP 16 11 .RO, fd .ARY_BP_REFUSE_SLOT 26 17 .RO, fd .ARY_BP_REFUSE_REASON 30 27 .RO, fd .ARY_BP_REFUSE_VALID 31 31 .RO]⟩,
  ⟨.ARY_VMAP_REG, .ARY, .inst, 0x100000, [(0x8000, 16), (0x40, 512)], false,
    [fd .ARY_VMAP_REG_REGION 5 0 .RO, fd .ARY_VMAP_REG_DIE 8 6 .RO, fd .ARY_VMAP_REG_USED 14 9 .RO, fd .ARY_VMAP_REG_VALID 31 31 .RO]⟩,
  ⟨.ARY_VMAP_CL, .ARY, .inst, 0x100004, [(0x8000, 16), (0x40, 512), (0x4, 6)], false,
    fs .ARY_VMAP_CL 5 6⟩,
  ⟨.ARY_VMAP_USE, .ARY, .inst, 0x10001c, [(0x8000, 16), (0x40, 512)], false,
    [fd .ARY_VMAP_USE 31 0 .RO]⟩,
  ⟨.ARY_VMAP_BANK, .ARY, .inst, 0x100020, [(0x8000, 16), (0x40, 512)], false,
    [fd .ARY_VMAP_BANK 15 0 .RO]⟩]

/-- Registers of the XBR block: Tables 44, 45 (R89). -/
def regsXBR : List RegSpec := [
  ⟨.XBR_GDL_HOST, .XBR, .inst, 0x0, [(0x100, 16)], false,
    [fd .XBR_GDL_HOST 15 0 .RWB]⟩,
  ⟨.XBR_GDL_VAL, .XBR, .inst, 0x4, [(0x100, 16)], false,
    [fd .XBR_GDL_VAL 15 0 .RO]⟩,
  ⟨.XBR_NOCAP_CNT, .XBR, .inst, 0x8, [(0x100, 16)], false,
    [fd .XBR_NOCAP_CNT 31 0 .RO]⟩,
  ⟨.XBR_GDL_CFG, .XBR, .inst, 0x40, [(0x100, 16), (0x4, 16)], false,
    [fd .XBR_GDL_CFG_MODE 1 0 .RO, fd .XBR_GDL_CFG_DIE 4 2 .RO, fd .XBR_GDL_CFG_REGION 10 5 .RO, fd .XBR_GDL_CFG_CLUSTER 15 11 .RO, fd .XBR_GDL_CFG_BP 21 16 .RO, fd .XBR_GDL_CFG_ADDR 31 22 .RO]⟩,
  ⟨.XBR_ROUTE_REFUSE0, .XBR, .die, 0x0, [], false,
    [fd .XBR_ROUTE_REFUSE0_SLOT 9 0 .RO, fd .XBR_ROUTE_REFUSE0_FIELD 21 10 .RO, fd .XBR_ROUTE_REFUSE0_REGION 27 22 .RO, fd .XBR_ROUTE_REFUSE0_LEVEL 29 28 .RO, fd .XBR_ROUTE_REFUSE0_VALID 31 31 .RO]⟩,
  ⟨.XBR_ROUTE_REFUSE1, .XBR, .die, 0x4, [], false,
    [fd .XBR_ROUTE_REFUSE1 3 0 .RO]⟩,
  ⟨.XBR_BRG_STAT, .XBR, .die, 0x10, [], false,
    [fd .XBR_BRG_STAT_PRESENT 3 0 .RO, fd .XBR_BRG_STAT_ALIGNED 7 4 .RO, fd .XBR_BRG_STAT_ALIGN_LOST 11 8 .W1C, fd .XBR_BRG_STAT_PERR 15 12 .W1C]⟩,
  ⟨.XBR_BRG_PERR, .XBR, .die, 0x20, [(0x4, 4)], false,
    [fd .XBR_BRG_PERR 31 0 .RO]⟩,
  ⟨.XBR_OWN_BRG, .XBR, .die, 0x30, [(0x4, 4)], false,
    fs .XBR_OWN_BRG 4 8⟩,
  ⟨.XBR_OWN_THR, .XBR, .die, 0x40, [], false,
    fs .XBR_OWN_THR 4 8⟩,
  ⟨.XBR_OWN_VALID, .XBR, .die, 0x44, [], false,
    fs .XBR_OWN_VALID 8 4⟩,
  ⟨.XBR_OWN_VALID_THR, .XBR, .die, 0x48, [], false,
    [fd .XBR_OWN_VALID_THR 7 0 .RO]⟩]

/-- Registers of the WU block: Tables 57, 59, 60, 61 (R118, R121). -/
def regsWU : List RegSpec := [
  ⟨.WU_REFUSE, .WU, .die, 0x800, [], false,
    [fd .WU_REFUSE_REGION 5 0 .RO, fd .WU_REFUSE_CLUSTER 10 6 .RO, fd .WU_REFUSE_WADDR 20 11 .RO, fd .WU_REFUSE_REASON 24 21 .RO, fd .WU_REFUSE_VALID 31 31 .RO]⟩,
  ⟨.WU_INST_EXC, .WU, .inst, 0x0, [(0x100, 16)], false,
    [fd .WU_INST_EXC_PEND 0 0 .W1C, fd .WU_INST_EXC_FRZ_REQ 1 1 .RO, fd .WU_INST_EXC_FIRST_DIE 4 2 .RO, fd .WU_INST_EXC_FIRST_REGION 10 5 .RO, fd .WU_INST_EXC_FIRST_CLUSTER 15 11 .RO, fd .WU_INST_EXC_FIRST_VALID 16 16 .RO]⟩,
  ⟨.WU_INST_EXC_CNT, .WU, .inst, 0x4, [(0x100, 16)], false,
    [fd .WU_INST_EXC_CNT 31 0 .RO]⟩,
  ⟨.WU_INST_EXC_CYC, .WU, .inst, 0x8, [(0x100, 16)], true,
    [fd .WU_INST_EXC_CYC 63 0 .RO]⟩,
  ⟨.WU_EXC_SUM, .WU, .die, 0x0, [(0x4, 64)], false,
    [fd .WU_EXC_SUM 31 0 .RO]⟩,
  ⟨.WU_EXC_FLAGS, .WU, .die, 0x10000, [(0x20, 2048)], false,
    [fd .WU_EXC_FLAGS_OVF 0 0 .W1C, fd .WU_EXC_FLAGS_SAT 1 1 .W1C, fd .WU_EXC_FLAGS_DVF 2 2 .W1C, fd .WU_EXC_FLAGS_VALID 3 3 .RO, fd .WU_EXC_FLAGS_MULTI 4 4 .RO]⟩,
  ⟨.WU_EXC_POS, .WU, .die, 0x10004, [(0x20, 2048)], false,
    [fd .WU_EXC_POS_STEP_IDX 9 0 .RO, fd .WU_EXC_POS_WADDR 19 10 .RO, fd .WU_EXC_POS_KIND 21 20 .RO, fd .WU_EXC_POS_DEST 27 22 .RO, fd .WU_EXC_POS_MODE 31 28 .RO]⟩,
  ⟨.WU_EXC_CYC, .WU, .die, 0x10008, [(0x20, 2048)], true,
    [fd .WU_EXC_CYC 63 0 .RO]⟩,
  ⟨.WU_EXC_LOOPA, .WU, .die, 0x10010, [(0x20, 2048)], false,
    [fd .WU_EXC_LOOPA_LC0 10 0 .RO, fd .WU_EXC_LOOPA_LC1 26 16 .RO]⟩,
  ⟨.WU_EXC_LOOPB, .WU, .die, 0x10014, [(0x20, 2048)], false,
    [fd .WU_EXC_LOOPB_LC2 10 0 .RO, fd .WU_EXC_LOOPB_LC3 26 16 .RO, fd .WU_EXC_LOOPB_DEPTH 29 27 .RO]⟩,
  ⟨.WU_EXC_CNT, .WU, .die, 0x10018, [(0x20, 2048)], false,
    [fd .WU_EXC_CNT 31 0 .RO]⟩]

/-- Registers of the CAV block: Tables 69, 70, 71 (R142). -/
def regsCAV : List RegSpec := [
  ⟨.CAV_OWN, .CAV, .die, 0x0, [(0x20, 1024)], false,
    [fd .CAV_OWN_INST 3 0 .RW, fd .CAV_OWN_KIND 5 4 .RW, fd .CAV_OWN_PEND 6 6 .RO]⟩,
  ⟨.CAV_PORT_CFG, .CAV, .die, 0x4, [(0x20, 1024)], false,
    [fd .CAV_PORT_CFG_WIDTH_A 2 0 .RO, fd .CAV_PORT_CFG_BUSY15_A 3 3 .RO, fd .CAV_PORT_CFG_WIDTH_B 6 4 .RO, fd .CAV_PORT_CFG_BUSY15_B 7 7 .RO]⟩,
  ⟨.CAV_BUSY_CNT, .CAV, .die, 0x8, [(0x20, 1024)], false,
    [fd .CAV_BUSY_CNT 31 0 .RO]⟩,
  ⟨.CAV_DROP_CNT, .CAV, .die, 0xc, [(0x20, 1024)], false,
    [fd .CAV_DROP_CNT 31 0 .RO]⟩,
  ⟨.CAV_ATOM_CMD, .CAV, .die, 0x10, [(0x20, 1024)], false,
    [fw 13 0, fw 15 14, fw 31 16]⟩,
  ⟨.CAV_ATOM_RES, .CAV, .die, 0x14, [(0x20, 1024)], false,
    [fd .CAV_ATOM_RES_OLD 15 0 .RO, fd .CAV_ATOM_RES_DONE 31 31 .RO]⟩,
  ⟨.CAV_MARCH_RES, .CAV, .die, 0x18, [(0x20, 1024)], false,
    [fd .CAV_MARCH_RES_FIRST_ADDR 13 0 .RO, fd .CAV_MARCH_RES_FAIL 14 14 .RO, fd .CAV_MARCH_RES_TESTED 15 15 .RO, fd .CAV_MARCH_RES_FAIL_BITS 31 16 .RO]⟩,
  ⟨.CAV_MARCH_CNT, .CAV, .die, 0x1c, [(0x20, 1024)], false,
    [fd .CAV_MARCH_CNT 31 0 .RO]⟩,
  ⟨.CAV_MARCH_CTL, .CAV, .die, 0x8000, [(0x10, 64)], false,
    [fw 0 0, fw 1 1, fw 31 16]⟩,
  ⟨.CAV_MARCH_STAT, .CAV, .die, 0x8004, [(0x10, 64)], false,
    [fd .CAV_MARCH_STAT_BUSY 0 0 .RO, fd .CAV_MARCH_STAT_DONE 1 1 .W1C, fd .CAV_MARCH_STAT_FAILED 31 16 .RO]⟩,
  ⟨.CAV_STAT, .CAV, .die, 0x8008, [(0x10, 64)], false,
    [fd .CAV_STAT 0 0 .W1C]⟩,
  ⟨.CAV_AVAIL, .CAV, .die, 0x800c, [(0x10, 64)], false,
    [fd .CAV_AVAIL 15 0 .RO]⟩,
  ⟨.CAV_INST_BUSY_CNT, .CAV, .inst, 0x0, [(0x100, 16)], false,
    [fd .CAV_INST_BUSY_CNT 31 0 .RO]⟩,
  ⟨.CAV_INST_DROP_CNT, .CAV, .inst, 0x4, [(0x100, 16)], false,
    [fd .CAV_INST_DROP_CNT 31 0 .RO]⟩,
  ⟨.CAV_INST_SKIP_CNT, .CAV, .inst, 0x8, [(0x100, 16)], false,
    [fd .CAV_INST_SKIP_CNT 31 0 .RO]⟩]

/-- Registers of the QUE block: Tables 80, 81, 82, 83 (R158, R159). -/
def regsQUE : List RegSpec := [
  ⟨.QUE_ISSUED, .QUE, .die, 0x0, [(0x80, 512)], true,
    [fd .QUE_ISSUED 63 0 .RO]⟩,
  ⟨.QUE_SKIPPED, .QUE, .die, 0x8, [(0x80, 512)], true,
    [fd .QUE_SKIPPED 63 0 .RO]⟩,
  ⟨.QUE_CANCELLED, .QUE, .die, 0x10, [(0x80, 512)], true,
    [fd .QUE_CANCELLED 63 0 .RO]⟩,
  ⟨.QUE_COMPLETED, .QUE, .die, 0x18, [(0x80, 512)], true,
    [fd .QUE_COMPLETED 63 0 .RO]⟩,
  ⟨.QUE_ORPHANED, .QUE, .die, 0x20, [(0x80, 512)], true,
    [fd .QUE_ORPHANED 63 0 .RO]⟩,
  ⟨.QUE_PURGED, .QUE, .die, 0x28, [(0x80, 512)], true,
    [fd .QUE_PURGED 63 0 .RO]⟩,
  ⟨.QUE_UNCORR, .QUE, .die, 0x30, [(0x80, 512)], true,
    [fd .QUE_UNCORR 63 0 .RO]⟩,
  ⟨.QUE_STALL, .QUE, .die, 0x38, [(0x80, 512)], true,
    [fd .QUE_STALL 63 0 .RO]⟩,
  ⟨.QUE_LEVEL, .QUE, .die, 0x40, [(0x80, 512)], false,
    [fd .QUE_LEVEL_INFLIGHT 7 0 .RO, fd .QUE_LEVEL_INFLIGHT_CUR 15 8 .RO, fd .QUE_LEVEL_HELD 22 16 .RO, fd .QUE_LEVEL_OWNER 26 23 .RO, fd .QUE_LEVEL_OWNED 27 27 .RO]⟩,
  ⟨.QUE_STAT, .QUE, .die, 0x44, [(0x80, 512)], false,
    [fd .QUE_STAT_SKIP_INV 0 0 .W1C, fd .QUE_STAT_SKIP_RANGE 1 1 .W1C, fd .QUE_STAT_ORPHAN 2 2 .W1C, fd .QUE_STAT_WAIT_FREE 3 3 .W1C]⟩,
  ⟨.QUE_LAT_MAX, .QUE, .die, 0x48, [(0x80, 512)], false,
    [fd .QUE_LAT_MAX 31 0 .RO]⟩,
  ⟨.QUE_LAT_LAST, .QUE, .die, 0x4c, [(0x80, 512)], false,
    [fd .QUE_LAT_LAST 31 0 .RO]⟩,
  ⟨.QUE_ENT_STAT, .QUE, .die, 0x50, [(0x80, 512), (0x4, 4)], false,
    fs .QUE_ENT_STAT 2 16⟩,
  ⟨.QUE_WAIT_FREE_CNT, .QUE, .die, 0x60, [(0x80, 512)], false,
    [fd .QUE_WAIT_FREE_CNT 31 0 .RO]⟩,
  ⟨.QUE_INST_CFG, .QUE, .inst, 0x0, [(0x100, 16)], false,
    [fd .QUE_INST_CFG 9 0 .RO]⟩,
  ⟨.QUE_INST_ERR, .QUE, .inst, 0x4, [(0x100, 16)], false,
    [fd .QUE_INST_ERR 0 0 .W1C]⟩,
  ⟨.QUE_INST_UE_ADDR, .QUE, .inst, 0x8, [(0x100, 16)], true,
    [fd .QUE_INST_UE_ADDR 63 0 .RO]⟩,
  ⟨.QUE_SEG_MAP, .QUE, .inst, 0x10000, [(0x1000, 16), (0x4, 568)], false,
    [fd .QUE_SEG_MAP_SEGMENT 7 0 .RO, fd .QUE_SEG_MAP_STACK 9 8 .RO, fd .QUE_SEG_MAP_VALID 31 31 .RO]⟩,
  ⟨.QUE_HBM_CFG, .QUE, .pkg, 0x0, [(0x40, 4)], false,
    [fd .QUE_HBM_CFG_TRC_MIN 5 0 .RWB, fd .QUE_HBM_CFG_SVC_MIN 13 8 .RWB]⟩,
  ⟨.QUE_HBM_CE, .QUE, .pkg, 0x4, [(0x40, 4)], false,
    [fd .QUE_HBM_CE 31 0 .RO]⟩,
  ⟨.QUE_HBM_UE, .QUE, .pkg, 0x8, [(0x40, 4)], false,
    [fd .QUE_HBM_UE 31 0 .RO]⟩,
  ⟨.QUE_HBM_UE_LOG, .QUE, .pkg, 0xc, [(0x40, 4)], true,
    [fd .QUE_HBM_UE_LOG 35 0 .RO]⟩,
  ⟨.QUE_SEG_OWN, .QUE, .pkg, 0x1000, [(0x240, 4), (0x4, 144)], false,
    [fd .QUE_SEG_OWN_INST 3 0 .RW, fd .QUE_SEG_OWN_KIND 6 4 .RW]⟩,
  ⟨.QUE_REFUSE, .QUE, .die, 0x10000, [], false,
    [fd .QUE_REFUSE_REGION 5 0 .RO, fd .QUE_REFUSE_PORT 8 6 .RO, fd .QUE_REFUSE_DESC 14 9 .RO, fd .QUE_REFUSE_REASON 18 15 .RO, fd .QUE_REFUSE_VALID 31 31 .RO]⟩]

/-- Registers of the IOC block: Tables 120, 121, 122 (R231). -/
def regsIOC : List RegSpec := [
  ⟨.IOC_CELL_CFG, .IOC, .die, 0x0, [(0x8, 128)], false,
    [fd .IOC_CELL_CFG_MODE 2 0 .RO, fd .IOC_CELL_CFG_SLEW 4 3 .RWB, fd .IOC_CELL_CFG_DRIVE 6 5 .RWB, fd .IOC_CELL_CFG_KEEPER 7 7 .RWB, fd .IOC_CELL_CFG_PULL 9 8 .RWB, fd .IOC_CELL_CFG_INIT 10 10 .RO, fd .IOC_CELL_CFG_INIT_EN 11 11 .RO]⟩,
  ⟨.IOC_CELL_STAT, .IOC, .die, 0x4, [(0x8, 128)], false,
    [fd .IOC_CELL_STAT_PAD 0 0 .RO, fd .IOC_CELL_STAT_VAL 1 1 .RO, fd .IOC_CELL_STAT_OE 2 2 .RO, fd .IOC_CELL_STAT_DRV 3 3 .RO]⟩,
  ⟨.IOC_BANK_CFG, .IOC, .die, 0x400, [(0x10, 4)], false,
    [fd .IOC_BANK_CFG_VIO 2 0 .RO, fd .IOC_BANK_CFG_OWNER 6 3 .RO, fd .IOC_BANK_CFG_OWNED 7 7 .RO]⟩,
  ⟨.IOC_BANK_STAT, .IOC, .die, 0x404, [(0x10, 4)], false,
    [fd .IOC_BANK_STAT_VOK 0 0 .RO, fd .IOC_BANK_STAT_ENABLED 1 1 .RO, fd .IOC_BANK_STAT_VFAULT 2 2 .W1C, fd .IOC_BANK_STAT_SCAN 3 3 .RO]⟩,
  ⟨.IOC_BANK_VFAULT_CNT, .IOC, .die, 0x408, [(0x10, 4)], false,
    [fd .IOC_BANK_VFAULT_CNT 31 0 .RO]⟩,
  ⟨.IOC_SCAN_STAT, .IOC, .die, 0x800, [], false,
    [fd .IOC_SCAN_STAT_BSCAN_CE 0 0 .RO, fd .IOC_SCAN_STAT_IR 8 1 .RO]⟩]

/-- Registers of the LNK block: Tables 131, 132, 142, 143 (R252, R285). -/
def regsLNK : List RegSpec := [
  ⟨.LNK_LANE_CTRL, .LNK, .die, 0x20000, [(0x40, 16)], false,
    [fd .LNK_LANE_CTRL_EN 0 0 .RW, fd .LNK_LANE_CTRL_TGT 2 1 .RWB, fd .LNK_LANE_CTRL_MODE_MAX 3 3 .RW, fw 4 4, fw 5 5]⟩,
  ⟨.LNK_LANE_STAT, .LNK, .die, 0x20004, [(0x40, 16)], false,
    [fd .LNK_LANE_STAT_STATE 2 0 .RO, fd .LNK_LANE_STAT_PHASE 5 3 .RO, fd .LNK_LANE_STAT_RATE 7 6 .RO, fd .LNK_LANE_STAT_SYN_LOCK 8 8 .RO, fd .LNK_LANE_STAT_CDR_LOCK 9 9 .RO, fd .LNK_LANE_STAT_SIG_DET 10 10 .RO, fd .LNK_LANE_STAT_COMPAT_MISMATCH 11 11 .W1C, fd .LNK_LANE_STAT_FAULT_CAUSE 13 12 .RO, fd .LNK_LANE_STAT_ETA_US 31 16 .RO]⟩,
  ⟨.LNK_LANE_PARTNER, .LNK, .die, 0x20008, [(0x40, 16)], false,
    [fd .LNK_LANE_PARTNER_ID 13 0 .RO, fd .LNK_LANE_PARTNER_PAM4_CAP 14 14 .RO, fd .LNK_LANE_PARTNER_VALID 31 31 .RO]⟩,
  ⟨.LNK_LANE_TXEQ, .LNK, .die, 0x2000c, [(0x40, 16)], false,
    [fd .LNK_LANE_TXEQ_PRE1 5 0 .RW, fd .LNK_LANE_TXEQ_MAIN 13 8 .RW, fd .LNK_LANE_TXEQ_POST1 21 16 .RW, fd .LNK_LANE_TXEQ_SWING 25 24 .RW]⟩,
  ⟨.LNK_LANE_RXINFO, .LNK, .die, 0x20010, [(0x40, 16)], false,
    [fd .LNK_LANE_RXINFO_EYE 7 0 .RO, fd .LNK_LANE_RXINFO_CTLE 15 8 .RO]⟩,
  ⟨.LNK_PRBS_CFG, .LNK, .die, 0x20014, [(0x40, 16)], false,
    [fd .LNK_PRBS_CFG_GEN_PAT 2 0 .RW, fd .LNK_PRBS_CFG_CHK_PAT 5 3 .RW, fd .LNK_PRBS_CFG_GEN_EN 6 6 .RW, fd .LNK_PRBS_CFG_CHK_EN 7 7 .RW, fd .LNK_PRBS_CFG_LOOPBACK 9 8 .RW, fd .LNK_PRBS_CFG_INJ_MODE 11 10 .RW, fw 12 12, fd .LNK_PRBS_CFG_INJ_PERIOD 20 16 .RW]⟩,
  ⟨.LNK_PRBS_STAT, .LNK, .die, 0x20018, [(0x40, 16)], false,
    [fd .LNK_PRBS_STAT_CHK_LOCK 0 0 .RO, fd .LNK_PRBS_STAT_ERR_SEEN 1 1 .W1C]⟩,
  ⟨.LNK_PRBS_USER, .LNK, .die, 0x2001c, [(0x40, 16)], false,
    [fd .LNK_PRBS_USER 31 0 .RW]⟩,
  ⟨.LNK_PRBS_BITS, .LNK, .die, 0x20020, [(0x40, 16)], true,
    [fd .LNK_PRBS_BITS 63 0 .RO]⟩,
  ⟨.LNK_PRBS_ERR, .LNK, .die, 0x20028, [(0x40, 16)], true,
    [fd .LNK_PRBS_ERR 63 0 .RO]⟩,
  ⟨.LNK_PRBS_INJ, .LNK, .die, 0x20030, [(0x40, 16)], false,
    [fd .LNK_PRBS_INJ 31 0 .RO]⟩,
  ⟨.LNK_TRAIN_CNT, .LNK, .die, 0x20034, [(0x40, 16)], false,
    [fd .LNK_TRAIN_CNT_OK 15 0 .RO, fd .LNK_TRAIN_CNT_FAIL 31 16 .RO]⟩,
  ⟨.LNK_LOSS_CNT, .LNK, .die, 0x20038, [(0x40, 16)], false,
    [fd .LNK_LOSS_CNT_SYN_LOSS 15 0 .RO, fd .LNK_LOSS_CNT_CDR_LOSS 31 16 .RO]⟩,
  ⟨.LNK_STATE_CNT, .LNK, .die, 0x2003c, [(0x40, 16)], false,
    [fd .LNK_STATE_CNT_FALLBACK 15 0 .RO, fd .LNK_STATE_CNT_COLD_EXIT 31 16 .RO]⟩,
  ⟨.LNK_FAULT_SUM, .LNK, .die, 0x20400, [], false,
    [fd .LNK_FAULT_SUM 15 0 .RO]⟩,
  ⟨.LNK_COMPAT_STRAP, .LNK, .die, 0x20404, [], false,
    [fd .LNK_COMPAT_STRAP 3 0 .RO]⟩,
  ⟨.LNK_TRAIN_TMO, .LNK, .die, 0x20408, [], false,
    [fd .LNK_TRAIN_TMO 9 0 .RW]⟩,
  ⟨.LNK_PORT_CTRL, .LNK, .die, 0x0, [(0x100, 4)], false,
    [fd .LNK_PORT_CTRL_EN 0 0 .RW, fw 1 1, fw 2 2, fd .LNK_PORT_CTRL_LP 4 3 .RWB, fw 5 5]⟩,
  ⟨.LNK_PORT_STAT, .LNK, .die, 0x4, [(0x100, 4)], false,
    [fd .LNK_PORT_STAT_STATE 2 0 .RO, fd .LNK_PORT_STAT_MODE 4 3 .RO, fd .LNK_PORT_STAT_ID_ERR 5 5 .RO, fd .LNK_PORT_STAT_RATE_ERR 6 6 .RO, fd .LNK_PORT_STAT_FREQ_ERR 7 7 .RO, fd .LNK_PORT_STAT_PHASE_ERR 8 8 .RO, fd .LNK_PORT_STAT_SCHED_ERR 9 9 .W1C, fd .LNK_PORT_STAT_LP_BLOCKED 10 10 .RO, fd .LNK_PORT_STAT_OWNER 14 11 .RO, fd .LNK_PORT_STAT_OWNED 15 15 .RO, fd .LNK_PORT_STAT_PHASE_OFF 23 16 .RO, fd .LNK_PORT_STAT_DOWN_SEEN 24 24 .W1C]⟩,
  ⟨.LNK_DOWN_TMO, .LNK, .die, 0x8, [(0x100, 4)], false,
    [fd .LNK_DOWN_TMO 19 0 .RW]⟩,
  ⟨.LNK_PORT_PARTNER, .LNK, .die, 0xc, [(0x100, 4)], false,
    [fd .LNK_PORT_PARTNER_PKG 5 0 .RO, fd .LNK_PORT_PARTNER_PORT 10 6 .RO, fd .LNK_PORT_PARTNER_VALID 31 31 .RO]⟩,
  ⟨.LNK_SEQ, .LNK, .die, 0x10, [(0x100, 4)], false,
    [fd .LNK_SEQ_TX_NEXT 11 0 .RO, fd .LNK_SEQ_RX_EXP 27 16 .RO]⟩,
  ⟨.LNK_RPL_USED, .LNK, .die, 0x14, [(0x100, 4)], false,
    [fd .LNK_RPL_USED 9 0 .RO]⟩,
  ⟨.LNK_TX_NEW, .LNK, .die, 0x18, [(0x100, 4)], false,
    [fd .LNK_TX_NEW 31 0 .RO]⟩,
  ⟨.LNK_ACKED, .LNK, .die, 0x1c, [(0x100, 4)], false,
    [fd .LNK_ACKED 31 0 .RO]⟩,
  ⟨.LNK_RPL_DROP, .LNK, .die, 0x20, [(0x100, 4)], false,
    [fd .LNK_RPL_DROP 31 0 .RO]⟩,
  ⟨.LNK_RPL_EVT, .LNK, .die, 0x24, [(0x100, 4)], false,
    [fd .LNK_RPL_EVT 31 0 .RO]⟩,
  ⟨.LNK_RPL_FLITS, .LNK, .die, 0x28, [(0x100, 4)], false,
    [fd .LNK_RPL_FLITS 31 0 .RO]⟩,
  ⟨.LNK_RX_ACCEPT, .LNK, .die, 0x2c, [(0x100, 4)], false,
    [fd .LNK_RX_ACCEPT 31 0 .RO]⟩,
  ⟨.LNK_RX_BAD, .LNK, .die, 0x30, [(0x100, 4)], false,
    [fd .LNK_RX_BAD 31 0 .RO]⟩,
  ⟨.LNK_RX_GAP, .LNK, .die, 0x34, [(0x100, 4)], false,
    [fd .LNK_RX_GAP 31 0 .RO]⟩,
  ⟨.LNK_RX_DUP, .LNK, .die, 0x38, [(0x100, 4)], false,
    [fd .LNK_RX_DUP 31 0 .RO]⟩,
  ⟨.LNK_STALL_RX, .LNK, .die, 0x3c, [(0x100, 4)], false,
    [fd .LNK_STALL_RX 31 0 .RO]⟩,
  ⟨.LNK_STALL_TX, .LNK, .die, 0x40, [(0x100, 4)], false,
    [fd .LNK_STALL_TX 31 0 .RO]⟩,
  ⟨.LNK_DOWN_CNT, .LNK, .die, 0x44, [(0x100, 4)], false,
    [fd .LNK_DOWN_CNT 31 0 .RO]⟩,
  ⟨.LNK_VC_CRD, .LNK, .die, 0x80, [(0x100, 4), (0x20, 4)], false,
    [fd .LNK_VC_CRD_LIMIT 10 0 .RO, fd .LNK_VC_CRD_AVAIL 26 16 .RO]⟩,
  ⟨.LNK_VC_OCC, .LNK, .die, 0x84, [(0x100, 4), (0x20, 4)], false,
    [fd .LNK_VC_OCC 10 0 .RO]⟩,
  ⟨.LNK_VC_SENT, .LNK, .die, 0x88, [(0x100, 4), (0x20, 4)], false,
    [fd .LNK_VC_SENT 31 0 .RO]⟩,
  ⟨.LNK_VC_CRRET, .LNK, .die, 0x8c, [(0x100, 4), (0x20, 4)], false,
    [fd .LNK_VC_CRRET 31 0 .RO]⟩,
  ⟨.LNK_VC_RESTORED, .LNK, .die, 0x90, [(0x100, 4), (0x20, 4)], false,
    [fd .LNK_VC_RESTORED 31 0 .RO]⟩,
  ⟨.LNK_VC_RCVD, .LNK, .die, 0x94, [(0x100, 4), (0x20, 4)], false,
    [fd .LNK_VC_RCVD 31 0 .RO]⟩,
  ⟨.LNK_VC_FREED, .LNK, .die, 0x98, [(0x100, 4), (0x20, 4)], false,
    [fd .LNK_VC_FREED 31 0 .RO]⟩,
  ⟨.LNK_VC_DISC, .LNK, .die, 0x9c, [(0x100, 4), (0x20, 4)], false,
    [fd .LNK_VC_DISC 31 0 .RO]⟩,
  ⟨.LNK_CAS_STAT, .LNK, .pkg, 0x0, [], false,
    [fd .LNK_CAS_STAT_MASTER 0 0 .RO, fd .LNK_CAS_STAT_UP_PORT 5 1 .RO, fd .LNK_CAS_STAT_UP_VALID 6 6 .RO, fd .LNK_CAS_STAT_ALIGNED 7 7 .RO]⟩,
  ⟨.LNK_CAS_LEAD, .LNK, .pkg, 0x4, [], false,
    [fd .LNK_CAS_LEAD 16 0 .RW]⟩,
  ⟨.LNK_CAS_PEER_TMO, .LNK, .pkg, 0x8, [], false,
    [fd .LNK_CAS_PEER_TMO 19 0 .RW]⟩,
  ⟨.LNK_CAS_LOST, .LNK, .pkg, 0xc, [], false,
    [fd .LNK_CAS_LOST_PKG 5 0 .RO, fd .LNK_CAS_LOST_VALID 31 31 .W1C]⟩,
  ⟨.LNK_CAS_ALIVE, .LNK, .pkg, 0x10, [], true,
    [fd .LNK_CAS_ALIVE 63 0 .RO]⟩,
  ⟨.LNK_STEP_CNT, .LNK, .pkg, 0x18, [], true,
    [fd .LNK_STEP_CNT 63 0 .RO]⟩,
  ⟨.LNK_CAS_MSG_TX, .LNK, .pkg, 0x20, [], false,
    [fd .LNK_CAS_MSG_TX 31 0 .RO]⟩,
  ⟨.LNK_CAS_MSG_RX, .LNK, .pkg, 0x24, [], false,
    [fd .LNK_CAS_MSG_RX 31 0 .RO]⟩]

/-- Registers of the CFG block: Tables 105 (R206). -/
def regsCFG : List RegSpec := [
  ⟨.CFG_CTRL, .CFG, .pkg, 0x0, [], false,
    [fw 0 0, fw 1 1]⟩,
  ⟨.CFG_LOAD_STAT, .CFG, .pkg, 0x4, [], false,
    [fd .CFG_LOAD_STAT_PHASE 2 0 .RO, fd .CFG_LOAD_STAT_FAIL 6 3 .RO, fd .CFG_LOAD_STAT_PATCH 7 7 .RO, fd .CFG_LOAD_STAT_ERR 8 8 .RO, fd .CFG_LOAD_STAT_DONE 9 9 .RO, fd .CFG_LOAD_STAT_PEER_MISSING 10 10 .RO, fd .CFG_LOAD_STAT_GEN_ADV_PEND 11 11 .RO, fd .CFG_LOAD_STAT_NOT_ADDRESSED 12 12 .RO]⟩,
  ⟨.CFG_FAIL_INFO, .CFG, .pkg, 0x8, [], false,
    [fd .CFG_FAIL_INFO_SECTION 7 0 .RO, fd .CFG_FAIL_INFO_INST 11 8 .RO, fd .CFG_FAIL_INFO_CHUNK 31 12 .RO]⟩,
  ⟨.CFG_STALL_TMO, .CFG, .pkg, 0xc, [], false,
    [fd .CFG_STALL_TMO 13 0 .RW]⟩,
  ⟨.CFG_COMMIT_TMO, .CFG, .pkg, 0x10, [], false,
    [fd .CFG_COMMIT_TMO 15 0 .RW]⟩,
  ⟨.CFG_CHUNK_RX, .CFG, .pkg, 0x14, [], false,
    [fd .CFG_CHUNK_RX 31 0 .RO]⟩,
  ⟨.CFG_CHUNK_TAKEN, .CFG, .pkg, 0x18, [], false,
    [fd .CFG_CHUNK_TAKEN 31 0 .RO]⟩,
  ⟨.CFG_CHUNK_SKIP, .CFG, .pkg, 0x1c, [], false,
    [fd .CFG_CHUNK_SKIP 31 0 .RO]⟩,
  ⟨.CFG_CHUNK_BAD, .CFG, .pkg, 0x20, [], false,
    [fd .CFG_CHUNK_BAD 0 0 .RO]⟩,
  ⟨.CFG_BYTES, .CFG, .pkg, 0x24, [], true,
    [fd .CFG_BYTES 63 0 .RO]⟩,
  ⟨.CFG_SEC, .CFG, .pkg, 0x2c, [], false,
    [fd .CFG_SEC_SECURE 0 0 .RO, fd .CFG_SEC_EF_KEY_DIS 1 1 .RO, fd .CFG_SEC_BB_KEY_DIS 2 2 .RO]⟩,
  ⟨.CFG_GEN, .CFG, .pkg, 0x30, [], false,
    [fd .CFG_GEN 6 0 .RO]⟩,
  ⟨.CFG_KEY_STAT, .CFG, .pkg, 0x34, [], false,
    [fd .CFG_KEY_STAT_EF_VALID 0 0 .RO, fd .CFG_KEY_STAT_BB_VALID 1 1 .RO, fd .CFG_KEY_STAT_BB_SLOT 2 2 .RO]⟩,
  ⟨.CFG_KCV_EF, .CFG, .pkg, 0x38, [], false,
    [fd .CFG_KCV_EF 31 0 .RO]⟩,
  ⟨.CFG_KCV_BB, .CFG, .pkg, 0x3c, [], false,
    [fd .CFG_KCV_BB 31 0 .RO]⟩,
  ⟨.CFG_UID, .CFG, .pkg, 0x40, [], true,
    [fd .CFG_UID 63 0 .RO]⟩,
  ⟨.CFG_PKG, .CFG, .pkg, 0x48, [], false,
    [fd .CFG_PKG_PKG_ID 5 0 .RO, fd .CFG_PKG_MASTER_SEL 6 6 .RO]⟩,
  ⟨.CFG_STREAM_ID, .CFG, .pkg, 0x4c, [], true,
    [fd .CFG_STREAM_ID 63 0 .RO]⟩]

/-- Registers of the TRN block: Tables 109, 110, 111 (R217). -/
def regsTRN : List RegSpec := [
  ⟨.TRN_CTRL, .TRN, .die, 0x0, [(0x40, 64)], false,
    [fd .TRN_CTRL_EN 0 0 .RW, fd .TRN_CTRL_INTERVAL 31 16 .RW]⟩,
  ⟨.TRN_STAT, .TRN, .die, 0x4, [(0x40, 64)], false,
    [fd .TRN_STAT_ACTIVE 0 0 .RO, fd .TRN_STAT_CE 1 1 .W1C, fd .TRN_STAT_UE 2 2 .W1C]⟩,
  ⟨.TRN_CHECKED, .TRN, .die, 0x8, [(0x40, 64)], true,
    [fd .TRN_CHECKED 63 0 .RO]⟩,
  ⟨.TRN_CLEAN, .TRN, .die, 0x10, [(0x40, 64)], true,
    [fd .TRN_CLEAN 63 0 .RO]⟩,
  ⟨.TRN_CE, .TRN, .die, 0x18, [(0x40, 64)], true,
    [fd .TRN_CE 63 0 .RO]⟩,
  ⟨.TRN_UE, .TRN, .die, 0x20, [(0x40, 64)], true,
    [fd .TRN_UE 63 0 .RO]⟩,
  ⟨.TRN_PASS_CNT, .TRN, .die, 0x28, [(0x40, 64)], false,
    [fd .TRN_PASS_CNT 31 0 .RO]⟩,
  ⟨.TRN_PASS_US, .TRN, .die, 0x2c, [(0x40, 64)], false,
    [fd .TRN_PASS_US 31 0 .RO]⟩,
  ⟨.TRN_CE_ADDR, .TRN, .die, 0x30, [(0x40, 64)], false,
    [fd .TRN_CE_ADDR 31 0 .RO]⟩,
  ⟨.TRN_CE_BIT, .TRN, .die, 0x34, [(0x40, 64)], false,
    [fd .TRN_CE_BIT 12 0 .RO]⟩,
  ⟨.TRN_UE_ADDR, .TRN, .die, 0x38, [(0x40, 64)], false,
    [fd .TRN_UE_ADDR 31 0 .RO]⟩,
  ⟨.TRN_UE_INFO, .TRN, .die, 0x3c, [(0x40, 64)], false,
    [fd .TRN_UE_INFO_KIND 1 0 .RO, fd .TRN_UE_INFO_VALID 2 2 .RO]⟩,
  ⟨.TRN_BAD_SUM, .TRN, .die, 0x1000, [], true,
    [fd .TRN_BAD_SUM 63 0 .RO]⟩,
  ⟨.TRN_DRR_BAD, .TRN, .die, 0x1008, [], false,
    [fd .TRN_DRR_BAD 0 0 .RO]⟩,
  ⟨.TRN_INST_STAT, .TRN, .inst, 0x0, [(0x100, 16)], false,
    [fd .TRN_INST_STAT_BAD 9 0 .RO, fd .TRN_INST_STAT_INIT_BAD 10 10 .RO, fd .TRN_INST_STAT_FRZ_REQ 11 11 .RO]⟩,
  ⟨.TRN_INST_UE_CYC, .TRN, .inst, 0x4, [(0x100, 16)], true,
    [fd .TRN_INST_UE_CYC 63 0 .RO]⟩,
  ⟨.TRN_INST_UE_ADDR, .TRN, .inst, 0xc, [(0x100, 16)], false,
    [fd .TRN_INST_UE_ADDR 31 0 .RO]⟩,
  ⟨.TRN_INST_CE_CNT, .TRN, .inst, 0x10, [(0x100, 16)], false,
    [fd .TRN_INST_CE_CNT 31 0 .RO]⟩]

/-- Registers of the WHY block: Tables 152, 153 (R311). -/
def regsWHY : List RegSpec := [
  ⟨.WHY_SINK_CFG, .WHY, .die, 0x0, [], false,
    [fd .WHY_SINK_CFG_SINK 1 0 .RO, fd .WHY_SINK_CFG_RING_MODE 3 2 .RO, fd .WHY_SINK_CFG_PORT 8 4 .RO, fd .WHY_SINK_CFG_RING_SEGS 23 16 .RO, fd .WHY_SINK_CFG_STAGE_BANKS 30 24 .RO, fd .WHY_SINK_CFG_OWNED 31 31 .RO]⟩,
  ⟨.WHY_PROBE_CNT, .WHY, .die, 0x4, [], false,
    [fd .WHY_PROBE_CNT 16 0 .RO]⟩,
  ⟨.WHY_RING_WPTR, .WHY, .die, 0x8, [], true,
    [fd .WHY_RING_WPTR 63 0 .RO]⟩,
  ⟨.WHY_RING_RPTR, .WHY, .die, 0x10, [], true,
    [fd .WHY_RING_RPTR 63 0 .RW]⟩,
  ⟨.WHY_RING_OLDEST, .WHY, .die, 0x18, [], true,
    [fd .WHY_RING_OLDEST 63 0 .RO]⟩,
  ⟨.WHY_RING_WRAPS, .WHY, .die, 0x20, [], false,
    [fd .WHY_RING_WRAPS 31 0 .RO]⟩,
  ⟨.WHY_FIFO_LEVEL, .WHY, .die, 0x24, [], false,
    [fd .WHY_FIFO_LEVEL 21 0 .RO]⟩,
  ⟨.WHY_BYTES_PROD, .WHY, .die, 0x28, [], true,
    [fd .WHY_BYTES_PROD 63 0 .RO]⟩,
  ⟨.WHY_BYTES_WR, .WHY, .die, 0x30, [], true,
    [fd .WHY_BYTES_WR 63 0 .RO]⟩,
  ⟨.WHY_BYTES_LOST, .WHY, .die, 0x38, [], true,
    [fd .WHY_BYTES_LOST 63 0 .RO]⟩,
  ⟨.WHY_PKT_LOST, .WHY, .die, 0x40, [], false,
    [fd .WHY_PKT_LOST 31 0 .RO]⟩,
  ⟨.WHY_LOST_PEND, .WHY, .die, 0x44, [], true,
    [fd .WHY_LOST_PEND 63 0 .RO]⟩,
  ⟨.WHY_STAT, .WHY, .die, 0x4c, [], false,
    [fd .WHY_STAT 0 0 .W1C]⟩,
  ⟨.WHY_RING_SEG, .WHY, .die, 0x50, [(0x4, 144)], false,
    [fd .WHY_RING_SEG_SEGMENT 7 0 .RO, fd .WHY_RING_SEG_STACK 9 8 .RO, fd .WHY_RING_SEG_VALID 31 31 .RO]⟩,
  ⟨.WHY_CAP_CTL, .WHY, .pkg, 0x0, [], false,
    [fw 0 0, fw 1 1, fw 2 2]⟩,
  ⟨.WHY_CAP_STAT, .WHY, .pkg, 0x4, [], false,
    [fd .WHY_CAP_STAT_STATE 1 0 .RO, fd .WHY_CAP_STAT_REASON 4 2 .RO, fd .WHY_CAP_STAT_OWNER 8 5 .RO, fd .WHY_CAP_STAT_OWNED 9 9 .RO, fd .WHY_CAP_STAT_CMD_IGNORED 10 10 .W1C, fd .WHY_CAP_STAT_SNAP_VALID 11 11 .RO]⟩,
  ⟨.WHY_CAP_CFG, .WHY, .pkg, 0x8, [], false,
    [fd .WHY_CAP_CFG_SYNC_PERIOD 16 0 .RWB, fd .WHY_CAP_CFG_DONE_FRZ 17 17 .RWB, fd .WHY_CAP_CFG_ARM_ON_START 18 18 .RWB]⟩,
  ⟨.WHY_POST, .WHY, .pkg, 0xc, [], false,
    [fd .WHY_POST 31 0 .RWB]⟩,
  ⟨.WHY_ARM_MCC, .WHY, .pkg, 0x10, [], true,
    [fd .WHY_ARM_MCC 63 0 .RO]⟩,
  ⟨.WHY_END_MCC, .WHY, .pkg, 0x18, [], true,
    [fd .WHY_END_MCC 63 0 .RO]⟩]

/-- Registers of the RNT block: Tables 154 (R311). -/
def regsRNT : List RegSpec := [
  ⟨.RNT_CMP_SRC, .RNT, .pkg, 0x0, [(0x10, 64)], false,
    [fd .RNT_CMP_SRC_BITPOS 16 0 .RWB, fd .RNT_CMP_SRC_DIE 19 17 .RWB, fd .RNT_CMP_SRC_WORD 20 20 .RWB, fd .RNT_CMP_SRC_SIGNED 21 21 .RWB, fd .RNT_CMP_SRC_OP 25 22 .RWB, fd .RNT_CMP_SRC_EN 31 31 .RWB]⟩,
  ⟨.RNT_CMP_VAL, .RNT, .pkg, 0x4, [(0x10, 64)], false,
    [fd .RNT_CMP_VAL_VALUE 15 0 .RWB, fd .RNT_CMP_VAL_MASK 31 16 .RWB]⟩,
  ⟨.RNT_CMP_HIT, .RNT, .pkg, 0x8, [(0x10, 64)], false,
    [fd .RNT_CMP_HIT 31 0 .RO]⟩,
  ⟨.RNT_ST_CFG, .RNT, .pkg, 0x400, [(0x80, 16)], false,
    [fd .RNT_ST_CFG 0 0 .RWB]⟩,
  ⟨.RNT_BR_MASK_LO, .RNT, .pkg, 0x410, [(0x80, 16), (0x10, 4)], false,
    [fd .RNT_BR_MASK_LO 31 0 .RWB]⟩,
  ⟨.RNT_BR_MASK_HI, .RNT, .pkg, 0x414, [(0x80, 16), (0x10, 4)], false,
    [fd .RNT_BR_MASK_HI 31 0 .RWB]⟩,
  ⟨.RNT_BR_CTL, .RNT, .pkg, 0x418, [(0x80, 16), (0x10, 4)], false,
    [fd .RNT_BR_CTL_EN 0 0 .RWB, fd .RNT_BR_CTL_ALL 1 1 .RWB, fd .RNT_BR_CTL_CNT_DONE 9 2 .RWB, fd .RNT_BR_CTL_TMR_DONE 13 10 .RWB, fd .RNT_BR_CTL_NEXT 17 14 .RWB]⟩,
  ⟨.RNT_BR_ACT, .RNT, .pkg, 0x41c, [(0x80, 16), (0x10, 4)], false,
    [fd .RNT_BR_ACT_CNT_CLR 7 0 .RWB, fd .RNT_BR_ACT_TMR_START 11 8 .RWB, fd .RNT_BR_ACT_TMR_STOP 15 12 .RWB, fd .RNT_BR_ACT_TRIGGER 16 16 .RWB, fd .RNT_BR_ACT_FREEZE 17 17 .RWB]⟩,
  ⟨.RNT_CNT_CFG, .RNT, .pkg, 0xc00, [(0x20, 8)], false,
    [fd .RNT_CNT_CFG_SRC 5 0 .RWB, fd .RNT_CNT_CFG_ALWAYS 6 6 .RWB, fd .RNT_CNT_CFG_STATES 23 8 .RWB]⟩,
  ⟨.RNT_CNT_LIM, .RNT, .pkg, 0xc08, [(0x20, 8)], true,
    [fd .RNT_CNT_LIM 47 0 .RWB]⟩,
  ⟨.RNT_CNT_VAL, .RNT, .pkg, 0xc10, [(0x20, 8)], true,
    [fd .RNT_CNT_VAL 47 0 .RO]⟩,
  ⟨.RNT_TMR_LIM, .RNT, .pkg, 0xd00, [(0x20, 4)], true,
    [fd .RNT_TMR_LIM 47 0 .RWB]⟩,
  ⟨.RNT_TMR_VAL, .RNT, .pkg, 0xd08, [(0x20, 4)], true,
    [fd .RNT_TMR_VAL 47 0 .RO]⟩,
  ⟨.RNT_TMR_LAST, .RNT, .pkg, 0xd10, [(0x20, 4)], true,
    [fd .RNT_TMR_LAST 47 0 .RO]⟩,
  ⟨.RNT_CTL, .RNT, .pkg, 0xe00, [], false,
    [fd .RNT_CTL 0 0 .RWB]⟩,
  ⟨.RNT_AUTO_TMO, .RNT, .pkg, 0xe04, [], false,
    [fd .RNT_AUTO_TMO 31 0 .RWB]⟩,
  ⟨.RNT_STAT, .RNT, .pkg, 0xe08, [], false,
    [fd .RNT_STAT_STATE 3 0 .RO, fd .RNT_STAT_ARMED 4 4 .RO, fd .RNT_STAT_TRIGGERED 5 5 .RO, fd .RNT_STAT_RETRIG 31 16 .RO]⟩,
  ⟨.RNT_TRIG_MCC, .RNT, .pkg, 0xe0c, [], true,
    [fd .RNT_TRIG_MCC 63 0 .RO]⟩,
  ⟨.RNT_TRIG_INFO, .RNT, .pkg, 0xe14, [], false,
    [fd .RNT_TRIG_INFO 31 0 .RO]⟩]

/-- Registers of the MBX block: Tables 174, 175, 176 (R355). -/
def regsMBX : List RegSpec := [
  ⟨.MBX_MP_STAT, .MBX, .die, 0x0, [], false,
    [fd .MBX_MP_STAT_STATE 2 0 .RO, fd .MBX_MP_STAT_WDOG_EXP 3 3 .W1C]⟩,
  ⟨.MBX_WDOG_CFG, .MBX, .die, 0x4, [], false,
    [fd .MBX_WDOG_CFG 9 0 .RW]⟩,
  ⟨.MBX_WDOG_KICK, .MBX, .die, 0x8, [], false,
    [fw 0 0]⟩,
  ⟨.MBX_WDOG_CNT, .MBX, .die, 0xc, [], false,
    [fd .MBX_WDOG_CNT 31 0 .RO]⟩,
  ⟨.MBX_MP_RESTART_CNT, .MBX, .die, 0x10, [], false,
    [fd .MBX_MP_RESTART_CNT 31 0 .RO]⟩,
  ⟨.MBX_CTRL, .MBX, .die0, 0x10000, [(0x100, 16)], false,
    [fd .MBX_CTRL_EN 0 0 .RW, fd .MBX_CTRL_ONCHIP 1 1 .RW, fw 2 2, fd .MBX_CTRL_PRIO 4 3 .RW, fd .MBX_CTRL_PORT 5 5 .RW, fd .MBX_CTRL_IRQ_EN 6 6 .RW, fd .MBX_CTRL_MAXQ 13 8 .RW]⟩,
  ⟨.MBX_RING_CFG, .MBX, .die0, 0x10004, [(0x100, 16)], false,
    [fd .MBX_RING_CFG 3 0 .RW]⟩,
  ⟨.MBX_CMD_BASE, .MBX, .die0, 0x10008, [(0x100, 16)], true,
    [fd .MBX_CMD_BASE 63 0 .RW]⟩,
  ⟨.MBX_CPL_BASE, .MBX, .die0, 0x10010, [(0x100, 16)], true,
    [fd .MBX_CPL_BASE 63 0 .RW]⟩,
  ⟨.MBX_CMD_TAIL, .MBX, .die0, 0x10018, [(0x100, 16)], false,
    [fd .MBX_CMD_TAIL 15 0 .RW]⟩,
  ⟨.MBX_CMD_HEAD, .MBX, .die0, 0x1001c, [(0x100, 16)], false,
    [fd .MBX_CMD_HEAD 15 0 .RO]⟩,
  ⟨.MBX_CPL_TAIL, .MBX, .die0, 0x10020, [(0x100, 16)], false,
    [fd .MBX_CPL_TAIL 15 0 .RO]⟩,
  ⟨.MBX_CPL_HEAD, .MBX, .die0, 0x10024, [(0x100, 16)], false,
    [fd .MBX_CPL_HEAD 15 0 .RW]⟩,
  ⟨.MBX_SEQ, .MBX, .die0, 0x10028, [(0x100, 16)], false,
    [fd .MBX_SEQ 15 0 .RW]⟩,
  ⟨.MBX_STAT, .MBX, .die0, 0x1002c, [(0x100, 16)], false,
    [fd .MBX_STAT_BUSY 0 0 .RO, fd .MBX_STAT_INFLIGHT 7 1 .RO, fd .MBX_STAT_CPL_PEND 14 8 .RO, fd .MBX_STAT_ASM 18 15 .RO, fd .MBX_STAT_STALL_CPL 19 19 .RO, fd .MBX_STAT_FETCH_ERR 20 20 .W1C, fd .MBX_STAT_SLOT_ERR 21 21 .W1C]⟩,
  ⟨.MBX_SLOT_POSTED, .MBX, .die0, 0x10030, [(0x100, 16)], false,
    [fd .MBX_SLOT_POSTED 31 0 .RO]⟩,
  ⟨.MBX_SLOT_USED, .MBX, .die0, 0x10034, [(0x100, 16)], false,
    [fd .MBX_SLOT_USED 31 0 .RO]⟩,
  ⟨.MBX_SLOT_DISC, .MBX, .die0, 0x10038, [(0x100, 16)], false,
    [fd .MBX_SLOT_DISC 31 0 .RO]⟩,
  ⟨.MBX_MSG_IN, .MBX, .die0, 0x1003c, [(0x100, 16)], false,
    [fd .MBX_MSG_IN 31 0 .RO]⟩,
  ⟨.MBX_MSG_DISC, .MBX, .die0, 0x10040, [(0x100, 16)], false,
    [fd .MBX_MSG_DISC 31 0 .RO]⟩,
  ⟨.MBX_CPL_WR, .MBX, .die0, 0x10044, [(0x100, 16)], false,
    [fd .MBX_CPL_WR 31 0 .RO]⟩,
  ⟨.MBX_MSG_DUP, .MBX, .die0, 0x10048, [(0x100, 16)], false,
    [fd .MBX_MSG_DUP 31 0 .RO]⟩,
  ⟨.MBX_MSG_BUSY, .MBX, .die0, 0x1004c, [(0x100, 16)], false,
    [fd .MBX_MSG_BUSY 31 0 .RO]⟩,
  ⟨.MBX_EVT_CTRL, .MBX, .die0, 0x20000, [], false,
    [fd .MBX_EVT_CTRL_EN 0 0 .RW, fd .MBX_EVT_CTRL_LOG2N 4 1 .RW, fd .MBX_EVT_CTRL_IRQ_EN 5 5 .RW, fd .MBX_EVT_CTRL_PORT 6 6 .RW]⟩,
  ⟨.MBX_EVT_BASE, .MBX, .die0, 0x20004, [], true,
    [fd .MBX_EVT_BASE 63 0 .RW]⟩,
  ⟨.MBX_EVT_TAIL, .MBX, .die0, 0x2000c, [], false,
    [fd .MBX_EVT_TAIL 15 0 .RO]⟩,
  ⟨.MBX_EVT_HEAD, .MBX, .die0, 0x20010, [], false,
    [fd .MBX_EVT_HEAD 15 0 .RW]⟩,
  ⟨.MBX_EVT_PROD, .MBX, .die0, 0x20014, [], false,
    [fd .MBX_EVT_PROD 31 0 .RO]⟩,
  ⟨.MBX_EVT_WR, .MBX, .die0, 0x20018, [], false,
    [fd .MBX_EVT_WR 31 0 .RO]⟩,
  ⟨.MBX_EVT_LOST, .MBX, .die0, 0x2001c, [], false,
    [fd .MBX_EVT_LOST 31 0 .RO]⟩,
  ⟨.MBX_EVT_PEND, .MBX, .die0, 0x20020, [], false,
    [fd .MBX_EVT_PEND 8 0 .RO]⟩,
  ⟨.MBX_PKG_STAT, .MBX, .die0, 0x20024, [], false,
    [fd .MBX_PKG_STAT_FW_READY 0 0 .RO, fd .MBX_PKG_STAT_MASTER_FAILED 1 1 .RO, fd .MBX_PKG_STAT_PORT0_UP 2 2 .RO, fd .MBX_PKG_STAT_PORT1_UP 3 3 .RO]⟩,
  ⟨.MSIX_ADDR, .MBX, .die0, 0x30000, [(0x10, 18)], true,
    [fd .MSIX_ADDR 63 2 .RW]⟩,
  ⟨.MSIX_DATA, .MBX, .die0, 0x30008, [(0x10, 18)], false,
    [fd .MSIX_DATA 31 0 .RW]⟩,
  ⟨.MSIX_CTL, .MBX, .die0, 0x3000c, [(0x10, 18)], false,
    [fd .MSIX_MASK 0 0 .RW]⟩,
  ⟨.MSIX_PBA, .MBX, .die0, 0x31000, [], true,
    [fd .MSIX_PBA 63 0 .RO]⟩]

/-- Registers of the SCH block: Tables 186, 187, 188, 189 (R376). -/
def regsSCH : List RegSpec := [
  ⟨.SCH_CTRL, .SCH, .pkg, 0x0, [], false,
    [fw 0 0]⟩,
  ⟨.SCH_STAT, .SCH, .pkg, 0x4, [], false,
    [fd .SCH_STAT_EDF 0 0 .RO, fd .SCH_STAT_POOL_EMPTY 1 1 .RO, fd .SCH_STAT_ENGINE_FAULT 2 2 .W1C]⟩,
  ⟨.SCH_POOL, .SCH, .pkg, 0x8, [], false,
    [fd .SCH_POOL 13 0 .RO]⟩,
  ⟨.SCH_DL, .SCH, .pkg, 0x10, [(0x4, 4)], false,
    [fd .SCH_DL 23 0 .RW]⟩,
  ⟨.SCH_DEPTH_LO, .SCH, .pkg, 0x20, [(0x8, 4)], false,
    fs .SCH_DEPTH_LO 16 2⟩,
  ⟨.SCH_DEPTH_HI, .SCH, .pkg, 0x24, [(0x8, 4)], false,
    fs .SCH_DEPTH_HI 16 2⟩,
  ⟨.SCH_CREATED, .SCH, .pkg, 0x100, [(0x20, 4)], false,
    [fd .SCH_CREATED 31 0 .RO]⟩,
  ⟨.SCH_DONE, .SCH, .pkg, 0x104, [(0x20, 4)], false,
    [fd .SCH_DONE 31 0 .RO]⟩,
  ⟨.SCH_PURGED, .SCH, .pkg, 0x108, [(0x20, 4)], false,
    [fd .SCH_PURGED 31 0 .RO]⟩,
  ⟨.SCH_READY, .SCH, .pkg, 0x10c, [(0x20, 4)], false,
    [fd .SCH_READY 31 0 .RO]⟩,
  ⟨.SCH_RUN, .SCH, .pkg, 0x110, [(0x20, 4)], false,
    [fd .SCH_RUN 31 0 .RO]⟩,
  ⟨.SCH_LATE, .SCH, .pkg, 0x114, [(0x20, 4)], false,
    [fd .SCH_LATE 31 0 .RO]⟩,
  ⟨.SCH_WAIT_HIST, .SCH, .pkg, 0x200, [(0x20, 4), (0x4, 8)], false,
    [fd .SCH_WAIT_HIST 31 0 .RO]⟩,
  ⟨.SCH_DMA_ISSUED, .SCH, .pkg, 0x300, [], false,
    [fd .SCH_DMA_ISSUED 31 0 .RO]⟩,
  ⟨.SCH_DMA_DONE, .SCH, .pkg, 0x304, [], false,
    [fd .SCH_DMA_DONE 31 0 .RO]⟩,
  ⟨.SCH_DMA_DISCARD, .SCH, .pkg, 0x308, [], false,
    [fd .SCH_DMA_DISCARD 31 0 .RO]⟩,
  ⟨.SCH_DMA_ACTIVE, .SCH, .pkg, 0x30c, [], false,
    [fd .SCH_DMA_ACTIVE 5 0 .RO]⟩,
  ⟨.SCH_DMA_RETRY, .SCH, .pkg, 0x310, [], false,
    [fd .SCH_DMA_RETRY 31 0 .RO]⟩,
  ⟨.SCH_INST_RST, .SCH, .pkg, 0x1000, [(0x40, 16)], false,
    [fd .SCH_INST_RST_PHASE 2 0 .RO, fd .SCH_INST_RST_OVERRUN 3 3 .W1C]⟩,
  ⟨.SCH_INST_OUT, .SCH, .pkg, 0x1004, [(0x40, 16)], false,
    [fd .SCH_INST_OUT 19 0 .RO]⟩,
  ⟨.SCH_INST_RST_US, .SCH, .pkg, 0x1008, [(0x40, 16)], false,
    [fd .SCH_INST_RST_US 31 0 .RO]⟩,
  ⟨.SCH_INST_RST_CNT, .SCH, .pkg, 0x100c, [(0x40, 16)], false,
    [fd .SCH_INST_RST_CNT 31 0 .RO]⟩,
  ⟨.SCH_INST_PURGED, .SCH, .pkg, 0x1010, [(0x40, 16)], false,
    [fd .SCH_INST_PURGED 31 0 .RO]⟩,
  ⟨.SCH_ENG_STAT, .SCH, .pkg, 0x2000, [(0x20, 40)], false,
    [fd .SCH_ENG_STAT_PRESENT 0 0 .RO, fd .SCH_ENG_STAT_FAULT 1 1 .RO, fd .SCH_ENG_STAT_INPROG 4 2 .RO, fd .SCH_ENG_STAT_INST 8 5 .RO, fd .SCH_ENG_STAT_INST_VALID 9 9 .RO]⟩,
  ⟨.SCH_ENG_CTRL, .SCH, .pkg, 0x2004, [(0x20, 40)], false,
    [fw 0 0]⟩,
  ⟨.SCH_ENG_DONE, .SCH, .pkg, 0x2008, [(0x20, 40)], false,
    [fd .SCH_ENG_DONE 31 0 .RO]⟩,
  ⟨.SCH_ENG_LOAD, .SCH, .pkg, 0x200c, [(0x20, 40)], false,
    [fd .SCH_ENG_LOAD 9 0 .RO]⟩,
  ⟨.SCH_ENG_BUSY_US, .SCH, .pkg, 0x2010, [(0x20, 40)], false,
    [fd .SCH_ENG_BUSY_US 31 0 .RO]⟩,
  ⟨.SCH_FLOW_CFG, .SCH, .pkg, 0x10000, [(0x40, 4096)], false,
    [fd .SCH_FLOW_CFG_CALL 0 0 .RW, fd .SCH_FLOW_CFG_VDIE 3 1 .RW, fd .SCH_FLOW_CFG_VREGION 9 4 .RW, fd .SCH_FLOW_CFG_VCLUSTER 14 10 .RW, fd .SCH_FLOW_CFG_DEPTHM1 20 15 .RW, fd .SCH_FLOW_CFG_PRIO 22 21 .RW, fd .SCH_FLOW_CFG_NREG 27 23 .RW, fd .SCH_FLOW_CFG_NBIT 31 28 .RW]⟩,
  ⟨.SCH_FLOW_BUF, .SCH, .pkg, 0x10004, [(0x40, 4096)], false,
    [fd .SCH_FLOW_BUF_BASE 9 0 .RW, fd .SCH_FLOW_BUF_LEN 20 10 .RW]⟩,
  ⟨.SCH_FLOW_STAT, .SCH, .pkg, 0x10008, [(0x40, 4096)], false,
    [fd .SCH_FLOW_STAT_STATE 1 0 .RO, fd .SCH_FLOW_STAT_DIR 2 2 .RO, fd .SCH_FLOW_STAT_SEQ_ERR 3 3 .W1C, fd .SCH_FLOW_STAT_DMA_ERR 4 4 .W1C, fd .SCH_FLOW_STAT_STAGED 11 5 .RO, fd .SCH_FLOW_STAT_CALLS 18 12 .RO, fd .SCH_FLOW_STAT_OWNER 22 19 .RO, fd .SCH_FLOW_STAT_OWNED 23 23 .RO, fd .SCH_FLOW_STAT_LEN_ERR 24 24 .W1C]⟩,
  ⟨.SCH_FLOW_HOST, .SCH, .pkg, 0x1000c, [(0x40, 4096)], false,
    [fd .SCH_FLOW_HOST 15 0 .RW]⟩,
  ⟨.SCH_FLOW_DEV, .SCH, .pkg, 0x10010, [(0x40, 4096)], false,
    [fd .SCH_FLOW_DEV 15 0 .RO]⟩,
  ⟨.SCH_FLOW_TAKEN, .SCH, .pkg, 0x10014, [(0x40, 4096)], false,
    [fd .SCH_FLOW_TAKEN 31 0 .RO]⟩,
  ⟨.SCH_FLOW_REL, .SCH, .pkg, 0x10018, [(0x40, 4096)], false,
    [fd .SCH_FLOW_REL 31 0 .RO]⟩,
  ⟨.SCH_FLOW_PURGED, .SCH, .pkg, 0x1001c, [(0x40, 4096)], false,
    [fd .SCH_FLOW_PURGED 31 0 .RO]⟩,
  ⟨.SCH_FLOW_ANS_LO, .SCH, .pkg, 0x10020, [(0x40, 4096)], false,
    [fd .SCH_FLOW_ANS_LO 31 0 .RW]⟩,
  ⟨.SCH_FLOW_ANS_HI, .SCH, .pkg, 0x10024, [(0x40, 4096)], false,
    [fw 31 0]⟩,
  ⟨.SCH_FLOW_HOLD, .SCH, .pkg, 0x10028, [(0x40, 4096)], false,
    [fd .SCH_FLOW_HOLD 31 0 .RO]⟩,
  ⟨.SCH_FLOW_LAT_MAX, .SCH, .pkg, 0x1002c, [(0x40, 4096)], false,
    [fd .SCH_FLOW_LAT_MAX 31 0 .RO]⟩,
  ⟨.SCH_FLOW_RING, .SCH, .pkg, 0x10030, [(0x40, 4096)], true,
    [fd .SCH_FLOW_RING 63 0 .RO]⟩,
  ⟨.SCH_FLOW_RINGCFG, .SCH, .pkg, 0x10038, [(0x40, 4096)], false,
    [fd .SCH_FLOW_RINGCFG_LOG2N 3 0 .RO, fd .SCH_FLOW_RINGCFG_ENTRY_BYTES 16 4 .RO]⟩,
  ⟨.SCH_FLOW_SNAPLVL, .SCH, .pkg, 0x1003c, [(0x40, 4096)], false,
    [fd .SCH_FLOW_SNAPLVL 6 0 .RO]⟩]

/-- Registers of the SVC block (Table 197 gives SVC_RMT_ROUTE of packages 32 to 63 the offsets of the initiator blocks; the blocks stand): Tables 197 (R396). -/
def regsSVC : List RegSpec := [
  ⟨.SVC_TMO, .SVC, .die, 0x0, [], false,
    [fd .SVC_TMO 19 0 .RW]⟩,
  ⟨.SVC_STAT, .SVC, .die, 0x4, [], false,
    [fd .SVC_STAT_CE 0 0 .W1C, fd .SVC_STAT_UE 1 1 .W1C, fd .SVC_STAT_TMO 2 2 .W1C]⟩,
  ⟨.SVC_CE_CNT, .SVC, .die, 0x8, [], false,
    [fd .SVC_CE_CNT 31 0 .RO]⟩,
  ⟨.SVC_UE_CNT, .SVC, .die, 0xc, [], false,
    [fd .SVC_UE_CNT 31 0 .RO]⟩,
  ⟨.SVC_TMO_LOG_ADDR, .SVC, .die, 0x10, [], true,
    [fd .SVC_TMO_LOG_ADDR 39 0 .RO]⟩,
  ⟨.SVC_TMO_LOG_INFO, .SVC, .die, 0x18, [], false,
    [fd .SVC_TMO_LOG_INFO_INITIATOR 7 0 .RO, fd .SVC_TMO_LOG_INFO_INST 11 8 .RO, fd .SVC_TMO_LOG_INFO_INST_VALID 12 12 .RO, fd .SVC_TMO_LOG_INFO_WRITE 13 13 .RO, fd .SVC_TMO_LOG_INFO_VALID 31 31 .W1C]⟩,
  ⟨.SVC_PD_AUTO, .SVC, .die, 0x1c, [], false,
    [fd .SVC_PD_AUTO 15 0 .RW]⟩,
  ⟨.SVC_REQ, .SVC, .die, 0x100, [(0x20, 10)], false,
    [fd .SVC_REQ 31 0 .RO]⟩,
  ⟨.SVC_RSP, .SVC, .die, 0x104, [(0x20, 10)], false,
    [fd .SVC_RSP 31 0 .RO]⟩,
  ⟨.SVC_ERR, .SVC, .die, 0x108, [(0x20, 10)], false,
    [fd .SVC_ERR 31 0 .RO]⟩,
  ⟨.SVC_TMO_CNT, .SVC, .die, 0x10c, [(0x20, 10)], false,
    [fd .SVC_TMO_CNT 31 0 .RO]⟩,
  ⟨.SVC_OUTST, .SVC, .die, 0x110, [(0x20, 10)], false,
    [fd .SVC_OUTST 6 0 .RO]⟩,
  ⟨.SVC_LATE, .SVC, .die, 0x114, [(0x20, 10)], false,
    [fd .SVC_LATE 31 0 .RO]⟩,
  ⟨.SVC_PD_CTL, .SVC, .die, 0x400, [(0x10, 64)], false,
    [fw 1 0]⟩,
  ⟨.SVC_PD_STAT, .SVC, .die, 0x404, [(0x10, 64)], false,
    [fd .SVC_PD_STAT_STATE 2 0 .RO, fd .SVC_PD_STAT_TMO 3 3 .W1C]⟩,
  ⟨.SVC_PD_CNT, .SVC, .die, 0x408, [(0x10, 64)], false,
    [fd .SVC_PD_CNT_OFF 15 0 .RO, fd .SVC_PD_CNT_ON 31 16 .RO]⟩,
  ⟨.SVC_PD_US, .SVC, .die, 0x40c, [(0x10, 64)], false,
    [fd .SVC_PD_US 31 0 .RO]⟩,
  ⟨.SVC_RMT_ROUTE, .SVC, .die0, 0x80, [(0x4, 64)], false,
    [fd .SVC_RMT_ROUTE_PORT 4 0 .RW, fd .SVC_RMT_ROUTE_VALID 31 31 .RW]⟩]

/-- Registers of the TIM block: Tables 202 (R413). -/
def regsTIM : List RegSpec := [
  ⟨.TIM_CTRL, .TIM, .pkg, 0x0, [], false,
    [fd .TIM_CTRL 1 0 .RW]⟩,
  ⟨.TIM_STAT, .TIM, .pkg, 0x4, [], false,
    [fd .TIM_STAT_STATE 1 0 .RO, fd .TIM_STAT_STEPPED 2 2 .W1C, fd .TIM_STAT_LATE 3 3 .W1C, fd .TIM_STAT_CLK_LOST 4 4 .RO, fd .TIM_STAT_VALID 5 5 .RO]⟩,
  ⟨.TIM_NT, .TIM, .pkg, 0x8, [], true,
    [fd .TIM_NT 63 0 .RO]⟩,
  ⟨.TIM_NS, .TIM, .pkg, 0x10, [], false,
    [fd .TIM_NS 29 0 .RO]⟩,
  ⟨.TIM_SEC, .TIM, .pkg, 0x14, [], true,
    [fd .TIM_SEC 47 0 .RO]⟩,
  ⟨.TIM_RATE, .TIM, .pkg, 0x1c, [], false,
    [fd .TIM_RATE 31 0 .RWB]⟩,
  ⟨.TIM_ADJ, .TIM, .pkg, 0x20, [], true,
    [fw 63 0]⟩,
  ⟨.TIM_STEP_THR, .TIM, .pkg, 0x28, [], false,
    [fd .TIM_STEP_THR 29 0 .RW]⟩,
  ⟨.TIM_SLEW_MAX, .TIM, .pkg, 0x2c, [], false,
    [fd .TIM_SLEW_MAX 18 0 .RW]⟩,
  ⟨.TIM_LOCK_THR, .TIM, .pkg, 0x30, [], false,
    [fd .TIM_LOCK_THR 15 0 .RW]⟩,
  ⟨.TIM_SYNC_TMO, .TIM, .pkg, 0x34, [], false,
    [fd .TIM_SYNC_TMO 15 0 .RW]⟩,
  ⟨.TIM_PTP_CFG, .TIM, .pkg, 0x38, [], false,
    [fd .TIM_PTP_CFG_PORT 0 0 .RW, fd .TIM_PTP_CFG_TRANSPORT 2 1 .RW, fd .TIM_PTP_CFG_P2P 3 3 .RW, fd .TIM_PTP_CFG_SLAVE_ONLY 4 4 .RW, fd .TIM_PTP_CFG_DOMAIN 15 8 .RW]⟩,
  ⟨.TIM_STEP_CNT, .TIM, .pkg, 0x3c, [], false,
    [fd .TIM_STEP_CNT 31 0 .RO]⟩,
  ⟨.TIM_STEP_LOG_AMT, .TIM, .pkg, 0x40, [], true,
    [fd .TIM_STEP_LOG_AMT 63 0 .RO]⟩,
  ⟨.TIM_STEP_LOG_AT, .TIM, .pkg, 0x48, [], true,
    [fd .TIM_STEP_LOG_AT 63 0 .RO]⟩,
  ⟨.TIM_OFFSET, .TIM, .pkg, 0x50, [], true,
    [fd .TIM_OFFSET 63 0 .RO]⟩,
  ⟨.TIM_HOLD_MS, .TIM, .pkg, 0x58, [], false,
    [fd .TIM_HOLD_MS 31 0 .RO]⟩,
  ⟨.TIM_GUARD, .TIM, .pkg, 0x5c, [], false,
    [fd .TIM_GUARD 11 0 .RW]⟩,
  ⟨.TIM_ETH_STAT, .TIM, .pkg, 0x60, [(0x10, 2)], false,
    [fd .TIM_ETH_STAT_LINK 0 0 .RO, fd .TIM_ETH_STAT_RSFEC 1 1 .RW]⟩,
  ⟨.TIM_ETH_TXLAT, .TIM, .pkg, 0x64, [(0x10, 2)], false,
    [fd .TIM_ETH_TXLAT_PS 15 0 .RW, fd .TIM_ETH_TXLAT_RXLAT 31 16 .RW]⟩,
  ⟨.TIM_ETH_RXDISC, .TIM, .pkg, 0x68, [(0x10, 2)], false,
    [fd .TIM_ETH_RXDISC 31 0 .RO]⟩,
  ⟨.TIM_ETH_CSUM, .TIM, .pkg, 0x6c, [(0x10, 2)], false,
    [fd .TIM_ETH_CSUM 31 0 .RO]⟩,
  ⟨.TIM_LQ_W, .TIM, .pkg, 0x100, [(0x4, 6)], false,
    [fd .TIM_LQ_W 31 0 .RW]⟩,
  ⟨.TIM_LQ_PUSH, .TIM, .pkg, 0x120, [], false,
    [fw 0 0]⟩,
  ⟨.TIM_LQ_RES, .TIM, .pkg, 0x124, [], false,
    [fd .TIM_LQ_RES_ID 5 0 .RO, fd .TIM_LQ_RES_REFUSE 7 6 .RO]⟩,
  ⟨.TIM_LQ_CANCEL, .TIM, .pkg, 0x128, [], false,
    [fw 5 0]⟩,
  ⟨.TIM_LQ_LEVEL, .TIM, .pkg, 0x12c, [], false,
    [fd .TIM_LQ_LEVEL 6 0 .RO]⟩,
  ⟨.TIM_LQ_PUSHED, .TIM, .pkg, 0x130, [], false,
    [fd .TIM_LQ_PUSHED 31 0 .RO]⟩,
  ⟨.TIM_LQ_FIRED, .TIM, .pkg, 0x134, [], false,
    [fd .TIM_LQ_FIRED 31 0 .RO]⟩,
  ⟨.TIM_LQ_DISC, .TIM, .pkg, 0x138, [], false,
    [fd .TIM_LQ_DISC 31 0 .RO]⟩,
  ⟨.TIM_LQ_CANCELLED, .TIM, .pkg, 0x13c, [], false,
    [fd .TIM_LQ_CANCELLED 31 0 .RO]⟩,
  ⟨.TIM_LQ_LATE, .TIM, .pkg, 0x140, [], false,
    [fd .TIM_LQ_LATE 31 0 .RO]⟩]

/-- Registers of the ADC block: Tables 217, 218, 219 (R451). -/
def regsADC : List RegSpec := [
  ⟨.ADC_CTRL, .ADC, .die, 0x0, [], false,
    [fd .ADC_CTRL_MODE 0 0 .RWB, fw 1 1, fd .ADC_CTRL_HOST 2 2 .RW]⟩,
  ⟨.ADC_CFG, .ADC, .die, 0x4, [], false,
    [fd .ADC_CFG_CHAN 3 0 .RWB, fd .ADC_CFG_REF 5 4 .RWB, fd .ADC_CFG_RATE 15 8 .RWB]⟩,
  ⟨.ADC_STAT, .ADC, .die, 0x8, [], false,
    [fd .ADC_STAT_BUSY 0 0 .RO, fd .ADC_STAT_REF_SETTLED 1 1 .RO]⟩,
  ⟨.ADC_RESULT, .ADC, .die, 0xc, [], false,
    [fd .ADC_RESULT_CODE 11 0 .RO, fd .ADC_RESULT_CHAN 15 12 .RO, fd .ADC_RESULT_REF 17 16 .RO, fd .ADC_RESULT_UNSETTLED 18 18 .RO, fd .ADC_RESULT_SEQ 31 20 .RO]⟩,
  ⟨.ADC_CONV_CNT, .ADC, .die, 0x10, [], false,
    [fd .ADC_CONV_CNT 31 0 .RO]⟩,
  ⟨.ADC_MON_RAIL, .ADC, .die, 0x100, [], false,
    [fd .ADC_MON_RAIL_IN 4 0 .RO, fd .ADC_MON_RAIL_OUT 12 8 .W1C]⟩,
  ⟨.ADC_MON_TEMP, .ADC, .die, 0x104, [], false,
    [fd .ADC_MON_TEMP_WARN 3 0 .RO, fd .ADC_MON_TEMP_CRIT 7 4 .RO, fd .ADC_MON_TEMP_WARN_SEEN 11 8 .W1C, fd .ADC_MON_TEMP_CRIT_SEEN 15 12 .W1C]⟩,
  ⟨.ADC_MON_THR, .ADC, .die, 0x108, [], false,
    [fd .ADC_MON_THR_WARN 7 0 .RW, fd .ADC_MON_THR_CRIT 15 8 .RW]⟩,
  ⟨.ADC_MON_UV_CNT, .ADC, .die, 0x10c, [], false,
    [fd .ADC_MON_UV_CNT 31 0 .RO]⟩,
  ⟨.ADC_PLL_STAT, .ADC, .die, 0x200, [], false,
    [fd .ADC_PLL_STAT_ROOT_LOCK 0 0 .RO, fd .ADC_PLL_STAT_ROOT_HOLD 1 1 .RO, fd .ADC_PLL_STAT_SD_LOCK 2 2 .RO, fd .ADC_PLL_STAT_HBM_LOCK 3 3 .RO, fd .ADC_PLL_STAT_ROOT_LOCK_LOST 4 4 .W1C]⟩,
  ⟨.ADC_CLK_CFG, .ADC, .die0, 0x204, [], false,
    [fd .ADC_CLK_CFG_ROOT 0 0 .RW, fd .ADC_CLK_CFG_GRADE 1 1 .RO]⟩,
  ⟨.ADC_REF_CTRL, .ADC, .die0, 0x208, [], false,
    [fd .ADC_REF_CTRL_PRI 1 0 .RW, fd .ADC_REF_CTRL_ALT 3 2 .RW, fd .ADC_REF_CTRL_REVERT 4 4 .RW, fd .ADC_REF_CTRL_REC_PORT 9 5 .RW]⟩,
  ⟨.ADC_REF_STAT, .ADC, .die0, 0x20c, [], false,
    [fd .ADC_REF_STAT_ACTIVE 1 0 .RO, fd .ADC_REF_STAT_A_VALID 2 2 .RO, fd .ADC_REF_STAT_B_VALID 3 3 .RO, fd .ADC_REF_STAT_REC_VALID 4 4 .RO, fd .ADC_REF_STAT_HOLDOVER 5 5 .RO, fd .ADC_REF_STAT_LOST 6 6 .RO, fd .ADC_REF_STAT_SWITCHED 7 7 .W1C]⟩,
  ⟨.ADC_REF_SW_CNT, .ADC, .die0, 0x210, [], false,
    [fd .ADC_REF_SW_CNT 31 0 .RO]⟩,
  ⟨.ADC_BOOT_STAT, .ADC, .die0, 0x300, [], false,
    [fd .ADC_BOOT_STAT_PHASE 2 0 .RO, fd .ADC_BOOT_STAT_FAIL 6 3 .RO, fd .ADC_BOOT_STAT_COPY 7 7 .RO, fd .ADC_BOOT_STAT_DIE_FAIL 15 8 .RO]⟩,
  ⟨.ADC_BOOT_MS, .ADC, .die0, 0x304, [], false,
    [fd .ADC_BOOT_MS 31 0 .RO]⟩,
  ⟨.ADC_FW_VER, .ADC, .die0, 0x308, [], false,
    [fd .ADC_FW_VER 31 0 .RO]⟩]

/-- Registers of the DBG block: Tables 207, 208, 209, 210 (R430). -/
def regsDBG : List RegSpec := [
  ⟨.DBG_PORT_CTL, .DBG, .die, 0x0, [], false,
    [fd .DBG_PORT_CTL 0 0 .RW]⟩,
  ⟨.DBG_PORT_STAT, .DBG, .die, 0x4, [], false,
    [fd .DBG_PORT_STAT_OVERRUN 0 0 .W1C, fd .DBG_PORT_STAT_BUSY 1 1 .RO]⟩,
  ⟨.DBG_PORT_CNT, .DBG, .die, 0x8, [], false,
    [fd .DBG_PORT_CNT 31 0 .RO]⟩,
  ⟨.DBG_PORT_REFUSED, .DBG, .die, 0xc, [], false,
    [fd .DBG_PORT_REFUSED 31 0 .RO]⟩,
  ⟨.DBG_XT_SRC, .DBG, .die, 0x40, [(0x4, 4)], false,
    [fd .DBG_XT_SRC_WP 7 0 .RO, fd .DBG_XT_SRC_MP_HALT 8 8 .RW, fd .DBG_XT_SRC_RENNET 9 9 .RW, fd .DBG_XT_SRC_XTRIG_IN 10 10 .RW]⟩,
  ⟨.DBG_XT_SINK, .DBG, .die, 0x50, [(0x4, 4)], false,
    [fd .DBG_XT_SINK_HALT_MP 0 0 .RW, fd .DBG_XT_SINK_XTRIG_OUT 1 1 .RW, fd .DBG_XT_SINK_INST 31 16 .RW]⟩,
  ⟨.DBG_XT_PULSE, .DBG, .die, 0x60, [], false,
    [fw 3 0]⟩,
  ⟨.DBG_XT_STAT, .DBG, .die, 0x64, [], false,
    [fd .DBG_XT_STAT 3 0 .W1C]⟩,
  ⟨.DBG_MP_CTL, .DBG, .die, 0x100, [], false,
    [fw 0 0, fw 1 1, fw 2 2, fd .DBG_MP_CTL_RST_HALT 3 3 .RW, fd .DBG_MP_CTL_WDOG_RUN 4 4 .RW]⟩,
  ⟨.DBG_MP_STAT, .DBG, .die, 0x104, [], false,
    [fd .DBG_MP_STAT_HALTED 0 0 .RO, fd .DBG_MP_STAT_HALT_CAUSE 3 1 .RO, fd .DBG_MP_STAT_FEED_BUSY 4 4 .RO, fd .DBG_MP_STAT_FEED_ERR 5 5 .W1C]⟩,
  ⟨.DBG_MP_REG_SEL, .DBG, .die, 0x110, [], false,
    [fd .DBG_MP_REG_SEL 5 0 .RW]⟩,
  ⟨.DBG_MP_REG, .DBG, .die, 0x114, [], true,
    [fd .DBG_MP_REG 63 0 .RW]⟩,
  ⟨.DBG_MP_FEED, .DBG, .die, 0x11c, [], false,
    [fw 31 0]⟩,
  ⟨.DBG_MP_CTX, .DBG, .die, 0x120, [], false,
    [fd .DBG_MP_CTX_INST 3 0 .RO, fd .DBG_MP_CTX_VALID 4 4 .RO]⟩,
  ⟨.DBG_MP_HALT_CNT, .DBG, .die, 0x124, [], false,
    [fd .DBG_MP_HALT_CNT 31 0 .RO]⟩,
  ⟨.DBG_WP_LO, .DBG, .die, 0x200, [(0x20, 8)], true,
    [fd .DBG_WP_LO 39 0 .RW]⟩,
  ⟨.DBG_WP_HI, .DBG, .die, 0x208, [(0x20, 8)], true,
    [fd .DBG_WP_HI 39 0 .RW]⟩,
  ⟨.DBG_WP_CTL, .DBG, .die, 0x210, [(0x20, 8)], false,
    [fd .DBG_WP_CTL_EN 0 0 .RW, fd .DBG_WP_CTL_SRC 2 1 .RW, fd .DBG_WP_CTL_RD 3 3 .RW, fd .DBG_WP_CTL_WR 4 4 .RW, fd .DBG_WP_CTL_IMODE 6 5 .RW, fd .DBG_WP_CTL_INST 10 7 .RW, fd .DBG_WP_CTL_INIT_EN 11 11 .RW, fd .DBG_WP_CTL_INITIATOR 19 12 .RW, fd .DBG_WP_CTL_LINK 20 20 .RW, fd .DBG_WP_CTL_DATA_EN 21 21 .RW, fd .DBG_WP_CTL_HALT_MP 22 22 .RW, fd .DBG_WP_CTL_XT 27 24 .RW]⟩,
  ⟨.DBG_WP_DATA, .DBG, .die, 0x214, [(0x20, 8)], false,
    [fd .DBG_WP_DATA 31 0 .RW]⟩,
  ⟨.DBG_WP_MASK, .DBG, .die, 0x218, [(0x20, 8)], false,
    [fd .DBG_WP_MASK 31 0 .RW]⟩,
  ⟨.DBG_WP_CNT, .DBG, .die, 0x21c, [(0x20, 8)], false,
    [fd .DBG_WP_CNT 31 0 .RO]⟩,
  ⟨.DBG_WP_STAT, .DBG, .die, 0x300, [], false,
    [fd .DBG_WP_STAT_HIT 7 0 .W1C, fd .DBG_WP_STAT_FIRST 10 8 .RO, fd .DBG_WP_STAT_FIRST_VALID 11 11 .W1C]⟩,
  ⟨.DBG_PATCH_CTL, .DBG, .die, 0x400, [(0x80, 16)], false,
    [fd .DBG_PATCH_CTL_BLOCK 11 0 .RW, fd .DBG_PATCH_CTL_EN 31 31 .RW]⟩,
  ⟨.DBG_PATCH_DATA, .DBG, .die, 0x440, [(0x80, 16), (0x4, 16)], false,
    [fd .DBG_PATCH_DATA 31 0 .RW]⟩,
  ⟨.DBG_PATCH_LOCK, .DBG, .die, 0xc00, [], false,
    [fd .DBG_PATCH_LOCK 0 0 .RW]⟩,
  ⟨.DBG_INST_CTL, .DBG, .die0, 0x1000, [(0x10, 16)], false,
    [fw 0 0, fw 1 1, fw 2 2]⟩,
  ⟨.DBG_INST_STEPN, .DBG, .die0, 0x1004, [(0x10, 16)], false,
    [fd .DBG_INST_STEPN 15 0 .RW]⟩,
  ⟨.DBG_INST_STAT, .DBG, .die0, 0x1008, [(0x10, 16)], false,
    [fd .DBG_INST_STAT_HOLD 0 0 .RO, fd .DBG_INST_STAT_FRZ_PEND 1 1 .RO, fd .DBG_INST_STAT_STEPPING 2 2 .RO, fd .DBG_INST_STAT_STEP_REFUSED 3 3 .W1C]⟩,
  ⟨.DBG_INST_LEFT, .DBG, .die0, 0x100c, [(0x10, 16)], false,
    [fd .DBG_INST_LEFT 16 0 .RO]⟩]

/-- Registers common to all blocks, Table 160 (R325); the block entry is a placeholder. -/
def regsCommon : List RegSpec := [
  ⟨.BLK_ID, .ARY, .prim, 0xfff00, [], false,
    [fd .BLK_ID_CODE 7 0 .RO, fd .BLK_ID_REV 11 8 .RO]⟩,
  ⟨.BLK_ERR, .ARY, .prim, 0xfff04, [], false,
    [fd .BLK_ERR_CAUSE 3 0 .RO, fd .BLK_ERR_WRITE 4 4 .RO, fd .BLK_ERR_ALIAS 5 5 .RO, fd .BLK_ERR_INITIATOR 15 8 .RO, fd .BLK_ERR_INST 19 16 .RO, fd .BLK_ERR_VALID 31 31 .W1C]⟩,
  ⟨.BLK_ERR_ADDR, .ARY, .prim, 0xfff08, [], false,
    [fd .BLK_ERR_ADDR 31 0 .RO]⟩,
  ⟨.BLK_ERR_CNT, .ARY, .prim, 0xfff0c, [], false,
    [fd .BLK_ERR_CNT 31 0 .RO]⟩]

/-- Registers of one block. -/
def Blk.regs : Blk → List RegSpec
  | .ARY => regsARY
  | .XBR => regsXBR
  | .WU => regsWU
  | .CAV => regsCAV
  | .QUE => regsQUE
  | .IOC => regsIOC
  | .LNK => regsLNK
  | .CFG => regsCFG
  | .TRN => regsTRN
  | .WHY => regsWHY
  | .RNT => regsRNT
  | .MBX => regsMBX
  | .SCH => regsSCH
  | .SVC => regsSVC
  | .TIM => regsTIM
  | .ADC => regsADC
  | .DBG => regsDBG

/-- Offset ranges that the tables list as reserved registers (KEEP throughout: they read 0 and refuse writes, R317):
block, slot, first offset, length, repeats. -/
def reservedRegs : List (Blk × Slot × Nat × Nat × List (Nat × Nat)) := [
  (.ARY, .inst, 0x100024, 0x1C, [(0x8000, 16), (0x40, 512)]),
  (.WU, .die, 0x1001C, 4, [(0x20, 2048)]),
  (.QUE, .die, 0x64, 0x1C, [(0x80, 512)]),
  (.IOC, .die, 0x40C, 4, [(0x10, 4)]),
  (.LNK, .die, 0x48, 0x38, [(0x100, 4)]),
  (.SCH, .pkg, 0x118, 8, [(0x20, 4)]),
  (.SVC, .die, 0x118, 8, [(0x20, 10)]),
  (.SVC, .die, 0x240, 0xC0, []),
  (.RNT, .pkg, 0x00C, 4, [(0x10, 64)])]

end Sys2Proof.Machine
end

