-- ==== Sys2Proof/Machine/Types.lean ====
section
/-!
DEFINITION. The data types the package's state is made of, beside its register fields: one structure per unit, in the
manual's own shape.
-/
namespace Sys2Proof.Machine

/-- Run states of Table 14 (R34). -/
inductive RunState where
  | unloaded | loading | loaded | running | paused | frozen | faulted
deriving DecidableEq, Repr

/-- STATE code of Table 14. -/
def RunState.code : RunState → Nat
  | .unloaded => 0 | .loading => 1 | .loaded => 2 | .running => 3 | .paused => 4 | .frozen => 5 | .faulted => 6

/-- Run state of a STATE code; code 7 is not used. -/
def RunState.ofCode : Nat → RunState
  | 0 => .unloaded | 1 => .loading | 2 => .loaded | 3 => .running | 4 => .paused | 5 => .frozen | _ => .faulted

/-- Parts of the family, Table 3 (R4). -/
inductive Model where
  | gl2 | gl4 | gl8
deriving DecidableEq, Repr

/-- What a shipped and mounted part fixes: its size, grade, fuse map, fused identity and the straps sampled at the release
of power-on reset (R4, R5, R7, R14, R199, R318, R433, Table 213). -/
structure Part where
  model     : Model := .gl8
  slow      : Bool := false            -- -16 grade (Table 4)
  bad       : List Nat := []           -- defective clusters of the fuse map, as package cluster numbers (R7)
  edf       : Bool := false            -- SCH_STAT.EDF fuse (R367)
  uid       : Nat := 0                 -- CFG_UID fuses
  stepping  : Nat := 0                 -- 0 A0, 1 B0 (R325)
  pkgId     : Nat := 0                 -- PKG_ID straps (R14)
  masterSel : Bool := true             -- MASTER_SEL strap
  compat    : Nat := 0                 -- LINK_COMPAT straps, bit = package port (R251)
  bscanCe   : Bool := false            -- BSCAN_CE ball at the release of reset (R232)
  bootHalt  : Bool := false            -- DBG_BOOT_HALT ball (R419)
deriving DecidableEq, Repr

/-- A buffered (RWB) write that waits for its boundary (R25, R319): field, index, value, and how many more boundaries
must pass before the one at which it applies (1 for a late write, 0 for an early one). -/
structure PendW where
  fld  : Fld
  idx  : Nat
  val  : Nat
  wait : Nat
  mask : Nat := 2 ^ 64 - 1             -- bits of the field that it writes, where the field is a pair written by halves
deriving DecidableEq, Repr

/-- One event of the event ring (R349, Table 171); `num` is its place among the events formed. -/
structure Evt where
  num  : Nat := 0
  typ  : Nat
  inst : Option Nat
  data : List Nat
deriving DecidableEq, Repr

/-- The instance descriptor of a section, Table 100 (R186), as far as it governs the placed instance. -/
structure Desc where
  vrows   : Nat := 0
  dies    : List Nat := []             -- physical die of each virtual die (R168)
  vcols   : Nat := 0
  portable : Bool := false
  cascade : Bool := false
  slow    : Bool := false              -- image compiled for the -16 grade
  flowBase : Nat := 0
  flowCount : Nat := 0
  traced  : Bool := false              -- its section carried TRACECFG records (R286)
  stream  : Nat := 0                   -- STREAM_ID it came from
deriving DecidableEq, Repr

/-- What an instance holds beside its registers: where its step clock stands (R18, R22), which stop conditions wait (R38),
and what its load fixed (R186). `row` is 0 in mid-cycle and before step 0; otherwise the Table 10 row the instance waits at. -/
structure Inst where
  step     : Nat := 0
  row      : Nat := 0
  begun    : Bool := false             -- cycle 0's rows 6 and 7 have been performed since load or reset
  launched : Bool := false             -- outputs have launched since load or reset (R36)
  issued   : Bool := false             -- the held step's QISSUEs have been taken (R149, R164)
  stalled  : Bool := false             -- this major cycle already counts in ARY_STALLED_MC
  pend     : List Nat := []            -- causes (Table 16) that wait for a boundary
  latePorts : List (Nat × Nat) := []   -- queue ports late in the present stall, with release periods left to count (R152)
  lateLinks : List (Nat × Nat) := []   -- link ports late on receive, same (R268)
  lateTx   : List (Nat × Nat) := []    -- link ports late for credit, same (R269)
  freezeNext : Bool := false           -- FREEZE_ON_WU_EXC as applied for the running cycle (Table 20)
  desc     : Desc := {}
  startAt  : Option Nat := none        -- cascade start count awaited (R279)
  cascCause : Option Nat := none       -- cause the master gave with a common stop cycle (R280)
  stopNow  : Bool := false             -- a stop-at write applied with its cycle already reached (R37)
  stepLeft : Nat := 0                  -- cycles left in a debug step (R427)
  tick     : Nat := 0                  -- LNK_STEP_CNT at the end of its last step-clock period (R274)
  owed     : List Nat := []            -- banks that an overrun reset has not handed back; the next reset does (R135, R372)
deriving DecidableEq, Repr

/-- A word unit's state, Table 48 (R91); WMEM and W0-W15 are sparse, the loop stack holds (start, END, LC), innermost first. -/
structure WordUnit where
  w     : NStore := []
  mem   : NStore := []
  acc0  : Nat := 0
  acc1  : Nat := 0
  base  : List Nat := [0, 0, 0, 0]
  len   : List Nat := [1024, 1024, 1024, 1024]
  idx   : List Nat := [0, 0, 0, 0]
  mode  : Nat := 0
  c     : Bool := false
  dh0   : Bool := false
  dh1   : Bool := false
  out   : Nat := 0
  wpc   : Nat := 0
  stack : List (Nat × Nat × Nat) := []
deriving DecidableEq, Repr

/-- The array: data stores, instruction tier and the stage registers of the scheduled interconnect (R44, R57, R58, R64-R69,
R73). A line value is 0 when its valid flag is clear, otherwise 2 plus its bit (R65). -/
structure Fabric where
  data    : NStore := []     -- data-store bits, key BP*2048+address (R44)
  dataInit : NStore := []    -- initial-value copy (R57)
  instr   : NStore := []     -- instruction words, key (region*1024+slot)*2048+cluster*64+BP (R58)
  route   : NStore := []     -- route fields, same key (R68)
  regRec  : NStore := []     -- region record fields, key (region*1024+slot)*4096+position (R69)
  dieRec  : NStore := []     -- die record fields, key (die*1024+slot)*4096+position (R73)
  exp     : NStore := []     -- cluster export lines, key region*512+c*16+e
  egr     : NStore := []     -- region egress lines, key region*32+e
  ing     : NStore := []     -- die ingress lines, key region*32+n
  bln     : NStore := []     -- bridge launch registers, key (die*4+side)*256+n
  arr     : NStore := []     -- bridge lines one step on (arriving), same key of the launching side
  thr     : NStore := []     -- through lines, key (die*256+n)*4+stage
  ptx     : NStore := []     -- port transmit lines, key (die*4+port)*64+n
  prx     : NStore := []     -- port receive lines of the present step, same key
  ocv     : NStore := []     -- last valid value delivered to each output cell, key cell (R76)
  oce     : NStore := []     -- last valid enable delivered, key cell
  ibNow   : NStore := []     -- input broadcast, sample of the present cycle, key cell (R75)
  ibPrev  : NStore := []     -- input broadcast, sample of the previous cycle
  regOwn  : NStore := []     -- owner of each region, instance + 1 (R83)
  junk    : NStore := []     -- regions whose contents are undefined since a switch-on (R389)
  edge    : NStore := []     -- edge patterns, key instance*4096+entry (R27)
  wstore  : NStore := []     -- word stores, key unit*1024+address (R93)
  wu      : Store WordUnit := []
  wuInit  : Store WordUnit := []   -- initial-value copy (R92)
deriving DecidableEq, Repr

/-- One access taken by a cave port, performed one executed step later (R125). -/
structure CaveAcc where
  port : Nat                 -- bank*2+p
  inst : Nat
  addr : Nat
  op   : Nat                 -- 0 READ, 1 WRITE, 2 ADD, 3 SWAP
  data : Nat
  lane : Nat
  perf : Bool                -- the access is performed (R124); otherwise it only updates a busy line
deriving DecidableEq, Repr

/-- Cave memory (R122): words by key bank*16384+address, the accesses in flight, and each port's read lines
(value plus 65536 when valid). -/
structure Caves where
  mem   : NStore := []
  init  : NStore := []       -- initial-content copy in the reserved area (R135)
  pipe  : List CaveAcc := []
  lines : NStore := []       -- key bank*2+p
  march : NStore := []       -- running march: region to 2^17 + 65536*mode + bank set (R141)
  oldOwn : NStore := []      -- bank: previous owner while PEND, encoded inst + 16*KIND + 64, plus 128 once its ring accesses are done, plus 256 if the new owner was RUNNING (R133)
deriving DecidableEq, Repr

/-- A request of a queue port (R148, R150). -/
structure QReq where
  entry : Nat
  kind  : Nat                -- 0 READ, 1 WRITE, 2 ADD
  addr  : Nat                -- slice byte address
  data  : Nat
  orphan : Bool := false     -- superseded while in flight
  sink  : Bool := false      -- drained by a reset or unload (R157)
  inst  : Nat := 0
  num   : Nat := 0           -- place among the port's issues (R151)
deriving DecidableEq, Repr

/-- A decoupling queue port (R146): entry states (Table 75) and words, requests held (oldest first) and in flight. -/
structure QPort where
  st    : NStore := []
  word  : NStore := []
  held  : List QReq := []
  fly   : List QReq := []
deriving DecidableEq, Repr

/-- The queues and HBM (R143-R150). -/
structure Queues where
  port  : Store QPort := []  -- key region*8+q
  desc  : NStore := []       -- descriptors, key ((region*8+q)*64+n)*2+word
  init  : NStore := []       -- image result words, key (region*8+q)*64+e, word + 2^64 (R146)
  hbm   : List Host.Cell := []      -- key stack*36*2^30+byte; unlisted bytes read 0
  shares : NStore := []      -- accesses of the present window, key (stack*32+pc)*3+class
  grant  : NStore := []      -- grants in force on a pseudo-channel, TRC_MIN + 64*SVC_MIN + 4096, key stack*32+pc (R154)
deriving DecidableEq, Repr

/-- The environment as the package sees it on its pins: the level driven outside each I/O cell (0 none, 1 low, 2 high), the level
each pad last carried while driven (same code, for the keeper), and which banks' supplies have been in range for 1 ms
(R220, R222, R225). -/
structure Pins where
  pad    : NStore := []      -- key cell
  kept   : NStore := []      -- key cell
  mute   : NStore := []      -- banks whose outputs wait for the next launch, key die*4+bank (R222)
  old    : NStore := []      -- level a cell drove before its last launch, same code (R225)
  supply : NStore := []      -- key die*4+bank: 1 in range
  bsr    : NStore := []      -- boundary-scan register, output value and enable, key 3*cell+1 and 3*cell+2 (R234)
  cap    : NStore := []      -- pads as SAMPLE/PRELOAD or EXTEST captured them, key cell
  irOut  : Nat := 0          -- what the TAP's instruction register captured at its last scan (R233)
  dr     : Nat := 0          -- what its IDCODE or bypass register captured then
  errN   : Bool := true      -- CFG_ERR_N released (R196)
  thermN : Bool := true      -- THERMTRIP_N high (R448)
deriving DecidableEq, Repr

/-- The Whey engine of a die (R290-R298): staged bytes, the reference vector, the open RUN or SKIP, and where SYNCs lie. -/
structure Whey where
  fifo    : List Byte := []
  unack   : Nat := 0                   -- bytes at the front already sent on a link, not yet acknowledged (R297)
  ref     : Option NStore := none      -- reference vector (R291); none: the next recorded cycle is a SYNC
  skip    : Bool := false              -- the open count is of skipped cycles
  count   : Nat := 0                   -- open RUN or SKIP count, 0 when none is open
  runAt   : Nat := 0                   -- first cycle of the open count
  since   : Nat := 0                   -- cycles since the last SYNC (R292)
  losing  : Bool := false              -- packets are being lost (R296)
  lostPk  : Nat := 0                   -- packets in the pending OVERFLOW
  lostAt  : Nat := 0                   -- ARY_MCC of the first cycle whose packet was lost
  put     : Nat := 0                   -- stream bytes enqueued since ARM
  syncs   : List Nat := []             -- stream positions of recent SYNCs, newest first, at most 4,096
  rxHead  : List Byte := []            -- RECEIVE: bytes so far of the next packet's header
  rxLeft  : Nat := 0                   -- RECEIVE: bytes left of the packet under way
deriving DecidableEq, Repr

/-- The capture and Rennet beside their registers (R300-R308). -/
structure Trace where
  eng     : Store Whey := []           -- key die
  probe   : NStore := []               -- cluster probe slots, key cluster*32+j (R287)
  pin     : NStore := []               -- pin slots, key cell*2+s (R288)
  prev    : Option NStore := none      -- previous sample's words, key die*1028+word (R300)
  halves  : NStore := []               -- timers in half nanoseconds (R303)
  running : List Nat := []             -- timers that run
  phase   : Nat := 0                   -- step periods into the present Whey clock period (Table 4: 4 a period)
  post    : Nat := 0                   -- samples taken after the trigger sample
  last    : Option Nat := none         -- last cycle sampled since ARM
  pendArm : Bool := false              -- ARM waits for a boundary
  deferArm : Bool := false             -- ARM in DONE waits for the FIFOs to drain (R308)
  pendStop : Bool := false             -- STOP waits for a boundary
  frzReq  : Bool := false              -- a freeze is requested for the boundary that ends the next cycle (R306, R308)
  autoDue : Bool := false              -- the AUTO timeout has passed (R307)
deriving DecidableEq, Repr

end Sys2Proof.Machine
end

