-- ==== Sys2Proof/Machine/Pkg.lean ====
section
/-!
DEFINITION. The package state without its command queue and its one-time fuses: register fields, their last snapshots,
buffered writes, and every unit's own state.
-/
namespace Sys2Proof.Machine

/-- Everything a command can change but the queue and the one-time fuses. `fresh` is the model's own field: the number of
free values drawn so far. -/
structure Pkg where
  part  : Part := {}
  fresh : Nat := 0
  flds  : NStore := []                 -- register fields, as differences from their reset values (`Pkg.g`)
  snaps : NStore := []                 -- register fields as last captured (R41, R156, R285, R298, R374)
  pendw : List PendW := []             -- buffered writes, oldest first (R25)
  evts  : List Evt := []               -- event FIFO, oldest first (R349)
  evtLost : Nat := 0                   -- events lost since the last LOST entry was formed (R349)
  insts : Store Inst := []             -- key instance
  fab   : Fabric := {}
  cav   : Caves := {}
  que   : Queues := {}
  pins  : Pins := {}
  trc   : Trace := {}
  lanes : Store Lane := []             -- key die*16+l
  ports : Store LPort := []            -- key die*4+p
  cas   : Cascade := {}
  mbx   : Store Mailbox := []          -- key mailbox
  jobs  : Nat := 0                     -- commands accepted so far, over all mailboxes (R344)
  sends : List SendJob := []           -- oldest first
  recvs : List RecvJob := []           -- oldest first
  sram  : List Host.Cell := []         -- MP local SRAM, key die*2^20+offset; unlisted bytes read 0 (R333)
  irq   : NStore := []                 -- MSI-X vectors raised, count by vector (R330)
  sch   : Sched := {}
  load  : LoadEng := {}
  reloc : Store (Option Reloc) := []   -- key instance
  trn   : Turner := {}
  slotA : KeySlot := {}                -- battery-backed key memory (R201)
  slotB : KeySlot := {}
  notes : List (Nat × Nat) := []       -- notifications on their way to a management processor: die and kind (R378)
  svc   : Rings := {}
  tim   : TimeUnit := {}
  dbg   : Debug := {}
  boot  : Boot := {}
  host  : List Host.Cell := []         -- host memory as DMA reaches it; unlisted bytes read 0
deriving DecidableEq, Repr

end Sys2Proof.Machine
end

