-- ==== Sys2Proof/Machine/Ops.lean ====
section
/-!
DEFINITION. The named operations every family uses: register fields and their snapshots, buffered writes, sparse memory,
events, free values, and the indices by which the spec numbers its units.
-/
namespace Sys2Proof.Machine

/-! ## Units -/

/-- Dies of the part, Table 3 (R4). -/
def Model.dies : Model → Nat
  | .gl2 => 2 | .gl4 => 4 | .gl8 => 8
/-- Columns of the die grid, Table 3. -/
def Model.cols : Model → Nat
  | .gl2 => 2 | .gl4 => 2 | .gl8 => 4
/-- HBM stacks, Table 74 (R143). -/
def Model.stacks : Model → Nat
  | .gl2 => 1 | .gl4 => 2 | .gl8 => 4
/-- DMA engines, Table 183 (R366). -/
def Model.dmas : Model → Nat
  | .gl2 => 8 | .gl4 => 16 | .gl8 => 32

/-- The die on side `k` (N 0, E 1, S 2, W 3) of die `d`, if the grid has one (R4, R78). -/
def Model.neighbour (m : Model) (d k : Nat) : Option Nat :=
  let c := m.cols
  match k with
  | 0 => if c ≤ d then some (d - c) else none
  | 1 => if d % c + 1 < c ∧ d < m.dies then some (d + 1) else none
  | 2 => if d + c < m.dies then some (d + c) else none
  | 3 => if d % c = 0 ∨ m.dies ≤ d then none else some (d - 1)
  | _ => none

/-- The side of the neighbour that faces side `k` (R78). -/
def oppSide (k : Nat) : Nat := (k + 2) % 4

/-- Stack attached to a die, Table 74. -/
def Model.stackOf : Model → Nat → Nat
  | .gl2, _ => 0
  | .gl4, d => d % 2
  | .gl8, d => d % 4

/-- Highest 32-bit count of a saturating counter. -/
def sat32 : Nat := 0xFFFFFFFF
/-- Bytes of a segment, 256 MiB (R144). -/
def segBytes : Nat := 2 ^ 28
/-- Bytes of a stack, 36 GB (R143). -/
def stackBytes : Nat := 36 * 2 ^ 30

/-! ## Register fields -/

/-- Key of a field in the register store. -/
def fkey (f : Fld) (i : Nat) : Nat := i * 1024 + f.ctorIdx

/-- Value of a register field; it holds its reset value until first changed (R318). -/
def Pkg.g (s : Pkg) (f : Fld) (i : Nat) : Nat := (s.flds.at (fkey f i) + f.reset i) % 2 ^ f.width

/-- A one-bit field as a Boolean. -/
def Pkg.b (s : Pkg) (f : Fld) (i : Nat) : Bool := s.g f i != 0

/-- Set a register field, held to its width. -/
def Pkg.p (s : Pkg) (f : Fld) (i : Nat) (v : Nat) : Pkg :=
  { s with flds := s.flds.put (fkey f i) ((v % 2 ^ f.width + 2 ^ f.width - f.reset i % 2 ^ f.width) % 2 ^ f.width) }

/-- Set a one-bit field. -/
def Pkg.pb (s : Pkg) (f : Fld) (i : Nat) (v : Bool) : Pkg := s.p f i (b2n v)

/-- Set several fields. -/
def Pkg.ps (s : Pkg) (l : List (Fld × Nat × Nat)) : Pkg := l.foldl (fun s e => s.p e.1 e.2.1 e.2.2) s

/-- Return fields to their reset values. -/
def Pkg.toReset (s : Pkg) (l : List Fld) (i : Nat) : Pkg := l.foldl (fun s f => s.p f i (f.reset i)) s

/-- Add to a counter that wraps at its width. -/
def Pkg.inc (s : Pkg) (f : Fld) (i : Nat) (n : Nat := 1) : Pkg := s.p f i (s.g f i + n)

/-- Add to a counter that saturates at the top of its width. -/
def Pkg.incSat (s : Pkg) (f : Fld) (i : Nat) (n : Nat := 1) : Pkg :=
  s.p f i (min (s.g f i + n) (2 ^ f.width - 1))

/-- Set or clear bit `b` of a field that is a set of flags. -/
def Pkg.pbit (s : Pkg) (f : Fld) (i b : Nat) (v : Bool) : Pkg :=
  let x := s.g f i
  s.p f i (if bit x b = v then x else if v then x + 2 ^ b else x - 2 ^ b)

/-- Last captured value of a field; 0 or its reset value before the first capture. -/
def Pkg.gs (s : Pkg) (f : Fld) (i : Nat) : Nat := (s.snaps.at (fkey f i) + f.reset i) % 2 ^ f.width

/-- Capture fields as they stand (R41). -/
def Pkg.snapFields (s : Pkg) (l : List Fld) (i : Nat) : Pkg :=
  { s with snaps := l.foldl (fun m f => m.put (fkey f i) (s.flds.at (fkey f i))) s.snaps }

/-- Set a captured value directly. -/
def Pkg.psnap (s : Pkg) (f : Fld) (i v : Nat) : Pkg :=
  { s with snaps := s.snaps.put (fkey f i) ((v % 2 ^ f.width + 2 ^ f.width - f.reset i % 2 ^ f.width) % 2 ^ f.width) }

/-! ## Instances -/

/-- What instance `i` holds beside its registers. -/
def Pkg.inst (s : Pkg) (i : Nat) : Inst := Store.get {} s.insts i
/-- Replace it. -/
def Pkg.setInst (s : Pkg) (i : Nat) (x : Inst) : Pkg := { s with insts := Store.set {} s.insts i x }
/-- Change it. -/
def Pkg.updInst (s : Pkg) (i : Nat) (f : Inst → Inst) : Pkg := s.setInst i (f (s.inst i))

/-- Run state of an instance (R34). -/
def Pkg.runState (s : Pkg) (i : Nat) : RunState := RunState.ofCode (s.g .ARY_RUN_STAT_STATE i)
/-- Depth D of an instance (R19). -/
def Pkg.depth (s : Pkg) (i : Nat) : Nat := s.g .ARY_CFG_INFO_DEPTH i

/-- The instance is stopped at a boundary in the sense of R25: LOADED, PAUSED, or FROZEN or FAULTED with MID_CYCLE = 0. -/
def Pkg.atBoundary (s : Pkg) (i : Nat) : Bool :=
  match s.runState i with
  | .loaded | .paused => true
  | .frozen | .faulted => !s.b .ARY_RUN_STAT_MID_CYCLE i
  | _ => false

/-- Regions an instance owns, as package region numbers die*64+g (R83). -/
def Pkg.regionsOf (s : Pkg) (i : Nat) : List Nat := (s.fab.regOwn.filter fun e => e.2 == i + 1).map (·.1)

/-- Owner of a region, if any. -/
def Pkg.regionOwner (s : Pkg) (r : Nat) : Option Nat :=
  match s.fab.regOwn.at r with
  | 0 => none
  | n + 1 => some n

/-- Owner of an I/O bank die*4+k, if any (R218). -/
def Pkg.bankOwner (s : Pkg) (b : Nat) : Option Nat :=
  if s.b .IOC_BANK_CFG_OWNED b then some (s.g .IOC_BANK_CFG_OWNER b) else none

/-- Owner of a link port die*4+p, if any (R253). -/
def Pkg.portOwner (s : Pkg) (q : Nat) : Option Nat :=
  if s.b .LNK_PORT_STAT_OWNED q then some (s.g .LNK_PORT_STAT_OWNER q) else none

/-- Owner of bridge launch block j of side k of die d, if any (R78, R83). -/
def Pkg.brgOwner (s : Pkg) (d k j : Nat) : Option Nat :=
  if bit (s.g .XBR_OWN_VALID (d * 4 + k)) j then some (s.g .XBR_OWN_BRG ((d * 4 + k) * 8 + j)) else none

/-- Owner of through-line block j of die d, if any. -/
def Pkg.thrOwner (s : Pkg) (d j : Nat) : Option Nat :=
  if bit (s.g .XBR_OWN_VALID_THR d) j then some (s.g .XBR_OWN_THR (d * 8 + j)) else none

/-- The traced instance, if the package has one (R286). -/
def Pkg.traced (s : Pkg) : Option Nat :=
  if s.b .WHY_CAP_STAT_OWNED 0 then some (s.g .WHY_CAP_STAT_OWNER 0) else none

/-- An I/O bank has an owner for the register rules of R231. -/
def Pkg.cellOwner (s : Pkg) (cell : Nat) : Option Nat := s.bankOwner (cell / 32)

/-- The root PLL runs at 4.8 GHz (R5, R439): a -16 part, or a -20 part with ROOT = 1. -/
def Pkg.rootSlow (s : Pkg) : Bool := s.part.slow || s.b .ADC_CLK_CFG_ROOT 0

/-- Hardware has stopped every step clock for a thermal trip (R448). -/
def Pkg.tripped (s : Pkg) : Bool := !s.pins.thermN

/-- Dies of the package. -/
def Pkg.dies (s : Pkg) : List Nat := List.range s.part.model.dies

/-- Every rail of every die is in its window, as its comparators report (R202). -/
def Pkg.railsIn (s : Pkg) : Bool := s.dies.all fun d => s.g .ADC_MON_RAIL_IN d == 31

/-- The die has not failed to boot, and no fatal boot fault has ended the boot (R443, Table 215). -/
def Pkg.dieOk (s : Pkg) (d : Nat) : Bool :=
  !bit (s.g .ADC_BOOT_STAT_DIE_FAIL 0) d && !(s.g .ADC_BOOT_STAT_FAIL 0 == 1 || s.g .ADC_BOOT_STAT_FAIL 0 == 2 || s.g .ADC_BOOT_STAT_FAIL 0 == 3)

/-- The management processor of a die executes its firmware: READY, and not halted by debug (R417, R421). -/
def Pkg.mpActs (s : Pkg) (d : Nat) : Bool := s.g .MBX_MP_STAT_STATE d == 2 && !s.b .DBG_MP_STAT_HALTED d

/-! ## Buffered writes (R25, R319) -/

/-- The instance whose major-cycle boundary applies an RWB field, by rows 1 to 4 of Table 158; none for the link, HBM, ADC and
time-unit rows. -/
def Pkg.rwbInst (s : Pkg) (f : Fld) (idx : Nat) : Option Nat :=
  match f with
  | .ARY_CTRL_STOP_AT_EN | .ARY_CTRL_FREEZE_ON_WU_EXC | .ARY_CTRL_FAULT_IO_OFF | .ARY_STOP_AT_LO | .ARY_STOP_AT_HI
  | .ARY_CALL_TMO | .XBR_GDL_HOST => some idx
  | .IOC_CELL_CFG_SLEW | .IOC_CELL_CFG_DRIVE | .IOC_CELL_CFG_KEEPER | .IOC_CELL_CFG_PULL => s.cellOwner idx
  | .WHY_CAP_CFG_SYNC_PERIOD | .WHY_CAP_CFG_DONE_FRZ | .WHY_CAP_CFG_ARM_ON_START | .WHY_POST | .RNT_CMP_SRC_BITPOS
  | .RNT_CMP_SRC_DIE | .RNT_CMP_SRC_WORD | .RNT_CMP_SRC_SIGNED | .RNT_CMP_SRC_OP | .RNT_CMP_SRC_EN | .RNT_CMP_VAL_VALUE
  | .RNT_CMP_VAL_MASK | .RNT_ST_CFG | .RNT_BR_MASK_LO | .RNT_BR_MASK_HI | .RNT_BR_CTL_EN | .RNT_BR_CTL_ALL
  | .RNT_BR_CTL_CNT_DONE | .RNT_BR_CTL_TMR_DONE | .RNT_BR_CTL_NEXT | .RNT_BR_ACT_CNT_CLR | .RNT_BR_ACT_TMR_START
  | .RNT_BR_ACT_TMR_STOP | .RNT_BR_ACT_TRIGGER | .RNT_BR_ACT_FREEZE | .RNT_CNT_CFG_SRC | .RNT_CNT_CFG_ALWAYS
  | .RNT_CNT_CFG_STATES | .RNT_CNT_LIM | .RNT_TMR_LIM | .RNT_CTL | .RNT_AUTO_TMO => s.traced
  | _ => none

/-- Bits `m` of `v` in place of those of `old`. -/
def under (old v m : Nat) : Nat := old - (old &&& m) + (v &&& m)

/-- A pending write's value in place of `old`. The halves of the two RWB pairs of 48 bits are written each for itself (R321). -/
def PendW.into (w : PendW) (old : Nat) : Nat :=
  match w.fld with
  | .RNT_CNT_LIM | .RNT_TMR_LIM => under old w.val w.mask
  | _ => w.val

/-- A later write of the same field takes the place of this one: it writes the same bits, or has no halves. -/
def PendW.gone (x w : PendW) : Bool :=
  x.fld == w.fld && x.idx == w.idx && match w.fld with
    | .RNT_CNT_LIM | .RNT_TMR_LIM => (x.mask &&& w.mask) == x.mask
    | _ => true

/-- The other half of the ARY_STOP_AT pair. -/
def stopAtHalf : Fld → Option Fld
  | .ARY_STOP_AT_LO => some .ARY_STOP_AT_HI
  | .ARY_STOP_AT_HI => some .ARY_STOP_AT_LO
  | _ => none

/-- Add a pending write. It replaces an earlier pending write of the same field, and the two halves of ARY_STOP_AT wait for
the later-due of them (R25, Table 21). -/
def Pkg.addPend (s : Pkg) (w : PendW) : Pkg :=
  let l := s.pendw.filter fun x => !x.gone w
  match stopAtHalf w.fld with
  | some h =>
    let other := (l.filter fun x => x.fld == h && x.idx == w.idx).foldl (fun n x => max n x.wait) 0
    let n := max other w.wait
    { s with pendw := (l.map fun x => if x.fld == h && x.idx == w.idx then { x with wait := n } else x) ++ [{ w with wait := n }] }
  | none => { s with pendw := l ++ [w] }

/-- The value last written to an RWB field, applied or not (R25). -/
def Pkg.lastWritten (s : Pkg) (f : Fld) (idx : Nat) : Nat :=
  (s.pendw.filter fun x => x.fld == f && x.idx == idx).foldl (fun v x => x.into v) (s.g f idx)

/-- ARY_STOP_AT as applied. -/
def Pkg.stopAt (s : Pkg) (i : Nat) : Nat := s.g .ARY_STOP_AT_LO i + 2 ^ 32 * s.g .ARY_STOP_AT_HI i

/-- A write takes effect on its field. A stop-at write, or one that turns STOP_AT_EN on, that finds its cycle already reached makes
the instance pause at the next boundary (R37). -/
def Pkg.applyOne (s : Pkg) (f : Fld) (idx v : Nat) : Pkg :=
  let s' := s.p f idx v
  let reached := s'.b .ARY_CTRL_STOP_AT_EN idx && decide (s'.stopAt idx ≤ s'.g .ARY_MCC idx)
  match f with
  | .ARY_STOP_AT_LO | .ARY_STOP_AT_HI => s'.updInst idx fun x => { x with stopNow := reached }
  | .ARY_CTRL_STOP_AT_EN => if s.b .ARY_CTRL_STOP_AT_EN idx then s' else s'.updInst idx fun x => { x with stopNow := reached }
  | _ => s'

/-- Apply the pending writes `q` selects whose boundary has come, in order, and bring the later ones one boundary nearer. -/
def Pkg.applyPend (s : Pkg) (q : PendW → Bool) : Pkg :=
  let due := s.pendw.filter fun x => q x && x.wait == 0
  let rest := (s.pendw.filter fun x => !(q x && x.wait == 0)).map fun x => if q x then { x with wait := x.wait - 1 } else x
  due.foldl (fun s x => s.applyOne x.fld x.idx (x.into (s.g x.fld x.idx))) { s with pendw := rest }

/-- The pending writes that belong to instance `i`. -/
def Pkg.pendOf (s : Pkg) (i : Nat) (x : PendW) : Bool := s.rwbInst x.fld x.idx == some i

/-- BUF_PEND of an instance (R25). -/
def Pkg.bufPend (s : Pkg) (i : Nat) : Bool := s.pendw.any (s.pendOf i)

/-- Apply every pending write of an instance that reaches LOADED or stops at a boundary (R319, R25). -/
def Pkg.applyAllPend (s : Pkg) (i : Nat) : Pkg :=
  let due := s.pendw.filter (s.pendOf i)
  due.foldl (fun s x => s.applyOne x.fld x.idx (x.into (s.g x.fld x.idx))) { s with pendw := s.pendw.filter fun x => !s.pendOf i x }

/-- Apply the pending writes of row 5 of Table 10. -/
def Pkg.applyBoundary (s : Pkg) (i : Nat) : Pkg := s.applyPend (s.pendOf i)

/-- Discard an instance's pending writes (R319, unload). -/
def Pkg.dropPend (s : Pkg) (i : Nat) : Pkg := { s with pendw := s.pendw.filter fun x => !s.pendOf i x }

/-- Apply a write at once: earlier pending writes of the field never take effect (R25). -/
def Pkg.writeNow (s : Pkg) (f : Fld) (idx v : Nat) : Pkg :=
  { s with pendw := s.pendw.filter fun x => !(x.fld == f && x.idx == idx) }.applyOne f idx v

/-- A write of `v`, of whose bits it writes `m`, to an RWB field of rows 1 to 4 of Table 158, by R25: on completion while the instance is UNLOADED, LOADED or
stopped at a boundary; before step D - 8 at the boundary that ends the cycle; later at the following one; mid-cycle in FROZEN
or FAULTED at the next boundary reached. Between two steps the later one counts as reached. DEDUCED. -/
def Pkg.bufWrite (s : Pkg) (f : Fld) (idx v : Nat) (m : Nat := 2 ^ 64 - 1) : Pkg :=
  match s.rwbInst f idx with
  | none => s.writeNow f idx v
  | some i =>
    match s.runState i with
    | .running =>
      s.addPend { fld := f, idx := idx, val := v % 2 ^ f.width, mask := m
                  wait := if (s.inst i).row = 0 ∧ (s.inst i).step + 8 < s.depth i then 0 else 1 }
    | .unloaded => s.writeNow f idx v
    | _ => if s.atBoundary i then s.writeNow f idx v
           else s.addPend { fld := f, idx := idx, val := v % 2 ^ f.width, wait := 0, mask := m }

/-! ## Free values -/

/-- Draw a free value of `w` bits: nothing constrains it. -/
def Pkg.draw (s : Pkg) (w : Nat) : Nat × Pkg :=
  (Config.freeValue s.fresh % 2 ^ w, { s with fresh := s.fresh + 1 })

/-- Draw `n` free values of `w` bits. -/
def Pkg.draws (s : Pkg) (w : Nat) : Nat → List Nat × Pkg
  | 0 => ([], s)
  | n + 1 =>
    let (v, s) := s.draw w
    let (l, s) := s.draws w n
    (v :: l, s)

/-! ## Byte memory: HBM and host memory -/

/-- One byte of a sparse byte memory; an unlisted byte reads 0. -/
def readByte (m : List Host.Cell) (a : Nat) : Byte := Store.get 0 m a
/-- Write one byte. -/
def writeByte (m : List Host.Cell) (a : Nat) (v : Byte) : List Host.Cell := Store.set 0 m a v
/-- Canonical form of a byte memory. -/
def Memory.wf (m : List Host.Cell) : Bool := Store.wf (0 : Byte) m
/-- `n` bytes from `a` up. -/
def readBytes (m : List Host.Cell) (a : Nat) : Nat → List Byte
  | 0 => []
  | n + 1 => readByte m a :: readBytes m (a + 1) n
/-- Write bytes from `a` up. -/
def writeBytes (m : List Host.Cell) (a : Nat) : List Byte → List Host.Cell
  | [] => m
  | v :: l => writeBytes (writeByte m a v) (a + 1) l
/-- Little-endian number of a byte list. -/
def leNat : List Byte → Nat
  | [] => 0
  | v :: l => v.toNat + 256 * leNat l
/-- The `n` low bytes of a number, little-endian. -/
def leBytes (v : Nat) : Nat → List Byte
  | 0 => []
  | n + 1 => BitVec.ofNat 8 v :: leBytes (v / 256) n
/-- Bytes written under byte enables: an absent byte keeps what stands. -/
def writeSome (m : List Host.Cell) (a : Nat) : List (Option Byte) → List Host.Cell
  | [] => m
  | some v :: l => writeSome (writeByte m a v) (a + 1) l
  | none :: l => writeSome m (a + 1) l

/-- Physical HBM key of slice byte address `a` of instance `i`, if its segment is mapped (R145). -/
def Pkg.sliceAddr (s : Pkg) (i a : Nat) : Option Nat :=
  let n := a / segBytes
  let k := i * 568 + n
  if n < 568 ∧ s.g .QUE_SEG_MAP_VALID k = 1 then
    some (s.g .QUE_SEG_MAP_STACK k * stackBytes + s.g .QUE_SEG_MAP_SEGMENT k * segBytes + a % segBytes)
  else none

/-- Write slice bytes; bytes beyond the slice are not written. -/
def Pkg.sliceWrite (s : Pkg) (i a : Nat) : List Byte → Pkg
  | [] => s
  | v :: l =>
    let s := match s.sliceAddr i a with
      | some k => { s with que.hbm := writeByte s.que.hbm k v }
      | none => s
    s.sliceWrite i (a + 1) l

/-- Read `n` slice bytes. -/
def Pkg.sliceRead (s : Pkg) (i a : Nat) : Nat → List Byte
  | 0 => []
  | n + 1 => (match s.sliceAddr i a with | some k => readByte s.que.hbm k | none => 0) :: s.sliceRead i (a + 1) n

/-! ## Events (R349) -/

/-- The event FIFO holds 256 entries beside the ring (R349). -/
def evtFifo : Nat := 256

/-- Form an event: it waits for the ring in the FIFO, or is lost and counted while the FIFO is full (R349, R353). -/
def Pkg.event (s : Pkg) (typ : Nat) (inst : Option Nat) (data : List Nat) : Pkg :=
  let n := s.g .MBX_EVT_PROD 0
  let s := s.inc .MBX_EVT_PROD 0
  if s.evts.length < evtFifo then { s with evts := s.evts ++ [{ num := n, typ := typ, inst := inst, data := data }] }
  else { s.inc .MBX_EVT_LOST 0 with evtLost := s.evtLost + 1 }

/-- Kinds of notification to a management processor (R79, R212, R222, R250, R350, R378). -/
inductive Note where
  | bridge | turner | supply | laneFault | wordUnit | watchdog
deriving DecidableEq, Repr

/-- A notification as a message carries it, with what it names: a frame, a bank, a die. -/
def Note.code (n : Note) (arg : Nat) : Nat := n.ctorIdx + 16 * arg

/-- Send a notification to the management processor of a die. -/
def Pkg.notify (s : Pkg) (die : Nat) (n : Note) (arg : Nat := 0) : Pkg := { s with notes := s.notes ++ [(die, n.code arg)] }

/-- `n` little-endian byte values of a number, for event and block layouts. -/
def leVals (v : Nat) : Nat → List Nat
  | 0 => []
  | n + 1 => v % 256 :: leVals (v / 256) n

/-- Clamp a programmed value to the range its register gives. -/
def clampTo (lo hi v : Nat) : Nat := max lo (min hi v)

/-- Run a state change over a list. -/
def Pkg.each {α : Type} (s : Pkg) (l : List α) (f : Pkg → α → Pkg) : Pkg := l.foldl f s

/-- Give fields free values of their widths. -/
def Pkg.drawFields (s : Pkg) (l : List (Fld × Nat)) (idx : Nat) : Pkg :=
  s.each l fun s e =>
    let (v, s) := s.draw e.2
    s.p e.1 idx v

/-! ## Link ports and control messages (R276, R277) -/

/-- A port beside its registers. -/
def Pkg.port (s : Pkg) (q : Nat) : LPort := Store.get {} s.ports q
/-- Replace it. -/
def Pkg.setPort (s : Pkg) (q : Nat) (x : LPort) : Pkg := { s with ports := Store.set {} s.ports q x }
/-- Change it. -/
def Pkg.updPort (s : Pkg) (q : Nat) (f : LPort → LPort) : Pkg := s.setPort q (f (s.port q))

/-- Package ports that instance `i` owns. -/
def Pkg.portsOf (s : Pkg) (i : Nat) : List Nat := (List.range (s.part.model.dies * 4)).filter fun q => s.portOwner q == some i

/-- Queue a control message that this package originates on a port (LNK_CAS_MSG_TX counts it). -/
def Pkg.sendCtl (s : Pkg) (q : Nat) (m : CtlMsg) : Pkg :=
  (s.updPort q fun x => { x with txCtl := x.txCtl ++ [.ctl m] }).inc .LNK_CAS_MSG_TX 0

/-- Forward a message unchanged (R276). -/
def Pkg.forwardCtl (s : Pkg) (q : Nat) (m : CtlMsg) : Pkg := s.updPort q fun x => { x with txCtl := x.txCtl ++ [.ctl m] }

/-- The package is the cascade master (R14). -/
def Pkg.isMaster (s : Pkg) : Bool := s.part.masterSel

/-- The CTL_UP port, if one is marked. -/
def Pkg.upPort (s : Pkg) : Option Nat := if s.b .LNK_CAS_STAT_UP_VALID 0 then some (s.g .LNK_CAS_STAT_UP_PORT 0) else none

/-- The CTL_DOWN ports. -/
def Pkg.downPorts (s : Pkg) : List Nat := (s.ports.filter fun e => e.2.ctlDown).map (·.1)

/-- Send a message up to the master; the master itself sends none. -/
def Pkg.sendUp (s : Pkg) (inst : Nat) (body : Ctl) : Pkg :=
  match s.upPort with
  | some q => if s.isMaster then s else s.sendCtl q { src := s.part.pkgId, inst := inst, body := body }
  | none => s

/-- Send a broadcast down every CTL_DOWN port. -/
def Pkg.sendDown (s : Pkg) (inst : Nat) (body : Ctl) : Pkg :=
  s.each s.downPorts fun s q => s.sendCtl q { src := s.part.pkgId, bcast := true, inst := inst, body := body }

/-- A cascade instance that becomes FAULTED tells the far end of each of its ports and the master (R278). -/
def Pkg.flood (s : Pkg) (i cause : Nat) : Pkg :=
  if (s.inst i).desc.cascade then
    (s.each (s.portsOf i) fun s q => s.sendCtl q { src := s.part.pkgId, inst := i, body := .faultNote }).sendUp i
      (.event cause (s.g .ARY_MCC i))
  else s

end Sys2Proof.Machine
end

