-- ==== Sys2Proof/Machine/ItemOps.lean ====
section
/-!
DEFINITION. Work items of the scheduler (R365, R374): how they begin and end.
-/
namespace Sys2Proof.Machine

/-- Create an item: ready, and in the pool unless it is an XACT item. -/
def Pkg.newItem (s : Pkg) (ref : ItemRef) (prio : Nat) (inst : Option Nat) : Pkg :=
  let s := s.inc .SCH_CREATED ref.code
  let s := if ref.code = 3 then s else s.p .SCH_POOL 0 (s.g .SCH_POOL 0 - 1)
  { s with sch.items := s.sch.items ++ [{ num := s.sch.num, prio := prio, inst := inst, arr := s.sch.now, ref := ref }]
           sch.num := s.sch.num + 1 }

/-- Items that run on engine `e`. -/
def Pkg.onEngine (s : Pkg) (e : Nat) : List Item := s.sch.items.filter fun x => x.engine == some e

/-- Busy time of an engine counts from its first item to the end of its last (SCH_ENG_BUSY_US). -/
def Pkg.engIdle (s : Pkg) (e : Nat) : Pkg :=
  if (s.onEngine e).isEmpty ∧ s.sch.since.at e ≠ 0 then
    { s with sch.busy := s.sch.busy.put e (s.sch.busy.at e + (s.sch.now + 1 - s.sch.since.at e)), sch.since := s.sch.since.put e 0
             sch.spans := (s.sch.spans ++ [(e, s.sch.since.at e - 1, s.sch.now)]).filter fun x => decide (s.sch.now < x.2.2 + 1024000) }
  else s

/-- Take an item away: its pool place returns and its engine is free. -/
def Pkg.dropItem (s : Pkg) (x : Item) : Pkg :=
  let s := if x.ref.code = 3 then s else s.p .SCH_POOL 0 (s.g .SCH_POOL 0 + 1)
  let s := { s with sch.items := s.sch.items.filter fun y => y.num != x.num }
  match x.engine with
  | some e => s.engIdle e
  | none => s

/-- An item completes. -/
def Pkg.itemDone (s : Pkg) (x : Item) : Pkg :=
  let s := (s.dropItem x).inc .SCH_DONE x.ref.code
  match x.engine with
  | some e => s.inc .SCH_ENG_DONE e
  | none => s

/-- An item is purged (R371, R375). -/
def Pkg.itemPurge (s : Pkg) (x : Item) : Pkg :=
  let s := (s.dropItem x).inc .SCH_PURGED x.ref.code
  match x.inst with
  | some i => s.inc .SCH_INST_PURGED i
  | none => s

/-- Busy share of engine `e` in the last 1,024 us, in thousandths rounded down (SCH_ENG_LOAD). -/
def Pkg.engLoad (s : Pkg) (e : Nat) : Nat :=
  let now := s.sch.now
  let l := s.sch.spans.filter fun x => x.1 == e
  let l := if s.sch.since.at e = 0 then l else l ++ [(e, s.sch.since.at e - 1, now)]
  (l.foldl (fun n x => n + (x.2.2 - max x.2.1 (now - 1024000))) 0) / 1024

/-- What is left of a command's transfer is purged (Table 186a). -/
def Pkg.movesPurge (s : Pkg) (m seq : Nat) : Pkg :=
  s.each (s.sch.items.filter fun x => x.ref.moves m seq) fun s x => (if x.engine.isSome then s.inc .SCH_DMA_DISCARD 0 else s).itemPurge x

/-- The item of a mailbox command ends with the command. -/
def Pkg.cmdItemDone (s : Pkg) (m seq : Nat) : Pkg :=
  let s := s.movesPurge m seq
  match s.sch.items.find? fun x => x.ref == .cmd m seq with
  | some x => s.itemDone x
  | none => s

/-- The item of a command that an instance reset turns away is purged (R375, Table 168). -/
def Pkg.cmdItemPurge (s : Pkg) (m seq : Nat) : Pkg :=
  match s.sch.items.find? fun x => x.ref == .cmd m seq with
  | some x => s.itemPurge x
  | none => s

/-- Items between packages on port `q` that are out: the oldest, or all, complete (R264, R369). -/
def Pkg.pkgItemsDone (s : Pkg) (q : Nat) (all : Bool) : Pkg :=
  let l := s.sch.items.filter fun x => x.ref == .pkg q && x.engine.isSome
  s.each (if all then l else l.take 1) fun s x => (s.inc .SCH_DMA_DONE 0).itemDone x

end Sys2Proof.Machine
end

