-- ==== Sys2Proof/Machine/MailOps.lean ====
section
/-!
DEFINITION. Mailbox bookkeeping (R331-R354): completions, the result cache, ring positions, and the arguments of a command.
-/
namespace Sys2Proof.Machine

/-- A mailbox beside its registers. -/
def Pkg.mail (s : Pkg) (m : Nat) : Mailbox := Store.get {} s.mbx m
/-- Replace it. -/
def Pkg.setMail (s : Pkg) (m : Nat) (x : Mailbox) : Pkg := { s with mbx := Store.set {} s.mbx m x }
/-- Change it. -/
def Pkg.updMail (s : Pkg) (m : Nat) (f : Mailbox → Mailbox) : Pkg := s.setMail m (f (s.mail m))

/-- Ring size N of a mailbox (R331). -/
def Pkg.ringN (s : Pkg) (m : Nat) : Nat := if s.b .MBX_CTRL_ONCHIP m then 128 else 2 ^ s.g .MBX_RING_CFG m

/-- MAXQ as it acts (Table 175). -/
def Pkg.maxq (s : Pkg) (m : Nat) : Nat := clampTo 1 64 (s.g .MBX_CTRL_MAXQ m)

/-- INFLIGHT of a mailbox: accepted, not completed. -/
def Pkg.inflight (s : Pkg) (m : Nat) : Nat := (s.mail m).run.length
/-- CPL_PEND of a mailbox. -/
def Pkg.cplPend (s : Pkg) (m : Nat) : Nat := (s.mail m).cplq.length

/-- Free-running 16-bit distance. -/
def dist16 (a b : Nat) : Nat := (a % 2 ^ 16 + 2 ^ 16 - b % 2 ^ 16) % 2 ^ 16

/-- The package master's MP is in a state that takes commands in. -/
def Pkg.masterFailed (s : Pkg) : Bool := s.b .MBX_PKG_STAT_MASTER_FAILED 0

/-- Write bytes of an on-chip ring or a host-memory ring. -/
def Pkg.ringWrite (s : Pkg) (m base off : Nat) (l : List Byte) : Pkg :=
  if s.b .MBX_CTRL_ONCHIP m then { s with sram := writeBytes s.sram (0xD0000 + m * 0x3000 + base + off) l }
  else { s with host := writeBytes s.host ((if base = 0 then s.g .MBX_CMD_BASE m else s.g .MBX_CPL_BASE m) + off) l }

/-- Form a completion (R337): it waits for ring space. -/
def Pkg.form (s : Pkg) (m : Nat) (c : Cpl) : Pkg := s.updMail m fun x => { x with cplq := x.cplq ++ [c] }

/-- Put a finished command in the result cache (R339). -/
def cachePut (l : List CacheEnt) (e : CacheEnt) : List CacheEnt :=
  if l.any fun x => x.seq == e.seq then l.map fun x => if x.seq = e.seq then e else x else (e :: l).take 256

/-- Find a command in progress. -/
def Pkg.job (s : Pkg) (m seq : Nat) : Option Msg := (s.mail m).run.find? fun x => x.seq == seq

/-- Complete a command in progress with a status, reason and RESULT (R341); its work item ends with it. -/
def Pkg.complete (s : Pkg) (m seq : Nat) (st : Status) (rs : Reason) (result : List Nat) : Pkg :=
  match s.job m seq with
  | none => s
  | some j =>
    let s := s.cmdItemDone m seq
    let s := s.updMail m fun x => { x with run := x.run.filter fun y => y.seq != seq
                                           cache := cachePut x.cache { seq := seq, op := j.op, status := some st, reason := rs, result := result } }
    let s := if st = .busy then s.inc .MBX_MSG_BUSY m else s
    s.form m { seq := seq, op := j.op, status := st.ctorIdx, orig := 0, reason := rs.ctorIdx, qdepth := s.inflight m, tag := j.tag,
               result := result }

/-- Complete OK. -/
def Pkg.done (s : Pkg) (m seq : Nat) (result : List Nat := []) : Pkg := s.complete m seq .ok .none result
/-- Complete REJECTED. -/
def Pkg.reject (s : Pkg) (m seq : Nat) (r : Reason) : Pkg := s.complete m seq .rejected r []
/-- Complete FAULT. -/
def Pkg.failCmd (s : Pkg) (m seq : Nat) (r : Reason) (result : List Nat := []) : Pkg := s.complete m seq .fault r result

/-- Complete BUSY with the number of items ahead (R342). -/
def Pkg.busyCmd (s : Pkg) (m seq : Nat) (r : Reason) (ahead : Nat) : Pkg := s.complete m seq .busy r (leVals ahead 2 ++ List.replicate 6 0)

/-- Little-endian argument of `n` bytes at offset `o`. -/
def Msg.arg (j : Msg) (o n : Nat) : Nat := ((j.args.drop o).take n).foldr (fun b v => b % 256 + 256 * v) 0

/-- The die whose management processor carries a command out (Table 163): that of the banks for CAVE_OWN and MARCH, else the package
master's. -/
def Msg.die (j : Msg) : Nat := if j.op = 0x30 ∨ j.op = 0x31 then j.arg 0 1 else 0

/-- A DEFERRED_DONE event (R343, Table 171). -/
def Pkg.deferredDone (s : Pkg) (m seq : Nat) (st : Status) (r : Reason) : Pkg :=
  s.event 2 none ([m, 0] ++ leVals seq 2 ++ [st.ctorIdx, r.ctorIdx])

/-- Raise an MSI-X vector (R330): it is sent, or pends while its table entry is masked (PRESUMED: the layout and the meaning of table and pending-bit
array are PCI Express's). -/
def Pkg.raiseVec (s : Pkg) (v : Nat) : Pkg :=
  if s.b .MSIX_MASK v then s.pbit .MSIX_PBA 0 v true else { s with irq := s.irq.put v (s.irq.at v + 1) }

/-- A table entry's mask as a write leaves it: a vector that pends is sent when it is unmasked. -/
def Pkg.vecMask (s : Pkg) (v : Nat) (on : Bool) : Pkg :=
  let s := s.pb .MSIX_MASK v on
  if !on && bit (s.g .MSIX_PBA 0) v then (s.pbit .MSIX_PBA 0 v false).raiseVec v else s

/-- Banks of a 16-bit set in region `r`. -/
def banksIn (r set : Nat) : List Nat := ((List.range 16).filter (bit set)).map fun b => r * 16 + b

/-- The opcode names an instance in byte 2 of the header. -/
def namesInst (op : Nat) : Bool := [0x12, 0x13, 0x20, 0x21, 0x22, 0x32, 0x33].contains op

/-- What a command names for the order of R344: an instance, a link port (100 on), the MP of a die (200 on), or cave banks (1000 on). -/
def Msg.names (j : Msg) : List Nat :=
  if namesInst j.op then [j.inst]
  else match j.op with
    | 0x50 | 0x51 => [100 + j.arg 0 1]
    | 0x70 => [200 + j.arg 0 1]
    | 0x30 => (if bits (j.arg 4 1) 0 2 = 0 then [bits (j.arg 4 1) 4 4] else []) ++ (banksIn (j.arg 0 1 * 64 + j.arg 1 1) (j.arg 2 2)).map (1000 + ·)
    | 0x31 => (((List.range 64).filter (bit (j.arg 8 8))).flatMap fun g => banksIn (j.arg 0 1 * 64 + g) (j.arg 2 2)).map (1000 + ·)
    | _ => []

/-- Commands in progress over all mailboxes. -/
def Pkg.allJobs (s : Pkg) : List (Nat × Msg) := s.mbx.flatMap fun e => e.2.run.map fun j => (e.1, j)

/-- No command accepted earlier that names the same thing has still to be performed (R344). -/
def Pkg.turn (s : Pkg) (j : Msg) : Bool :=
  !(s.allJobs.any fun e => decide (e.2.order < j.order) && !e.2.started && j.names.any fun n => e.2.names.contains n)

/-- The command of mailbox `m` with sequence number `seq` and opcode `op` is to be performed now: it is in progress and its turn has come, or it
has begun and its transfer goes on. -/
def Pkg.take (s : Pkg) (m seq op : Nat) : Option Msg :=
  match s.job m seq with
  | some j => if j.op = op ∧ (if j.started then j.xfer.isSome else s.turn j) then some j else none
  | none => none

/-- Mark a command as begun: it stays in progress until an engine ends it. -/
def Pkg.started (s : Pkg) (m seq : Nat) : Pkg :=
  s.updMail m fun x => { x with run := x.run.map fun y => if y.seq = seq then { y with started := true, xfer := none } else y }

/-- A command has begun, and `n` items of its transfer have still to be served (R368). -/
def Pkg.waitsXfer (s : Pkg) (m seq n : Nat) : Pkg :=
  s.updMail m fun x => { x with run := x.run.map fun y => if y.seq = seq then { y with started := true, xfer := some n } else y }

end Sys2Proof.Machine
end

