-- ==== Sys2Proof/Machine/TraceOps.lean ====
section
/-!
DEFINITION. The Whey stream of a die (R289-R298) and the end of a capture (R308, R309): packets, staging and loss.
-/
namespace Sys2Proof.Machine

/-- Bytes of a list of 64-bit words, little-endian. -/
def wordBytes (l : List Nat) : List Byte := l.flatMap fun w => leBytes w 8

/-- Packet header word (R290): TYPE, die, LEN in words, and the type's own field. -/
def pktHead (typ die len field : Nat) : Nat := typ + die * 16 + len * 256 + field % 2 ^ 32 * 2 ^ 32

/-- The Whey engine of a die. -/
def Pkg.whey (s : Pkg) (d : Nat) : Whey := Store.get {} s.trc.eng d
/-- Replace it. -/
def Pkg.setWhey (s : Pkg) (d : Nat) (w : Whey) : Pkg := { s with trc.eng := Store.set {} s.trc.eng d w }

/-- Staging FIFO capacity: 256 KiB plus 32 KiB for each cave bank given to Whey (R294). -/
def Pkg.fifoCap (s : Pkg) (d : Nat) : Nat := 262144 + 32768 * s.g .WHY_SINK_CFG_STAGE_BANKS d

/-- Bytes of a die's ring (R294). -/
def Pkg.ringLen (s : Pkg) (d : Nat) : Nat := s.g .WHY_SINK_CFG_RING_SEGS d * segBytes

/-- The die's engine belongs to the traced instance. -/
def Pkg.engOwned (s : Pkg) (d : Nat) : Bool := s.b .WHY_SINK_CFG_OWNED d

/-- The engine writes a stream: a ring with segments, or a link (R294, R310). -/
def Pkg.hasStream (s : Pkg) (d : Nat) : Bool :=
  s.engOwned d && ((s.g .WHY_SINK_CFG_SINK d == 0 && s.g .WHY_SINK_CFG_RING_SEGS d != 0) || s.g .WHY_SINK_CFG_SINK d == 1)

/-- Dies whose engine the traced instance owns. -/
def Pkg.wheyDies (s : Pkg) : List Nat := (List.range s.part.model.dies).filter s.engOwned

/-- Place a packet in the FIFO. -/
def Pkg.enqueue (s : Pkg) (d : Nat) (words : List Nat) (sync : Bool) : Pkg :=
  let w := s.whey d
  let n := 8 * words.length
  let s := s.setWhey d { w with fifo := w.fifo ++ wordBytes words, put := w.put + n,
                                syncs := if sync then (w.put :: w.syncs).take 4096 else w.syncs }
  (s.inc .WHY_BYTES_PROD d n).inc .WHY_FIFO_LEVEL d n

/-- Lose a packet whole (R296). -/
def Pkg.losePkt (s : Pkg) (d : Nat) (words : List Nat) (mcc : Nat) : Pkg :=
  let n := 8 * words.length
  let w := s.whey d
  let s := s.setWhey d { w with losing := true, lostPk := w.lostPk + 1, lostAt := if w.losing then w.lostAt else mcc }
  ((((s.inc .WHY_BYTES_PROD d n).inc .WHY_BYTES_LOST d n).inc .WHY_LOST_PEND d n).incSat .WHY_PKT_LOST d).pb .WHY_STAT d true

/-- Form a packet: into the FIFO if it has room beside the 64 reserved bytes (or within them, for a protected packet), else
lost; while packets are being lost only protected ones pass (R296). A count that closes for a packet of `more` bytes is lost where that packet
begins the loss. -/
def Pkg.emit (s : Pkg) (d : Nat) (words : List Nat) (mcc : Nat) (prot sync : Bool) (more : Nat := 0) : Pkg :=
  let room := s.fifoCap d - s.g .WHY_FIFO_LEVEL d
  let n := 8 * words.length
  if prot then (if n ≤ room then s.enqueue d words sync else s.losePkt d words mcc)
  else if (s.whey d).losing ∨ room < n + more + 64 then s.losePkt d words mcc
  else s.enqueue d words sync

/-- The OVERFLOW packet for everything in WHY_LOST_PEND (R290, R296). -/
def Pkg.overflow (s : Pkg) (d : Nat) : Pkg :=
  let w := s.whey d
  let bytes := s.g .WHY_LOST_PEND d
  let s := s.setWhey d { w with losing := false, lostPk := 0, ref := none }
  (s.p .WHY_LOST_PEND d 0).enqueue d [pktHead 6 d 3 w.lostPk, bytes % 2 ^ 48, w.lostAt % 2 ^ 32] false

/-- Close the RUN or SKIP being counted (R291), ahead of a packet of `more` bytes; one that is open when a loss begins is lost with it. -/
def Pkg.closeRun (s : Pkg) (d : Nat) (more : Nat := 0) : Pkg :=
  let w := s.whey d
  if w.count = 0 then s
  else (s.setWhey d { w with count := 0 }).emit d [pktHead (if w.skip then 4 else 3) d 1 w.count] w.runAt false false more

/-- A loss can end: the FIFO has room for an OVERFLOW and the largest DELTA (R296). -/
def Pkg.lossEnds (s : Pkg) (d : Nat) : Bool := (s.whey d).losing && decide (s.g .WHY_FIFO_LEVEL d + 8392 + 64 ≤ s.fifoCap d)

/-- Resume after a loss once it can end (R296). -/
def Pkg.resumeLoss (s : Pkg) (d : Nat) : Pkg := if s.lossEnds d then (s.closeRun d).overflow d else s

/-- The 1,028 words of a vector (R289). -/
def vecWords (v : NStore) : List Nat := (List.range 1028).map v.at

/-- Body of a DELTA: the L1 mask, then L2 masks and differing words (R291). -/
def deltaWords (d : Nat) (v r : NStore) : List Nat :=
  let keys : NStore := r.foldl (fun m e => m.put e.1 1) (v.map fun e => (e.1, 1))
  let diff := (keys.map fun e => (e.1, v.at e.1 ^^^ r.at e.1)).filter fun e => e.2 != 0
  let blocks := (List.range 17).filter fun i => diff.any fun e => e.1 / 64 == i
  let l1 := blocks.foldl (fun n i => n + 2 ^ i) 0
  let l2 := blocks.map fun i => (diff.filter fun e => e.1 / 64 == i).foldl (fun n e => n + 2 ^ (e.1 % 64)) 0
  pktHead 2 d (1 + l2.length + diff.length) l1 :: l2 ++ diff.map (·.2)

/-- A FILL ring would not keep 48 bytes free after `n` more (R295). -/
def Pkg.fillFull (s : Pkg) (d n : Nat) : Bool :=
  s.g .WHY_SINK_CFG_SINK d == 0 && s.g .WHY_SINK_CFG_RING_MODE d == 1 && decide (s.ringLen d < (s.whey d).put + n + 48)

/-- The words that recording cycle `mcc` with vector `v` would write, and whether they are a SYNC; none for a cycle equal to
the reference (R291, R292). -/
def Pkg.cyclePkt (s : Pkg) (d mcc : Nat) (v : NStore) : Option (List Nat × Bool) :=
  let w := s.whey d
  let period := clampTo 16 65536 (s.g .WHY_CAP_CFG_SYNC_PERIOD 0)
  match w.ref with
  | none => some (pktHead 1 d 1029 mcc :: vecWords v, true)
  | some r =>
    if period ≤ w.since then some (pktHead 1 d 1029 mcc :: vecWords v, true)
    else if v = r then none
    else some (deltaWords d v r, false)

/-- The highest count of a RUN or SKIP (R290). -/
def runMax : Nat := 2 ^ 32 - 1

/-- The open count closes where a cycle goes on counting: it is of the other kind, or at its highest. -/
def Pkg.countFull (s : Pkg) (d : Nat) (skip : Bool) : Bool :=
  let w := s.whey d
  w.count != 0 && (w.skip != skip || w.count == runMax)

/-- Bytes that taking cycle `mcc` into the stream of die `d` puts there. -/
def Pkg.cycleNeeds (s : Pkg) (d mcc : Nat) (v : NStore) (record : Bool) : Nat :=
  match record, s.cyclePkt d mcc v with
  | true, some (words, _) => 8 * words.length + (if (s.whey d).count = 0 then 0 else 8)
  | _, _ => if s.countFull d (!record) then 8 else 0

/-- Take cycle `mcc` into the stream of die `d`, recorded or counted in a SKIP (R291-R293, R296). -/
def Pkg.wheyCycle (s : Pkg) (d mcc : Nat) (v : NStore) (record : Bool) : Pkg :=
  match record, s.cyclePkt d mcc v with
  | true, some (words, sync) =>
    let s := (s.closeRun d (8 * words.length)).emit d words mcc false sync
    let w := s.whey d
    s.setWhey d { w with ref := some v, since := if sync then 1 else w.since + 1 }
  | _, _ =>
    let s := if s.countFull d (!record) then s.closeRun d else s
    let w := s.whey d
    s.setWhey d { w with skip := !record, count := w.count + 1, runAt := if w.count = 0 then mcc else w.runAt, since := w.since + 1 }

/-- End the capture with a REASON of Table 150: every stream gets its closing packets (R296, R308), Rennet is disarmed. The last
cycle recorded of a capture that sampled none is a free value. -/
def Pkg.captureDone (s : Pkg) (reason : Nat) : Pkg :=
  let (mcc, s) := match s.trc.last with
    | some k => (k, s)
    | none => s.draw 64
  let s := s.each (s.wheyDies.filter s.hasStream) fun s d =>
    let s := s.closeRun d
    let s := if s.g .WHY_LOST_PEND d ≠ 0 then s.overflow d else s
    s.enqueue d [pktHead 7 d 2 mcc, reason] false
  let s := { s with trc.pendStop := false, trc.pendArm := false, trc.autoDue := false }
  s.ps [(.WHY_CAP_STAT_STATE, 0, 3), (.WHY_CAP_STAT_REASON, 0, reason), (.WHY_END_MCC, 0, mcc), (.RNT_STAT_ARMED, 0, 0)]

/-- The capture is ARMED or TRIGGERED. -/
def Pkg.capturing (s : Pkg) : Bool := s.g .WHY_CAP_STAT_STATE 0 == 1 || s.g .WHY_CAP_STAT_STATE 0 == 2

/-- End a running capture of instance `i` (Table 149). -/
def Pkg.traceEnd (s : Pkg) (i reason : Nat) : Pkg :=
  if s.traced = some i ∧ s.capturing then s.captureDone reason else s

end Sys2Proof.Machine
end

