-- ==== Sys2Proof/Machine/RunBase.lean ====
section
/-!
DEFINITION. What run control rests on: stop causes (Table 16), snapshots (R41, R156), and the requests that wait for a boundary (R35, R38).
-/
namespace Sys2Proof.Machine

/-- Stop causes of Table 16. -/
inductive Cause where
  | none | hostPause | stopAt | rennet | wuException | debug | turnerUncorr | linkDown | peerLost | callTimeout | hbmUncorr
  | engineFault | refLost | loadFail | hostFreeze
deriving DecidableEq, Repr

/-- STOP_CAUSE code of Table 16. -/
def Cause.code (c : Cause) : Nat := c.ctorIdx

/-- An instance reset or unload of `i` is in phases 1 to 3 (R371): it executes nothing. -/
def Pkg.resetting (s : Pkg) (i : Nat) : Bool := decide (1 ≤ s.g .SCH_INST_RST_PHASE i) && decide (s.g .SCH_INST_RST_PHASE i ≤ 3)

/-- A patch of instance `i` is being taken in (R205). -/
def Pkg.patching (s : Pkg) (i : Nat) : Bool := s.load.active && s.load.secs.any fun x => x.inst == i && x.patch
/-- A relocation of instance `i` is in progress (R171). -/
def Pkg.relocating (s : Pkg) (i : Nat) : Bool := (Store.get none s.reloc i).isSome

/-- The instance is RUNNING and executes: no reset of it is under way and no thermal trip has stopped the step clocks (R448). -/
def Pkg.runs (s : Pkg) (i : Nat) : Bool := s.runState i == .running && !s.resetting i && !s.tripped

/-- ARY_MCC and STEP_IDX as a snapshot reports them (R33): after step D - 1 the cycle counts as completed. -/
def Pkg.position (s : Pkg) (i : Nat) : Nat × Nat :=
  let x := s.inst i
  if x.row = 1 then (s.g .ARY_MCC i + 1, 0)
  else if x.row ≠ 0 then (s.g .ARY_MCC i, 0)
  else (s.g .ARY_MCC i, x.step)

/-- Queue ports of an instance (R146): eight for each region it owns. -/
def Pkg.queuesOf (s : Pkg) (i : Nat) : List Nat :=
  (s.regionsOf i).flatMap fun r => (List.range 8).map fun q => r * 8 + q

/-- A queue port. -/
def Pkg.qport (s : Pkg) (k : Nat) : QPort := Store.get {} s.que.port k
/-- Replace it. -/
def Pkg.setQport (s : Pkg) (k : Nat) (x : QPort) : Pkg := { s with que.port := Store.set {} s.que.port k x }

/-- Counters of Table 81 that a snapshot captures from live fields. -/
def queSnapFields : List Fld :=
  [.QUE_ISSUED, .QUE_SKIPPED, .QUE_CANCELLED, .QUE_COMPLETED, .QUE_ORPHANED, .QUE_PURGED, .QUE_UNCORR, .QUE_STALL,
   .QUE_LAT_MAX, .QUE_LAT_LAST, .QUE_WAIT_FREE_CNT]

/-- Capture one queue port's registers, QUE_STAT excepted (R156). -/
def Pkg.snapQueue (s : Pkg) (k : Nat) : Pkg :=
  let q := s.qport k
  let s := s.snapFields queSnapFields k
  let s := s.psnap .QUE_LEVEL_INFLIGHT k q.fly.length
  let s := s.psnap .QUE_LEVEL_INFLIGHT_CUR k (q.fly.filter fun r => !r.orphan).length
  let s := s.psnap .QUE_LEVEL_HELD k q.held.length
  s.each (List.range 64) fun s e => s.psnap .QUE_ENT_STAT (k * 64 + e) (q.st.at e)

/-- Counter snapshot of an instance (R41, R156): Table 22, ARY_STOP_POS and its queue ports at one step boundary. -/
def Pkg.snapshot (s : Pkg) (i : Nat) : Pkg :=
  let (mcc, pos) := s.position i
  let s := s.snapFields [.ARY_TOTAL, .ARY_EXEC, .ARY_STALL_LNK, .ARY_STALL_QUE, .ARY_STALL_CALL, .ARY_HOLD_FLOW, .ARY_STALLED_MC] i
  let s := (s.psnap .ARY_MCC i mcc).psnap .ARY_STOP_POS i pos
  s.each (s.queuesOf i) Pkg.snapQueue

/-- RUN_STATE event (Table 171). -/
def Pkg.runStateEvent (s : Pkg) (i : Nat) : Pkg :=
  let (mcc, pos) := s.position i
  s.event 1 (some i) ([s.g .ARY_RUN_STAT_STATE i, s.g .ARY_RUN_STAT_STOP_CAUSE i] ++ List.replicate 6 0 ++ leVals mcc 8 ++ leVals pos 2)

/-- Change the run state and report it. -/
def Pkg.setRun (s : Pkg) (i : Nat) (st : RunState) : Pkg := (s.p .ARY_RUN_STAT_STATE i st.code).runStateEvent i

/-- Banks whose handover to instance `i` waits only for its boundary (R133): the old owner's ring accesses have completed
(marked 128 in `oldOwn`). -/
def Pkg.handoversOf (s : Pkg) (i : Nat) : List Nat :=
  ((s.cav.oldOwn.filter fun e => bit e.2 7).map (·.1)).filter fun b => s.g .CAV_OWN_INST b == i && s.g .CAV_OWN_KIND b == 0

/-- Finish a waiting handover (Table 67). -/
def Pkg.handoverDone (s : Pkg) (b : Nat) : Pkg :=
  { s with cav.oldOwn := s.cav.oldOwn.put b 0 }.p .CAV_OWN_PEND b 0

/-- Register a stop condition that waits for the next boundary (R35, R38). -/
def Pkg.pendStopAt (s : Pkg) (i : Nat) (c : Cause) : Pkg :=
  let s := s.updInst i fun x => if c.code ∈ x.pend then x else { x with pend := x.pend ++ [c.code] }
  if c = .hostPause then s.p .ARY_RUN_STAT_PAUSE_PEND i 1 else s.p .ARY_RUN_STAT_FREEZE_PEND i 1

/-- A command the present state does not list is ignored (R35). -/
def Pkg.cmdIgnored (s : Pkg) (i : Nat) : Pkg := s.p .ARY_ERR_CMD_IGNORED i 1

/-- The cause of a freeze counts as cleared (R35, R115, R214, R426). -/
def Pkg.causeCleared (s : Pkg) (i : Nat) : Bool :=
  match s.g .ARY_RUN_STAT_STOP_CAUSE i with
  | 4 => !s.b .WU_INST_EXC_PEND i
  | 5 => !s.b .DBG_INST_STAT_HOLD i
  | 6 => s.g .TRN_INST_STAT_BAD i == 0
  | _ => true

/-- Clear everything a load or an instance reset sets to 0 in the instance's counters (R33, Table 22, XBR_NOCAP_CNT). -/
def Pkg.zeroRunCounters (s : Pkg) (i : Nat) : Pkg :=
  let l : List Fld := [.ARY_MCC, .ARY_TOTAL, .ARY_EXEC, .ARY_STALL_LNK, .ARY_STALL_QUE, .ARY_STALL_CALL, .ARY_HOLD_FLOW,
    .ARY_STALLED_MC, .ARY_STOP_POS]
  let s := s.each l fun s f => (s.p f i 0).psnap f i 0
  s.p .XBR_NOCAP_CNT i 0

end Sys2Proof.Machine
end

