-- ==== Sys2Proof/Machine/FlowOps.lean ====
section
/-!
DEFINITION. Work items and transactor flows (R357-R368): creation and end of items, the flow result word, and what a boundary does
to the flows of an instance.
-/
namespace Sys2Proof.Machine

/-- A flow beside its registers. -/
def Pkg.flow (s : Pkg) (f : Nat) : Flow := Store.get {} s.sch.flows f
/-- Replace it. -/
def Pkg.setFlow (s : Pkg) (f : Nat) (x : Flow) : Pkg := { s with sch.flows := Store.set {} s.sch.flows f x }
/-- A word unit, by die*2048 + region*32 + cluster. -/
def Pkg.wunit (s : Pkg) (u : Nat) : WordUnit := Store.get {} s.fab.wu u
/-- Replace it. -/
def Pkg.setWunit (s : Pkg) (u : Nat) (x : WordUnit) : Pkg := { s with fab.wu := Store.set {} s.fab.wu u x }

/-! ## Flow state -/

/-- DEPTH of a flow (R357). -/
def Pkg.flowDepth (s : Pkg) (f : Nat) : Nat := s.g .SCH_FLOW_CFG_DEPTHM1 f + 1
/-- LEN of a flow. -/
def Pkg.flowLen (s : Pkg) (f : Nat) : Nat := s.g .SCH_FLOW_BUF_LEN f
/-- Entries of the host ring. -/
def Pkg.flowN (s : Pkg) (f : Nat) : Nat := 2 ^ s.g .SCH_FLOW_RINGCFG_LOG2N f
/-- The flow is BOUND. -/
def Pkg.flowBound (s : Pkg) (f : Nat) : Bool := s.g .SCH_FLOW_STAT_STATE f == 1
/-- Staged entries of a flow. -/
def Pkg.staged (s : Pkg) (f : Nat) : Nat := (s.flow f).out.length + (s.flow f).inb.length
/-- Flows that instance `i` owns. -/
def Pkg.flowsOf (s : Pkg) (i : Nat) : List Nat :=
  let d := (s.inst i).desc
  (List.range d.flowCount).map fun n => d.flowBase + n

/-- The control net of a flow (R357) as it stands. -/
def Pkg.flowNet (s : Pkg) (f : Nat) : Bool :=
  let u := s.wunit (s.flow f).unit
  let r := s.g .SCH_FLOW_CFG_NREG f
  bit (if r = 16 then u.out else u.w.at r) (s.g .SCH_FLOW_CFG_NBIT f)

/-- Bytes 0 and 1 of the status line take the device pointer; the rest is 0 (R359). -/
def Pkg.statusLine (s : Pkg) (f : Nat) : Pkg :=
  let a := s.g .SCH_FLOW_RING f + s.flowN f * s.g .SCH_FLOW_RINGCFG_ENTRY_BYTES f
  { s with host := writeBytes s.host a (leBytes (s.g .SCH_FLOW_DEV f) 2 ++ List.replicate 62 0) }

/-- Result word of Table 181 and whether a WAIT on it stalls (R364). A flow that instance `i` does not own reads 0 (R477). -/
def Pkg.flowWord (s : Pkg) (i f : Nat) : Bool × Nat :=
  if s.g .SCH_FLOW_STAT_OWNED f = 0 ∨ s.g .SCH_FLOW_STAT_OWNER f ≠ i ∨ s.g .SCH_FLOW_STAT_STATE f = 0 then (false, 0)
  else if s.g .SCH_FLOW_STAT_DIR f = 0 then
    if s.b .SCH_FLOW_CFG_CALL f then (decide (0 < (s.flow f).calls.length), (s.flow f).word)
    else (false, s.g .SCH_FLOW_TAKEN f + (s.flowDepth f - s.staged f) * 2 ^ 32)
  else (false, s.g .SCH_FLOW_REL f + min 0x7FFF (dist (s.g .SCH_FLOW_HOST f) (s.g .SCH_FLOW_DEV f)) * 2 ^ 32)
where
  /-- Free-running 16-bit distance. -/
  dist (a b : Nat) : Nat := (a + 2 ^ 16 - b) % 2 ^ 16

/-- Outbound flows of `i` that post a message at this boundary (R360). -/
def Pkg.posting (s : Pkg) (i : Nat) : List Nat :=
  (s.flowsOf i).filter fun f => s.flowBound f && s.g .SCH_FLOW_STAT_DIR f == 0 && s.flowNet f

/-- A posting flow can take its message now: a free entry, and fewer than 127 calls on a call flow (R360, R362). -/
def Pkg.flowRoom (s : Pkg) (f : Nat) : Bool :=
  decide (s.staged f < s.flowDepth f) && (!s.b .SCH_FLOW_CFG_CALL f || decide ((s.flow f).calls.length < 127))

/-- Posting flows that lack an entry. -/
def Pkg.lacking (s : Pkg) (i : Nat) : List Nat := (s.posting i).filter fun f => !s.flowRoom f

/-- Words BASE to BASE + LEN - 1 of the flow unit. -/
def Pkg.flowWords (s : Pkg) (f : Nat) : List Nat :=
  let u := s.wunit (s.flow f).unit
  (List.range (s.flowLen f)).map fun j => u.mem.at ((s.g .SCH_FLOW_BUF_BASE f + j) % 1024)

/-- A message is taken (R360-R362): the entry is staged with its slot, and one transactor item is created. `mcc` is the cycle that
ended. -/
def Pkg.flowTake (s : Pkg) (i mcc f : Nat) : Pkg :=
  let x := s.flow f
  let seq := s.g .SCH_FLOW_TAKEN f
  let call := s.b .SCH_FLOW_CFG_CALL f
  let slot := (seq + 2 ^ 32 - s.g .SCH_FLOW_PURGED f) % s.flowN f
  let e : FlowEnt := { fseq := seq, slot := slot, words := s.flowWords f, inst := i, call := call, mcc := mcc, taken := s.sch.now }
  let s := s.setFlow f { x with out := x.out ++ [e], calls := if call then x.calls ++ [(seq, false)] else x.calls }
  (s.inc .SCH_FLOW_TAKEN f).newItem (.out f seq) (s.g .SCH_FLOW_CFG_PRIO f) (some i)

/-- A bound inbound flow with a free entry and a host entry ahead gets a fetch item, one at a time (R363). -/
def Pkg.inbItem (s : Pkg) (f : Nat) : Pkg :=
  if s.flowBound f ∧ s.g .SCH_FLOW_STAT_DIR f = 1 ∧ !(s.flow f).halt ∧
      s.staged f < s.flowDepth f ∧ s.g .SCH_FLOW_HOST f ≠ s.g .SCH_FLOW_DEV f ∧ !(s.sch.items.any fun x => x.ref == .inb f) then
    s.newItem (.inb f) (s.g .SCH_FLOW_CFG_PRIO f) (if s.b .SCH_FLOW_STAT_OWNED f then some (s.g .SCH_FLOW_STAT_OWNER f) else none)
  else s

/-- Delivery of the oldest staged entry of an inbound flow whose control net reads 1 (R363). -/
def Pkg.flowDeliver (s : Pkg) (f : Nat) : Pkg :=
  let x := s.flow f
  if s.flowBound f ∧ s.g .SCH_FLOW_STAT_DIR f = 1 ∧ s.flowNet f then
    match x.inb with
    | [] => s
    | ws :: rest =>
      let u := s.wunit x.unit
      let l := (ws.take (s.flowLen f)).zipIdx
      let mem := l.foldl (fun m e => m.put ((s.g .SCH_FLOW_BUF_BASE f + e.2) % 1024) e.1) u.mem
      (((s.setWunit x.unit { u with mem := mem }).setFlow f { x with inb := rest }).inc .SCH_FLOW_REL f).inbItem f
  else s

/-- Row 4 of Table 10: every posted message is taken, then every due delivery is made (R360, R363). -/
def Pkg.flowsAtBoundary (s : Pkg) (i mcc : Nat) : Pkg :=
  let s := s.each (s.posting i) fun s f => s.flowTake i mcc f
  s.each (s.flowsOf i) Pkg.flowDeliver

end Sys2Proof.Machine
end

