-- ==== Sys2Proof/Machine/Operands.lean ====
section
/-!
DEFINITION. Operand forms: the fields of a BP instruction (Tables 24-28), of a word instruction (Tables 49-51) and how a word
unit reads and writes its operand codes (Table 50, R100-R102).
-/
namespace Sys2Proof.Machine

/-! ## BP instruction fields (R42, R54, R55) -/

/-- CLASS of a BP word (Table 25). -/
def bpClass (w : Nat) : Nat := bits w 0 4
/-- Operand selectors a to d. -/
def bpSelA (w : Nat) : Nat := bits w 37 11
@[inherit_doc bpSelA] def bpSelB (w : Nat) : Nat := bits w 26 11
@[inherit_doc bpSelA] def bpSelC (w : Nat) : Nat := bits w 15 11
@[inherit_doc bpSelA] def bpSelD (w : Nat) : Nat := bits w 4 11
/-- Truth table. -/
def bpTT (w : Nat) : Nat := bits w 48 16

/-! ## Word instruction fields (R94, R96) -/

/-- Fields of a word instruction, Table 49. -/
structure WIns where
  opc  : Nat
  dst  : Nat
  sa   : Nat
  sb   : Nat
  pred : Nat
  psel : Nat
  imm  : Nat
deriving DecidableEq, Repr

/-- Split a 48-bit word instruction. -/
def wIns (w : Nat) : WIns :=
  { opc := bits w 42 6, dst := bits w 36 6, sa := bits w 30 6, sb := bits w 24 6, pred := bits w 22 2, psel := bits w 16 6,
    imm := bits w 0 16 }

/-- Two's complement value of the low `n` bits. -/
def sgn (n v : Nat) : Int := if bit v (n - 1) then (v % 2 ^ n : Nat) - (2 ^ n : Nat) else ((v % 2 ^ n : Nat) : Int)

/-- The low `n` bits of an integer, two's complement. -/
def wrapN (n : Nat) (x : Int) : Nat := (x % (2 ^ n : Nat)).toNat

/-- Is a code a memory code CP, CI or CD (Table 50)? -/
def isMem (c : Nat) : Bool := decide (0x18 ≤ c) && decide (c ≤ 0x23)
/-- Readable scalar source codes (Table 50). -/
def srcOk (c : Nat) : Bool := decide (c ≤ 0x14) || isMem c
/-- Writable destination codes (Table 50). -/
def dstOk (c : Nat) : Bool := decide (c ≤ 0x0F) || c == 0x12 || c == 0x14 || isMem c
/-- Complex operand codes (R102): even W registers, IN0, memory codes. -/
def cplxOk (c : Nat) : Bool := (decide (c ≤ 0x0F) && c % 2 == 0) || c == 0x10 || isMem c

/-- `k`-th of the four circular-buffer fields. -/
def nth4 (l : List Nat) (k : Nat) : Nat := l.getD (k % 4) 0
/-- Replace it. -/
def put4 (l : List Nat) (k v : Nat) : List Nat := l.set (k % 4) v

/-- WMEM address of buffer `k` at index `ix` (R100). -/
def WordUnit.addr (u : WordUnit) (k ix : Nat) : Nat := (nth4 u.base k + ix) % 1024

/-- Read a scalar source (R100): every source as it stood at the start of the step. -/
def WordUnit.src (u : WordUnit) (in0 in1 imm c : Nat) : Nat :=
  if c ≤ 0x0F then u.w.at c
  else if c = 0x10 then in0
  else if c = 0x11 then in1
  else if c = 0x12 then u.out
  else if c = 0x13 then imm
  else if c = 0x14 then u.mode
  else if isMem c then u.mem.at (u.addr c (nth4 u.idx c))
  else 0

/-- Read a complex source as (real, imaginary) (R102). -/
def WordUnit.srcC (u : WordUnit) (in0 in1 c : Nat) : Nat × Nat :=
  if c ≤ 0x0F then (u.w.at c, u.w.at (c + 1))
  else if c = 0x10 then (in0, in1)
  else (u.mem.at (u.addr c (nth4 u.idx c)), u.mem.at (u.addr c ((nth4 u.idx c + 1) % nth4 u.len c)))

/-- Step the index of the buffer a CI or CD code names by `k` (R100). -/
def WordUnit.stepIdx (u : WordUnit) (c k : Nat) : WordUnit :=
  let l := nth4 u.len c
  let i := nth4 u.idx c
  if 0x1C ≤ c ∧ c ≤ 0x1F then { u with idx := put4 u.idx c ((i + k) % l) }
  else if 0x20 ≤ c ∧ c ≤ 0x23 then { u with idx := put4 u.idx c ((i + k * l - k) % l) }
  else u

/-- Write a destination code at the end of the step; the memory address uses the index as it stood at its start (`ix0`). -/
def WordUnit.writeDst (u : WordUnit) (ix0 : List Nat) (c v : Nat) : WordUnit :=
  if c ≤ 0x0F then { u with w := u.w.put c v }
  else if c = 0x12 then { u with out := v }
  else if c = 0x14 then { u with mode := v % 16 }
  else if isMem c then { u with mem := u.mem.put (u.addr c (nth4 ix0 c)) v }
  else u

end Sys2Proof.Machine
end

