-- ==== Sys2Proof/Machine/CascadeOps.lean ====
section
/-!
DEFINITION. Stopping a cascade instance at one boundary (R39, R280).
-/
namespace Sys2Proof.Machine

/-- Step period in eighths of a nanosecond: 0.5 ns at a root clock of 6.0 GHz, 0.625 ns at 4.8 GHz (R5, Table 4). -/
def Pkg.stepEighths (s : Pkg) : Nat := if s.rootSlow then 5 else 4

/-- The smallest `q` with `a ≤ q * b`. -/
def ceilDiv (a b : Nat) : Nat := if b = 0 then 0 else (a + b - 1) / b

/-- M of R280: the larger of 1,025 and the stall-free cycles that last at least LNK_CAS_LEAD. -/
def Pkg.stopLead (s : Pkg) (i : Nat) : Nat :=
  max 1025 (ceilDiv (clampTo 10 100000 (s.g .LNK_CAS_LEAD 0) * 8000) (s.stepEighths * s.depth i))

/-- ARY_STOP_AT takes the common stop cycle and STOP_AT_EN is set (R280). -/
def Pkg.setStopAt (s : Pkg) (i cycle cause : Nat) : Pkg :=
  let s := ((s.writeNow .ARY_STOP_AT_LO i (cycle % 2 ^ 32)).writeNow .ARY_STOP_AT_HI i (cycle / 2 ^ 32)).writeNow .ARY_CTRL_STOP_AT_EN i 1
  s.updInst i fun x => { x with cascCause := some cause }

/-- The master stops cascade instance `i` with a cause: it sends STOP_AT and takes the cycle itself, which lies
ahead of the present one. -/
def Pkg.masterStop (s : Pkg) (i cause : Nat) : Pkg :=
  if s.runState i = .running then
    let cycle := s.g .ARY_MCC i + s.stopLead i
    (s.sendDown i (.stopAt cycle cause)).setStopAt i cycle cause
  else s

/-- An event in this package asks for a stop of cascade instance `i` (R116, R280, R306): the master acts, a slave sends EVENT. -/
def Pkg.cascadeAsk (s : Pkg) (i : Nat) (c : Cause) (mcc : Nat) : Pkg :=
  if s.isMaster then s.masterStop i c.code else s.sendUp i (.event c.code mcc)

end Sys2Proof.Machine
end

