-- ==== Sys2Proof/Machine/XtOps.lean ====
section
/-!
DEFINITION. Halting a management processor, the cross-trigger, debug freezes and watchpoints (R417, R418, R422-R425).
-/
namespace Sys2Proof.Machine

/-- A debug freeze request for instance `i` (R425). -/
def Pkg.debugFreeze (s : Pkg) (i : Nat) : Pkg :=
  if !s.runs i then s.cmdIgnored i
  else if (s.inst i).desc.cascade then s.cascadeAsk i .debug (s.g .ARY_MCC i)
  else (s.pendStopAt i .debug).p .DBG_INST_STAT_FRZ_PEND i 1

/-- The channels for which `p` holds, as a mask. -/
def chans (p : Nat → Bool) : Nat := (List.range 4).foldl (fun v c => v + b2n (p c) * 2 ^ c) 0
@[inherit_doc chans] def Pkg.xtSources (_ : Pkg) (p : Nat → Bool) : Nat := chans p

/-- The registers of a management processor are what its program left in them: free values. -/
def Pkg.mpRegsFree (s : Pkg) (d : Nat) : Pkg :=
  s.each (List.range 34) fun s n =>
    let (v, s) := s.draw 64
    { s with dbg := { s.dbg with regs := s.dbg.regs.put (d * 64 + n) v } }

/-- The MP of die `d` enters HALTED with a HALT_CAUSE code (R417). -/
def Pkg.mpHaltOne (s : Pkg) (d cause : Nat) : Pkg :=
  ((s.mpRegsFree d).ps [(.DBG_MP_STAT_HALTED, d, 1), (.DBG_MP_STAT_HALT_CAUSE, d, cause)]).incSat .DBG_MP_HALT_CNT d

/-- Channels that an entry of die `d`'s MP to HALTED pulses. -/
def Pkg.haltChans (s : Pkg) (d : Nat) : Nat := chans fun c => s.b .DBG_XT_SRC_MP_HALT (d * 4 + c)

/-- Pulses on the channels of `mask` reach every die's sinks (R424): the state, and the channels that the halts they cause pulse in turn. -/
def Pkg.xtOnce (s : Pkg) (mask : Nat) : Pkg × Nat :=
  let s := s.each (List.range s.part.model.dies) fun s d => s.p .DBG_XT_STAT d (s.g .DBG_XT_STAT d ||| mask % 16)
  let sel := fun (d : Nat) (f : Fld) => (List.range 4).any fun c => bit mask c && s.b f (d * 4 + c)
  let halted := (List.range s.part.model.dies).filter fun d => sel d .DBG_XT_SINK_HALT_MP && !s.b .DBG_MP_STAT_HALTED d
  let insts := (List.range 16).filter fun i => (List.range 4).any fun c => bit mask c && bit (s.g .DBG_XT_SINK_INST c) i
  let out := sel 0 .DBG_XT_SINK_XTRIG_OUT
  let next := halted.foldl (fun v d => v ||| s.haltChans d) 0
  let s := s.each halted fun s d => s.mpHaltOne d 4
  let s := s.each insts Pkg.debugFreeze
  (if out then { s with dbg := { s.dbg with xtOut := s.dbg.xtOut + 1 } } else s, next)

/-- A pulse and what follows from it. Every round but the last halts a processor, so eight rounds suffice. -/
def Pkg.xtRounds (s : Pkg) (mask : Nat) : Nat → Pkg
  | 0 => s
  | fuel + 1 => if mask % 16 = 0 then s else let (s, next) := s.xtOnce mask; s.xtRounds next fuel
@[inherit_doc Pkg.xtRounds] def Pkg.xtPulse (s : Pkg) (mask : Nat) : Pkg := s.xtRounds mask 10

/-- A halt request for the MP of die `d` takes effect, once: the entry to HALTED pulses its channels. -/
def Pkg.mpHalt (s : Pkg) (d cause : Nat) : Pkg :=
  if s.b .DBG_MP_STAT_HALTED d then s else (s.mpHaltOne d cause).xtPulse (s.haltChans d)

/-! ## Watchpoints (R422, R423) -/

/-- An access as a watchpoint sees it: source (0 fetch, 1 MP load or store, 2 ring request), direction, first byte and number of bytes,
instance, initiator, and the write data as words from `addr` rounded down to 4. -/
structure Access where
  src   : Nat
  write : Bool
  addr  : Nat
  n     : Nat
  inst  : Option Nat
  init  : Nat
  data  : List Nat
deriving DecidableEq, Repr

/-- Watchpoint `n` of die `d` matches an access. -/
def Pkg.wpMatch (s : Pkg) (d n : Nat) (a : Access) : Bool :=
  let k := d * 8 + n
  let lo := s.g .DBG_WP_LO k
  let hi := s.g .DBG_WP_HI k
  let first := max lo a.addr
  s.b .DBG_WP_CTL_EN k && s.g .DBG_WP_CTL_SRC k == a.src && decide (lo ≤ hi) && decide (lo < a.addr + a.n) && decide (a.addr ≤ hi) &&
  (if a.write then s.b .DBG_WP_CTL_WR k else s.b .DBG_WP_CTL_RD k) &&
  (match s.g .DBG_WP_CTL_IMODE k with
   | 1 => a.inst == some (s.g .DBG_WP_CTL_INST k)
   | 2 => a.inst.isNone
   | _ => true) &&
  (!(s.b .DBG_WP_CTL_INIT_EN k && a.src == 2) || s.g .DBG_WP_CTL_INITIATOR k == a.init) &&
  (!s.b .DBG_WP_CTL_DATA_EN k ||
    (a.write && (a.data.getD (first / 4 - a.addr / 4) 0 &&& s.g .DBG_WP_MASK k) == (s.g .DBG_WP_DATA k &&& s.g .DBG_WP_MASK k))) &&
  (!s.b .DBG_WP_CTL_LINK k || s.dbg.hits.at k != 0)

/-- The watchpoints of die `d` see an access: each that matches counts, and their actions are combined. -/
def Pkg.wpSee (s : Pkg) (d : Nat) (a : Access) : Pkg :=
  match (List.range 8).filter fun n => s.wpMatch d n a with
  | [] => s
  | n :: l =>
    let hit := n :: l
    let halt := hit.any fun n => s.b .DBG_WP_CTL_HALT_MP (d * 8 + n)
    let mask := hit.foldl (fun v n => v ||| s.g .DBG_WP_CTL_XT (d * 8 + n)) 0
    let s := s.each hit fun s n =>
      let s := ((s.incSat .DBG_WP_CNT (d * 8 + n)).pbit .DBG_WP_STAT_HIT d n true)
      if n < 7 then { s with dbg := { s.dbg with hits := s.dbg.hits.put (d * 8 + n + 1) 1 } } else s
    let s := if s.b .DBG_WP_STAT_FIRST_VALID d then s else s.ps [(.DBG_WP_STAT_FIRST, d, n), (.DBG_WP_STAT_FIRST_VALID, d, 1)]
    let own := if halt ∧ !s.b .DBG_MP_STAT_HALTED d then s.haltChans d else 0
    let s := if halt ∧ !s.b .DBG_MP_STAT_HALTED d then s.mpHaltOne d 2 else s
    s.xtPulse (mask ||| own)

end Sys2Proof.Machine
end

