-- ==== Sys2Proof/Machine/Capture.lean ====
section
/-!
DEFINITION. The capture and Rennet at a boundary (R286-R289, R299-R309): probe vectors, comparators, the sequencer, triggers, and
the ARM and STOP of a capture. A vector is a sparse list of 64-bit words; key die*1028 + word.
-/
namespace Sys2Proof.Machine

/-! ## Samples -/

/-- Bit that cluster probe slot `w` of package cluster `c` samples (Table 145). -/
def Pkg.probeBit (s : Pkg) (c w : Nat) : Bool :=
  if !bit w 31 then false
  else if bit w 30 then
    let u := s.wunit c
    let r := bits w 4 5
    bit (if r = 16 then u.out else u.w.at r) (w % 16)
  else s.fab.data.at ((c * 64 + bits w 11 6) * 2048 + bits w 0 11) != 0

/-- Bit that a pin slot with selection `v` of cell `cell` samples (R288). -/
def Pkg.pinBit (s : Pkg) (cell v : Nat) : Bool :=
  match v with
  | 1 => s.b .IOC_CELL_STAT_PAD cell
  | 2 => s.b .IOC_CELL_STAT_VAL cell
  | 3 => s.b .IOC_CELL_STAT_OE cell
  | _ => false

/-- Set probe bit `b` of die `d` in a set of vectors. -/
def vecSet (v : NStore) (d b : Nat) : NStore := v.put (d * 1028 + b / 64) (v.at (d * 1028 + b / 64) + 2 ^ (b % 64))

/-- The probe vectors of every die (R289). -/
def Pkg.vectors (s : Pkg) : NStore :=
  let v := s.trc.probe.foldl (fun v e => if s.probeBit (e.1 / 32) e.2 then vecSet v (e.1 / 65536) (e.1 % 65536) else v) []
  s.trc.pin.foldl (fun v e => if s.pinBit (e.1 / 2) e.2 then vecSet v (e.1 / 256) (65536 + e.1 % 256) else v) v

/-- The vector of die `d`. -/
def dieVec (v : NStore) (d : Nat) : NStore := (v.range (d * 1028) (d * 1028 + 1028)).map fun e => (e.1 - d * 1028, e.2)

/-! ## Comparators (Table 147, R301) -/

/-- Value that comparator `c` reads in a set of vectors: a bit, or 16 bits. -/
def Pkg.cmpVal (s : Pkg) (c : Nat) (v : NStore) : Nat :=
  let b := s.g .RNT_CMP_SRC_BITPOS c
  bits (v.at (s.g .RNT_CMP_SRC_DIE c * 1028 + b / 64)) (b % 64) (if s.b .RNT_CMP_SRC_WORD c then 16 else 1)

/-- A word as LT, GE and the crossings compare it. -/
def Pkg.cmpInt (s : Pkg) (c v : Nat) : Int := if s.b .RNT_CMP_SRC_SIGNED c then sgn 16 v else v

/-- Match bit of comparator `c` in the present sample `v` after the sample `prev`, if there is one. -/
def Pkg.cmpHit (s : Pkg) (c : Nat) (v : NStore) (prev : Option NStore) : Bool :=
  if !s.b .RNT_CMP_SRC_EN c then false else
  let value := s.g .RNT_CMP_VAL_VALUE c
  let mask := s.g .RNT_CMP_VAL_MASK c
  let x := s.cmpVal c v
  let t := s.cmpInt c value
  match s.g .RNT_CMP_SRC_OP c, prev.map (s.cmpVal c) with
  | 0, _ => x == value % 2
  | 1, some p => p == 0 && x == 1
  | 2, some p => p == 1 && x == 0
  | 3, some p => p != x
  | 4, _ => x &&& mask == value &&& mask
  | 5, _ => x &&& mask != value &&& mask
  | 6, _ => decide (s.cmpInt c x < t)
  | 7, _ => decide (t ≤ s.cmpInt c x)
  | 8, some p => decide (s.cmpInt c p < t) && decide (t ≤ s.cmpInt c x)
  | 9, some p => decide (t < s.cmpInt c p) && decide (s.cmpInt c x ≤ t)
  | 10, some p => p &&& mask != x &&& mask
  | _, _ => false

/-- Is comparator `c` a crossing? -/
def Pkg.isCross (s : Pkg) (c : Nat) : Bool := s.g .RNT_CMP_SRC_OP c == 8 || s.g .RNT_CMP_SRC_OP c == 9

/-- Placement of a crossing matched in sample `k`: CYC and FRAC (R301). -/
def Pkg.crossAt (s : Pkg) (c k : Nat) (v prev : NStore) : Nat × Nat :=
  let p := s.cmpInt c (s.cmpVal c prev)
  let x := s.cmpInt c (s.cmpVal c v)
  let t := s.cmpInt c (s.g .RNT_CMP_VAL_VALUE c)
  let num := (if p ≤ x then t - p else p - t).toNat
  let den := (if p ≤ x then x - p else p - x).toNat
  if num = den then (k, 0) else (k - 1, 256 * num / den)

/-! ## The sequencer (R302-R307) -/

/-- Value of timer `t` in whole nanoseconds (R303). -/
def Pkg.timer (s : Pkg) (t : Nat) : Nat := s.trc.halves.at t / 2

/-- Timers advance by `n` step periods of the traced instance: one Whey clock period every four (Table 4, R303). They hold while the
capture is OFF or DONE (R302). -/
def Pkg.traceTick (s : Pkg) (i n : Nat) : Pkg :=
  if s.traced = some i then
    let ph := s.trc.phase + n
    let add := ph / 4 * (if s.rootSlow then 5 else 4)
    { s with trc.phase := ph % 4
             trc.halves := if !s.capturing then s.trc.halves else s.trc.running.foldl (fun m t => m.put t ((m.at t + add) % 2 ^ 49)) s.trc.halves }
  else s

/-- A trigger is recorded: capture TRIGGERED, RNT_TRIG_MCC and RNT_TRIG_INFO, and the trigger count starts (R305); it pulses the channels
that select it (R424). -/
def Pkg.trigRecord (s : Pkg) (mcc info : Nat) : Pkg :=
  ({ s with trc.post := 0 }.ps [(.WHY_CAP_STAT_STATE, 0, 2), (.RNT_STAT_TRIGGERED, 0, 1), (.RNT_TRIG_MCC, 0, mcc),
    (.RNT_TRIG_INFO, 0, info)]).xtPulse (s.xtSources fun c => s.b .DBG_XT_SRC_RENNET c)

/-- FREEZE or DONE_FRZ from sample `k` (R306, R308). -/
def Pkg.traceFreeze (s : Pkg) (i k : Nat) : Pkg :=
  if (s.inst i).desc.cascade then s.cascadeAsk i .rennet k
  else { s with trc.frzReq := true }.p .ARY_RUN_STAT_FREEZE_PEND i 1

/-- The branch of state `st` that fires: its number (R302, step 4). -/
def Pkg.branch (s : Pkg) (st hits : Nat) : Option Nat :=
  (List.range 4).find? fun n =>
    let b := st * 4 + n
    let mask := s.g .RNT_BR_MASK_LO b + 2 ^ 32 * s.g .RNT_BR_MASK_HI b
    let terms := ((List.range 64).filter (bit mask)).map (bit hits) ++
      ((List.range 8).filter (bit (s.g .RNT_BR_CTL_CNT_DONE b))).map (fun c => decide (s.g .RNT_CNT_LIM c ≤ s.g .RNT_CNT_VAL c)) ++
      ((List.range 4).filter (bit (s.g .RNT_BR_CTL_TMR_DONE b))).map (fun t => decide (s.g .RNT_TMR_LIM t ≤ s.timer t))
    s.b .RNT_BR_CTL_EN b && (if s.b .RNT_BR_CTL_ALL b then terms.all id else terms.any id)

/-- Rennet evaluates sample `k` (R302): the new state, whether the cycle is recorded, and the TRIGGER body if one is to be written. -/
def Pkg.rennet (s : Pkg) (i k : Nat) (v : NStore) : Pkg × Bool × Option (Nat × Nat) :=
  let prev := s.trc.prev
  let hit := (List.range 64).filter fun c => s.cmpHit c v prev
  let hits := hit.foldl (fun n c => n + 2 ^ c) 0
  let st := s.g .RNT_STAT_STATE 0
  let armed := s.g .WHY_CAP_STAT_STATE 0 == 1
  let s := s.each hit fun s c => s.incSat .RNT_CMP_HIT c
  let s := s.each ((List.range 8).filter fun n => bit (s.g .RNT_CNT_CFG_STATES n) st &&
      (s.b .RNT_CNT_CFG_ALWAYS n || bit hits (s.g .RNT_CNT_CFG_SRC n))) fun s n => s.incSat .RNT_CNT_VAL n
  let (s, next, trig, cross) := match s.branch st hits with
    | none => (s, st, false, none)
    | some n =>
      let b := st * 4 + n
      let s := s.each (List.range 4) fun s t => s.p .RNT_TMR_LAST t (s.timer t)
      let s := s.each ((List.range 8).filter (bit (s.g .RNT_BR_ACT_CNT_CLR b))) fun s c => s.p .RNT_CNT_VAL c 0
      let start := (List.range 4).filter (bit (s.g .RNT_BR_ACT_TMR_START b))
      let stop := (List.range 4).filter (bit (s.g .RNT_BR_ACT_TMR_STOP b))
      let s := { s with trc.running := (s.trc.running.filter fun t => !stop.contains t && !start.contains t) ++ start
                        trc.halves := start.foldl (fun m t => m.put t 0) s.trc.halves }
      let s := if s.b .RNT_BR_ACT_FREEZE b then s.traceFreeze i k else s
      let mask := s.g .RNT_BR_MASK_LO b + 2 ^ 32 * s.g .RNT_BR_MASK_HI b
      let next := s.g .RNT_BR_CTL_NEXT b
      (s.p .RNT_STAT_STATE 0 next, next, s.b .RNT_BR_ACT_TRIGGER b, hit.find? fun c => bit mask c && s.isCross c)
  let store := s.b .RNT_ST_CFG st
  let s := { s with trc.prev := some v }
  if trig then
    if armed then
      let (cyc, frac, info) := match cross, prev with
        | some c, some p => let (cyc, frac) := s.crossAt c k v p; (cyc, frac, 2 ^ 9 + c * 2 ^ 18)
        | _, _ => (k, 0, 0)
      let body := st + next * 16 + frac * 2 ^ 10 + info
      (s.trigRecord cyc body, store, some (k, body))
    else (s.incSat .RNT_STAT_RETRIG 0, store, none)
  else if armed ∧ s.b .RNT_CTL 0 ∧ s.trc.autoDue then
    let body := st + next * 16 + 2 ^ 8
    (s.trigRecord k body, store, some (k, body))
  else (s, store, none)

/-! ## A boundary's sample (R291-R296, R308) -/

/-- The dies of the traced instance that write a stream. -/
def Pkg.streams (s : Pkg) : List Nat := s.wheyDies.filter s.hasStream

/-- Take cycle `k` into every stream; none of them takes it where a FILL ring has no room for what its own would take (R295). -/
def Pkg.streamCycle (s : Pkg) (k : Nat) (v : NStore) (record : Bool) : Pkg × Bool :=
  if s.streams.any fun d => s.lossEnds d && s.fillFull d 24 then (s, false)
  else
    let s := s.each s.streams Pkg.resumeLoss
    if s.streams.any fun d => s.fillFull d (s.cycleNeeds d k (dieVec v d) record) then (s, false)
    else (s.each s.streams fun s d => s.wheyCycle d k (dieVec v d) record, true)

/-- Write a TRIGGER packet to every stream, after closing each open count; none where a FILL ring has no room for one. -/
def Pkg.trigPackets (s : Pkg) (k body : Nat) : Pkg × Bool :=
  if s.streams.any fun d => s.fillFull d (16 + (if (s.whey d).count = 0 then 0 else 8)) then (s, false)
  else (s.each s.streams fun s d => (s.closeRun d).emit d [pktHead 5 d 2 k, body] k true false, true)

/-- The capture ends by count or by a full ring; DONE_FRZ then freezes the instance at the next boundary. -/
def Pkg.captureEnd (s : Pkg) (i k reason : Nat) : Pkg :=
  let s := s.captureDone reason
  if s.b .WHY_CAP_CFG_DONE_FRZ 0 then s.traceFreeze i k else s

/-- Row 1 of Table 10 for cycle `k` of instance `i`. -/
def Pkg.sample (s : Pkg) (i k : Nat) : Pkg :=
  if s.traced = some i ∧ s.capturing then
    let was := s.g .WHY_CAP_STAT_STATE 0
    let v := s.vectors
    let (s, store, trig) := s.rennet i k v
    let (s, ok) := s.streamCycle k v store
    if !ok then s.captureEnd i k 2 else
    let s := { s with trc.last := some k }
    let (s, ok) := match trig with
      | some (mcc, body) => s.trigPackets mcc body
      | none => (s, true)
    if !ok then s.captureEnd i k 2 else
    let s := if was = 2 then { s with trc.post := s.trc.post + 1 } else s
    if s.g .WHY_CAP_STAT_STATE 0 = 2 ∧ s.g .WHY_POST 0 ≠ 2 ^ 32 - 1 ∧ s.g .WHY_POST 0 ≤ s.trc.post then s.captureEnd i k 1 else s
  else s

/-! ## ARM and STOP (R308, R311) -/

/-- Registers of the WHY die block that ARM sets to 0. -/
def wheyArmFields : List Fld :=
  [.WHY_RING_WPTR, .WHY_RING_RPTR, .WHY_RING_OLDEST, .WHY_RING_WRAPS, .WHY_FIFO_LEVEL, .WHY_BYTES_PROD, .WHY_BYTES_WR,
   .WHY_BYTES_LOST, .WHY_PKT_LOST, .WHY_LOST_PEND, .WHY_STAT]

/-- Clear what ARM clears of Rennet: hits, counters, timers, state and trigger registers (R303, R311). -/
def Pkg.rennetClear (s : Pkg) : Pkg :=
  let s := s.each (List.range 64) fun s c => s.p .RNT_CMP_HIT c 0
  let s := s.each (List.range 8) fun s n => s.p .RNT_CNT_VAL n 0
  let s := s.each (List.range 4) fun s t => s.p .RNT_TMR_LAST t 0
  { s with trc.halves := [], trc.running := [], trc.phase := 0, trc.prev := none, trc.autoDue := false }.ps
    [(.RNT_STAT_STATE, 0, 0), (.RNT_STAT_ARMED, 0, 0), (.RNT_STAT_TRIGGERED, 0, 0), (.RNT_STAT_RETRIG, 0, 0), (.RNT_TRIG_MCC, 0, 0),
     (.RNT_TRIG_INFO, 0, 0)]

/-- ARM takes effect; `first` is the first cycle that will be sampled. -/
def Pkg.arm (s : Pkg) (first : Nat) : Pkg :=
  let s := s.each s.wheyDies fun s d => (s.each wheyArmFields fun s f => s.p f d 0).setWhey d {}
  { s.rennetClear with trc.pendArm := false, trc.deferArm := false, trc.pendStop := false, trc.post := 0, trc.last := none }.ps
    [(.WHY_CAP_STAT_STATE, 0, 1), (.WHY_CAP_STAT_REASON, 0, 0), (.WHY_CAP_STAT_SNAP_VALID, 0, 0), (.WHY_ARM_MCC, 0, first),
     (.RNT_STAT_ARMED, 0, 1)]

/-- Every engine of the traced instance has drained its FIFO. -/
def Pkg.drained (s : Pkg) : Bool := s.wheyDies.all fun d => s.g .WHY_FIFO_LEVEL d == 0

/-- The traced instance is LOADED or stopped at a boundary. -/
def Pkg.tracedStopped (s : Pkg) : Bool :=
  match s.traced with
  | some i => s.atBoundary i
  | none => false

/-- First cycle an ARM samples when it applies now: the cycle about to begin. -/
def Pkg.nextCycle (s : Pkg) : Nat := s.g .ARY_MCC (s.g .WHY_CAP_STAT_OWNER 0)

/-- An ARM that need not wait for a drain: at once when stopped at a boundary, else at the next boundary. -/
def Pkg.armOrPend (s : Pkg) : Pkg := if s.tracedStopped then s.arm s.nextCycle else { s with trc.pendArm := true, trc.deferArm := false }

/-- WHY_CAP_CTL.ARM (R308). -/
def Pkg.armWrite (s : Pkg) : Pkg :=
  if s.traced.isNone ∨ s.capturing then s.p .WHY_CAP_STAT_CMD_IGNORED 0 1
  else if s.drained then s.armOrPend
  else { s with trc.deferArm := true }

/-- WHY_CAP_CTL.STOP (R308). -/
def Pkg.stopWrite (s : Pkg) : Pkg :=
  if s.traced.isNone ∨ !s.capturing then s.p .WHY_CAP_STAT_CMD_IGNORED 0 1
  else if s.tracedStopped then s.captureDone 3
  else { s with trc.pendStop := true }

/-- A write of WHY_CAP_CTL with its three bits. -/
def Pkg.capCtl (s : Pkg) (arm stop : Bool) : Pkg :=
  if arm && stop then s.p .WHY_CAP_STAT_CMD_IGNORED 0 1 else if arm then s.armWrite else if stop then s.stopWrite else s

/-- ARM and STOP that apply at the boundary of row 5. -/
def Pkg.captureBoundary (s : Pkg) (i : Nat) : Pkg :=
  if s.traced = some i then
    let s := if s.trc.pendStop then (if s.capturing then s.captureDone 3 else { s with trc.pendStop := false }) else s
    if s.trc.pendArm then s.arm s.nextCycle else s
  else s

/-- An ARM that waited for the drain goes on once every FIFO is empty (R308). -/
def Pkg.deferredArm (s : Pkg) : Pkg := if s.trc.deferArm ∧ s.drained then s.armOrPend else s

/-- START with ARM_ON_START = 1 arms at the same moment, subject to the same wait. -/
def Pkg.armOnStart (s : Pkg) (i : Nat) : Pkg :=
  if s.traced = some i ∧ s.b .WHY_CAP_CFG_ARM_ON_START 0 ∧ !s.capturing then
    if s.drained then s.arm s.nextCycle else { s with trc.deferArm := true }
  else s

/-- Fields that WHY_CAP_CTL.SNAP captures (R311). -/
def wheySnapFields : List Fld :=
  [.WHY_RING_WPTR, .WHY_RING_OLDEST, .WHY_RING_WRAPS, .WHY_FIFO_LEVEL, .WHY_BYTES_PROD, .WHY_BYTES_WR, .WHY_BYTES_LOST,
   .WHY_PKT_LOST, .WHY_LOST_PEND]

/-- WHY_CAP_CTL.SNAP: every engine's counters at one edge (R298). -/
def Pkg.wheySnap (s : Pkg) : Pkg :=
  (s.each (List.range s.part.model.dies) fun s d => s.snapFields wheySnapFields d).p .WHY_CAP_STAT_SNAP_VALID 0 1

end Sys2Proof.Machine
end

