-- ==== Sys2Proof/Machine/Flags.lean ====
section
/-!
DEFINITION. Flag and exception computations: range checks under MODE (R104), EXT rounding (R105), the word unit's carry C and
divide hold (R103, R107), and the attribution record of a word-unit exception (R112-R114).
-/
namespace Sys2Proof.Machine

/-- Exception kinds of R112, with the KIND codes of Table 61. -/
inductive Exc where
  | ovf | sat | dvf
deriving DecidableEq, Repr

/-- Hold an exact result to `n` bits: in range as it is; else clamped with SAT when `sat`, or wrapped with OVF (R104). -/
def rangeCheck (n : Nat) (sat : Bool) (x : Int) : Nat × Option Exc :=
  let top : Int := (2 ^ (n - 1) : Nat)
  if -top ≤ x ∧ x < top then (wrapN n x, none)
  else if sat then (wrapN n (if x < 0 then -top else top - 1), some .sat)
  else (wrapN n x, some .ovf)

/-- Round x / 2^s to an integer as RND directs (Table 53, R105). -/
def roundShift (rnd : Nat) (x : Int) (s : Nat) : Int :=
  let d : Int := (2 ^ s : Nat)
  let q := x / d
  let r := x - q * d
  if s = 0 then x
  else match rnd with
    | 0 => q
    | 1 => if d ≤ 2 * r then q + 1 else q
    | 2 => if 2 * r < d then q else if d < 2 * r then q + 1 else if q % 2 = 0 then q else q + 1
    | _ => if 2 * r < d then q else if d < 2 * r then q + 1 else if 0 ≤ x then q + 1 else q

/-- One division step on acc[31:0] without fault (R107). -/
def divStep (acc d : Nat) : Nat :=
  let t := 2 * (acc % 2 ^ 32)
  (if d ≤ t / 2 ^ 16 then t - d * 2 ^ 16 + 1 else t) % 2 ^ 32

/-- LC of loop level `l` (0 outermost) of a stack held innermost first; inactive levels read 0. -/
def loopLC (st : List (Nat × Nat × Nat)) (l : Nat) : Nat :=
  match st.reverse[l]? with
  | some (_, _, lc) => lc
  | none => 0

/-- The KIND, destination and MULTI of the record when one step raises several exceptions (R113): DVF before SAT before OVF,
ACC0 before ACC1. -/
def excPick (l : List (Exc × Nat)) : Option (Exc × Nat) :=
  match l.find? fun e => e.1 == .dvf with
  | some e => some e
  | none => match l.find? fun e => e.1 == .sat with
    | some e => some e
    | none => l.head?

/-- Record a step's exceptions of unit `u` of instance `i` (R112, R113, R121): flags, counts, the unit's attribution record
while VALID is 0, and the instance's first-exception record. `before` is the unit as it stood while the instruction executed. -/
def Pkg.wuRaise (s : Pkg) (i u step : Nat) (before : WordUnit) (l : List (Exc × Nat)) : Pkg :=
  match excPick l with
  | none => s
  | some (k, dest) =>
    let mcc := s.g .ARY_MCC i
    let s := if s.b .WU_EXC_FLAGS_VALID u then s else
      s.ps [(.WU_EXC_FLAGS_VALID, u, 1), (.WU_EXC_FLAGS_MULTI, u, b2n (l.length > 1)), (.WU_EXC_POS_STEP_IDX, u, step),
        (.WU_EXC_POS_WADDR, u, before.wpc), (.WU_EXC_POS_KIND, u, k.ctorIdx), (.WU_EXC_POS_DEST, u, dest),
        (.WU_EXC_POS_MODE, u, before.mode), (.WU_EXC_CYC, u, mcc),
        (.WU_EXC_LOOPA_LC0, u, loopLC before.stack 0), (.WU_EXC_LOOPA_LC1, u, loopLC before.stack 1),
        (.WU_EXC_LOOPB_LC2, u, loopLC before.stack 2), (.WU_EXC_LOOPB_LC3, u, loopLC before.stack 3),
        (.WU_EXC_LOOPB_DEPTH, u, before.stack.length)]
    let s := s.each l fun s e => match e.1 with
      | .ovf => s.p .WU_EXC_FLAGS_OVF u 1
      | .sat => s.p .WU_EXC_FLAGS_SAT u 1
      | .dvf => s.p .WU_EXC_FLAGS_DVF u 1
    let s := (s.incSat .WU_EXC_CNT u).incSat .WU_INST_EXC_CNT i
    let s := if s.b .WU_INST_EXC_FIRST_VALID i then s else
      s.ps [(.WU_INST_EXC_FIRST_VALID, i, 1), (.WU_INST_EXC_FIRST_DIE, i, u / 2048), (.WU_INST_EXC_FIRST_REGION, i, u / 32 % 64),
        (.WU_INST_EXC_FIRST_CLUSTER, i, u % 32), (.WU_INST_EXC_CYC, i, mcc)]
    s.p .WU_INST_EXC_PEND i 1

/-- Clearing OVF, SAT and DVF clears VALID once all three are clear (R113). -/
def Pkg.wuFlagsCleared (s : Pkg) (u : Nat) : Pkg :=
  if s.b .WU_EXC_FLAGS_OVF u || s.b .WU_EXC_FLAGS_SAT u || s.b .WU_EXC_FLAGS_DVF u then s else s.p .WU_EXC_FLAGS_VALID u 0

end Sys2Proof.Machine
end

