-- ==== Sys2Proof/Machine/WordUnit.lean ====
section
/-!
DEFINITION. The word unit (R91-R110): sequencing, predicates and the word instructions of Table 52.
-/
namespace Sys2Proof.Machine

/-- What a word instruction does beside index steps: destination write, accumulator writes, carry, buffer settings, exceptions. -/
structure WRes where
  dst  : Option Nat := none
  acc0 : Option Nat := none
  acc1 : Option Nat := none
  c    : Option Bool := none
  dh   : Option (Nat × Bool) := none
  excs : List (Exc × Nat) := []
deriving DecidableEq, Repr

/-- Destination codes of the accumulators in the exception record (Table 61). -/
def accCode (n : Nat) : Nat := 0x30 + n

/-- Write accumulator `n` and clear its divide hold (R107). -/
def accRes (n v : Nat) (excs : List (Exc × Nat) := []) : WRes :=
  if n = 0 then { acc0 := some (v % 2 ^ 40), dh := some (0, false), excs := excs }
  else { acc1 := some (v % 2 ^ 40), dh := some (1, false), excs := excs }

/-- A 40-bit range-checked accumulator result (R104). -/
def accChecked (n : Nat) (sata : Bool) (x : Int) : WRes :=
  let (v, e) := rangeCheck 40 sata x
  accRes n v (e.toList.map fun e => (e, accCode n))

/-- A 16-bit range-checked result for destination `dst`. -/
def dstChecked (satw : Bool) (dst : Nat) (x : Int) : WRes :=
  let (v, e) := rangeCheck 16 satw x
  { dst := some v, excs := e.toList.map fun e => (e, dst) }

/-- The accumulator `n` of a unit. -/
def WordUnit.acc (u : WordUnit) (n : Nat) : Nat := if n = 0 then u.acc0 else u.acc1

/-- The two results of a complex instruction, 40-bit each (R103). -/
def cplxRes (sata : Bool) (x y : Int) : WRes :=
  let (v0, e0) := rangeCheck 40 sata x
  let (v1, e1) := rangeCheck 40 sata y
  { acc0 := some v0, acc1 := some v1, excs := (e0.toList.map fun e => (e, accCode 0)) ++ (e1.toList.map fun e => (e, accCode 1)) }

/-- The scalar operations of Table 52 on the values of SA and SB; none for an opcode that is not one of them. -/
def scalarOp (u : WordUnit) (x : WIns) (a b : Nat) : Option WRes :=
  let sa := sgn 16 a
  let sb := sgn 16 b
  let satw := bit u.mode 2
  let sata := bit u.mode 3
  let n := x.opc % 2
  let m := b % 16
  match x.opc with
  | 0x04 => some { dst := some a }
  | 0x05 => some (dstChecked satw x.dst (sa + sb))
  | 0x06 => some (dstChecked satw x.dst (sa - sb))
  | 0x07 => some (dstChecked satw x.dst (-sa))
  | 0x08 => some (dstChecked satw x.dst (if sa < 0 then -sa else sa))
  | 0x09 => some { dst := some (if sa < sb then a else b) }
  | 0x0A => some { dst := some (if sa < sb then b else a) }
  | 0x0B => some { dst := some (a &&& b) }
  | 0x0C => some { dst := some (a ||| b) }
  | 0x0D => some { dst := some (a ^^^ b) }
  | 0x0E => some (dstChecked satw x.dst (sa * (2 ^ m : Nat)))
  | 0x0F => some { dst := some (wrapN 16 (sa / (2 ^ m : Nat))) }
  | 0x10 => some { dst := some (a / 2 ^ m) }
  | 0x11 => some { dst := some (if sa < sb then 0xFFFF else 0) }
  | 0x12 => some { dst := some (if a < b then 0xFFFF else 0) }
  | 0x13 => some { dst := some (if a = b then 0xFFFF else 0) }
  | 0x14 => some { dst := some ((a + b) % 2 ^ 16), c := some (decide (2 ^ 16 ≤ a + b)) }
  | 0x15 => some { dst := some ((a + b + b2n u.c) % 2 ^ 16), c := some (decide (2 ^ 16 ≤ a + b + b2n u.c)) }
  | 0x16 => some { dst := some ((a + 2 ^ 16 - b) % 2 ^ 16), c := some (decide (a < b)) }
  | 0x17 => some { dst := some ((a + 2 ^ 17 - b - b2n u.c) % 2 ^ 16), c := some (decide (a < b + b2n u.c)) }
  | 0x20 | 0x21 => some (accRes n (wrapN 40 (sa * sb)))
  | 0x22 | 0x23 => some (accChecked n sata (sgn 40 (u.acc n) + sa * sb))
  | 0x24 | 0x25 => some (accChecked n sata (sgn 40 (u.acc n) - sa * sb))
  | 0x26 | 0x27 => some (accRes n (a * b))
  | 0x28 | 0x29 => some (accChecked n sata (sgn 40 (u.acc n) + (a * b : Nat)))
  | 0x30 | 0x31 => some (accRes n (wrapN 40 sa))
  | 0x32 | 0x33 => some (accRes n (wrapN 40 (sa * 65536)))
  | 0x34 | 0x35 => some (dstChecked satw x.dst (roundShift (u.mode % 4) (sgn 40 (u.acc n)) (x.imm % 64)))
  | 0x36 | 0x37 => some (accRes n (wrapN 40 (sgn 40 (u.acc n) / (2 ^ (x.imm % 64) : Nat))))
  | 0x38 | 0x39 =>
    if b = 0 ∨ b ≤ bits (u.acc n) 16 16 then some { accRes n 0xFFFF [(.dvf, accCode n)] with dh := some (n, true) }
    else some (accRes n (divStep (u.acc n) b))
  | 0x3A | 0x3B =>
    if (if n = 0 then u.dh0 else u.dh1) then some {}
    else if b = 0 then some { accRes n 0xFFFF [(.dvf, accCode n)] with dh := some (n, true) }
    else some { accRes n (divStep (u.acc n) b) with dh := none }
  | 0x3C | 0x3D => some (accRes n (u.acc (1 - n)))
  | _ => none

/-- Opcodes that read SA, SB, or write DST, by Table 52. -/
def usesA (opc : Nat) : Bool :=
  (decide (0x04 ≤ opc) && decide (opc ≤ 0x17)) || opc == 0x19 || (decide (0x20 ≤ opc) && decide (opc ≤ 0x33))
@[inherit_doc usesA] def usesB (opc : Nat) : Bool :=
  opc == 0x05 || opc == 0x06 || (decide (0x09 ≤ opc) && decide (opc ≤ 0x17)) || (decide (0x20 ≤ opc) && decide (opc ≤ 0x2F)) ||
  (decide (0x38 ≤ opc) && decide (opc ≤ 0x3B))
@[inherit_doc usesA] def usesD (opc : Nat) : Bool := (decide (0x04 ≤ opc) && decide (opc ≤ 0x17)) || opc == 0x34 || opc == 0x35
/-- The complex instructions. -/
def isCplx (opc : Nat) : Bool := decide (0x2A ≤ opc) && decide (opc ≤ 0x2D)
/-- FTAP. -/
def isFtap (opc : Nat) : Bool := opc == 0x2E || opc == 0x2F
/-- Opcodes that Table 52 lists. -/
def opcOk (opc : Nat) : Bool :=
  decide (opc ≤ 1) || (decide (0x04 ≤ opc) && decide (opc ≤ 0x19)) || (decide (0x20 ≤ opc) && decide (opc ≤ 0x3D))

/-- Every operand code the instruction uses is one Table 50 and R102 allow; otherwise it executes as WNOP (R477). -/
def codesOk (x : WIns) : Bool :=
  opcOk x.opc &&
  (if isCplx x.opc then cplxOk x.sa && cplxOk x.sb
   else if isFtap x.opc then srcOk x.sa && decide (0x20 ≤ x.sb) && decide (x.sb ≤ 0x23)
   else (!usesA x.opc || srcOk x.sa) && (!usesB x.opc || srcOk x.sb) && (!usesD x.opc || dstOk x.dst))

/-- The predicate of R94 holds, with `edge` the edge nets of the cycle. -/
def predHolds (x : WIns) (edge in1 : Nat) : Bool :=
  match x.pred with
  | 0 => true
  | 1 => bit edge x.psel
  | 2 => !bit edge x.psel
  | _ => bit in1 (x.psel % 16)

/-- Put a result into the unit: accumulators, C and divide hold (R103, R107). -/
def WordUnit.take (u : WordUnit) (r : WRes) : WordUnit :=
  { u with acc0 := r.acc0.getD u.acc0, acc1 := r.acc1.getD u.acc1, c := r.c.getD u.c,
           dh0 := match r.dh with | some (0, v) => v | _ => u.dh0,
           dh1 := match r.dh with | some (1, v) => v | _ => u.dh1 }

/-- One word instruction other than REP, its predicate true: new state and exceptions (R99-R107). -/
def WordUnit.operate (u : WordUnit) (x : WIns) (w in0 in1 : Nat) : WordUnit × List (Exc × Nat) :=
  if x.opc = 0x18 then
    let k := bits w 40 2
    ({ u with base := put4 u.base k (bits w 0 10), len := put4 u.len k (bits w 26 10 + 1), idx := put4 u.idx k 0 }, [])
  else if x.opc = 0 ∨ x.opc = 1 ∨ !codesOk x then (u, [])
  else if x.opc = 0x19 then
    let a := u.src in0 in1 x.imm x.sa
    let u' := u.stepIdx x.sa 1
    ({ u' with idx := put4 u'.idx x.dst (a % nth4 u.len x.dst) }, [])
  else if isCplx x.opc then
    let (ar, ai) := u.srcC in0 in1 x.sa
    let (br, bi) := u.srcC in0 in1 x.sb
    let a := sgn 16 ar; let b := sgn 16 ai; let c := sgn 16 br; let d := sgn 16 bi
    let sata := bit u.mode 3
    let p0 := sgn 40 u.acc0
    let p1 := sgn 40 u.acc1
    let r := match x.opc with
      | 0x2A => cplxRes sata (a * c - b * d) (a * d + b * c)
      | 0x2B => cplxRes sata (p0 + (a * c - b * d)) (p1 + (a * d + b * c))
      | 0x2C => cplxRes sata (a * c + b * d) (b * c - a * d)
      | _ => cplxRes sata (p0 + (a * c + b * d)) (p1 + (b * c - a * d))
    let u' := { u.take r with dh0 := false, dh1 := false }
    (((u'.stepIdx x.sa 2).stepIdx x.sb 2), r.excs)
  else if isFtap x.opc then
    let n := x.opc % 2
    let a := u.src in0 in1 x.imm x.sa
    let ix := nth4 u.idx x.sb
    let v := u.mem.at (u.addr x.sb ix)
    let r := accChecked n (bit u.mode 3) (sgn 40 (u.acc n) + sgn 16 a * sgn 16 v)
    let u' := u.take r
    let u' := { u' with mem := u'.mem.put (u.addr x.sb ((ix + 1) % nth4 u.len x.sb)) v }
    (((u'.stepIdx x.sa 1).stepIdx x.sb 1), r.excs)
  else
    let a := if usesA x.opc then u.src in0 in1 x.imm x.sa else 0
    let b := if usesB x.opc then u.src in0 in1 x.imm x.sb else 0
    match scalarOp u x a b with
    | none => (u, [])
    | some r =>
      let u' := u.take r
      let u' := if usesA x.opc then u'.stepIdx x.sa 1 else u'
      let u' := if usesB x.opc then u'.stepIdx x.sb 1 else u'
      let u' := match r.dst with
        | some v => if usesD x.opc then (u'.writeDst u.idx x.dst v).stepIdx x.dst 1 else u'
        | none => u'
      (u', r.excs)

/-- The sequencer at the end of a step (R97): REP pushes a level, a block's END branches back or pops. -/
def WordUnit.advance (u : WordUnit) (isRep : Bool) (w wpc : Nat) (stack : List (Nat × Nat × Nat)) : WordUnit :=
  let next := (wpc + 1) % 1024
  if isRep ∧ stack.length < 4 then { u with stack := (next, bits w 0 10, bits w 32 10 + 1) :: stack, wpc := next }
  else match stack with
    | (start, en, lc) :: rest =>
      if wpc = en then
        if 1 < lc then { u with stack := (start, en, lc - 1) :: rest, wpc := start } else { u with stack := rest, wpc := next }
      else { u with wpc := next }
    | [] => { u with wpc := next }

/-- One executed step of a word unit on word `w` (R93, R97-R100). -/
def WordUnit.step (u : WordUnit) (w in0 in1 edge : Nat) : WordUnit × List (Exc × Nat) :=
  let x := wIns w
  if x.opc = 1 then (u.advance true w u.wpc u.stack, [])
  else
    let (u', e) := if predHolds x edge in1 then u.operate x w in0 in1 else (u, [])
    (u'.advance false w u.wpc u.stack, e)

/-- The sequencer reset of every boundary (R97). -/
def WordUnit.reseq (u : WordUnit) : WordUnit := { u with wpc := 0, stack := [] }

end Sys2Proof.Machine
end

