-- ==== Sys2Proof/Machine/RunOps.lean ====
section
/-!
DEFINITION. Stopping an instance: the rows of Table 10 that precede a stop (R22), what a stop records (R35, R38, R41), faults (R35),
and the common stop cycle of a cascade instance (R280).
-/
namespace Sys2Proof.Machine

/-- Word units of instance `i`. -/
def Pkg.unitsOf (s : Pkg) (i : Nat) : List Nat := (s.regionsOf i).flatMap fun r => (List.range 32).map fun c => r * 32 + c

/-- Rows 1 and 2 of Table 10 for the cycle that step D - 1 has ended: the sample is taken, the cycle counts, and the sequencers of the
word units restart (R97). -/
def Pkg.endCycle (s : Pkg) (i : Nat) : Pkg :=
  let s := s.sample i (s.g .ARY_MCC i)
  let s := (s.inc .ARY_MCC i).updInst i fun x => { x with stalled := false, row := 4, stepLeft := x.stepLeft - 1 }
  let s := s.each (s.unitsOf i) fun s u => s.setWunit u (s.wunit u).reseq
  if s.b .DBG_INST_STAT_STEPPING i then s.p .DBG_INST_LEFT i (s.inst i).stepLeft else s

/-- The owner of a bank in range is not RUNNING any more: the bank takes up its state at once (R222, R224), and an output that waited for a launch
drives its last launched value. A thermal trip holds every cell disabled (R448). -/
def Pkg.banksRest (s : Pkg) (i : Nat) : Pkg :=
  if s.tripped then s
  else
    let s := { s with pins.mute := s.pins.mute.drop fun b => s.bankOwner b == some i }
    s.each ((List.range (s.part.model.dies * 4)).filter fun b => s.bankOwner b == some i && s.b .IOC_BANK_STAT_VOK b) fun s b =>
      s.p .IOC_BANK_STAT_ENABLED b 1

/-- Enter PAUSED, FROZEN or FAULTED with a cause (R35, R38, R41): the other pending conditions are discarded, the pending
bits clear, a snapshot is taken, debug HOLD follows the cause (R426), and a fault ends the capture (R309). A stop that finds step D - 1
executed and the boundary still to come is one at row 3 of it: rows 1 and 2 come first (R22, R38). -/
def Pkg.enterStop (s : Pkg) (i : Nat) (st : RunState) (c : Cause) (mid : Bool) : Pkg :=
  let s := if s.runState i = .running ∧ (s.inst i).row = 1 then s.endCycle i else s
  let s := if s.traced = some i then { s with trc.frzReq := false } else s
  let s := s.updInst i fun x => { x with pend := [], latePorts := [], lateLinks := [], lateTx := [], stepLeft := 0, cascCause := none, stopNow := false }
  let s := s.ps [(.ARY_RUN_STAT_STATE, i, st.code), (.ARY_RUN_STAT_STOP_CAUSE, i, c.code), (.ARY_RUN_STAT_MID_CYCLE, i, b2n mid),
    (.ARY_RUN_STAT_STALLING, i, 0), (.ARY_RUN_STAT_STALL_CAUSE, i, 0), (.ARY_RUN_STAT_HOLDING, i, 0),
    (.ARY_RUN_STAT_PAUSE_PEND, i, 0), (.ARY_RUN_STAT_FREEZE_PEND, i, 0), (.WU_INST_EXC_FRZ_REQ, i, 0),
    (.TRN_INST_STAT_FRZ_REQ, i, 0), (.DBG_INST_STAT_FRZ_PEND, i, 0), (.DBG_INST_STAT_STEPPING, i, 0), (.DBG_INST_LEFT, i, 0),
    (.DBG_INST_STAT_HOLD, i, b2n (st == .frozen && c == .debug))]
  let s := s.banksRest i
  let s := if st = .faulted then (s.traceEnd i 4).flood i c.code else s
  let s := if mid then s else s.each (s.handoversOf i) Pkg.handoverDone
  (s.snapshot i).runStateEvent i

/-- An instance becomes FAULTED for a cause, from the states Table 15 gives: RUNNING at the current step; PAUSED or FROZEN for
any cause but CALL_TIMEOUT; LOADED for ENGINE_FAULT alone. In any other state nothing happens. -/
def Pkg.fault (s : Pkg) (i : Nat) (c : Cause) : Pkg :=
  match s.runState i with
  | .running => s.enterStop i .faulted c ((s.inst i).row == 0 && (s.inst i).step != 0)
  | .paused | .frozen => if c = .callTimeout then s else s.enterStop i .faulted c (s.b .ARY_RUN_STAT_MID_CYCLE i)
  | .loaded => if c = .engineFault then s.enterStop i .faulted c false else s
  | _ => s

/-- A package takes the common stop cycle: it writes ARY_STOP_AT and sets STOP_AT_EN; a cycle already reached makes its part
FAULTED with ENGINE_FAULT (R280). -/
def Pkg.takeStopAt (s : Pkg) (i cycle cause : Nat) : Pkg :=
  if cycle ≤ s.g .ARY_MCC i then s.fault i .engineFault else s.setStopAt i cycle cause

end Sys2Proof.Machine
end

