-- ==== Sys2Proof/Machine/QueueOps.lean ====
section
/-!
DEFINITION. Decoupling queue ports inside a step and on return (R146-R157).
-/
namespace Sys2Proof.Machine

/-- Entry states of Table 75. -/
inductive EntState where
  | free | held | pend | done
deriving DecidableEq, Repr

/-- State of an entry of a port. -/
def QPort.ent (q : QPort) (e : Nat) : EntState :=
  match q.st.at e with
  | 0 => .free | 1 => .held | 2 => .pend | _ => .done

/-- Put an entry in a state. -/
def QPort.setEnt (q : QPort) (e : Nat) (x : EntState) : QPort := { q with st := q.st.put e x.ctorIdx }

/-- Finish an entry with a word. -/
def QPort.doneWith (q : QPort) (e v : Nat) : QPort := { (q.setEnt e .done) with word := q.word.put e v }

/-- Requests a port may have in flight (R150). -/
def maxFly : Nat := 128

/-- Word `n` of descriptor `d` of port `k`. -/
def Pkg.descWord (s : Pkg) (k d n : Nat) : Nat := s.que.desc.at ((k * 64 + d) * 2 + n)

/-- An issue supersedes what the entry holds (R150): a HELD request is cancelled unsent, a PEND one becomes an orphan. -/
def Pkg.supersede (s : Pkg) (k e : Nat) : Pkg :=
  let q := s.qport k
  match q.ent e with
  | .held => (s.setQport k { q with held := q.held.filter fun r => r.entry != e }).inc .QUE_CANCELLED k
  | .pend => (s.setQport k { q with fly := q.fly.map fun r => if r.entry = e then { r with orphan := true } else r }).p .QUE_STAT_ORPHAN k 1
  | _ => s

/-- Post a formed request (R150): sent at once below 128 in flight, otherwise HELD. -/
def Pkg.post (s : Pkg) (k : Nat) (r : QReq) : Pkg :=
  let q := s.qport k
  if q.fly.length < maxFly then s.setQport k { (q.setEnt r.entry .pend) with fly := q.fly ++ [r] }
  else s.setQport k { (q.setEnt r.entry .held) with held := q.held ++ [r] }

/-- An issue is skipped (R148): the entry becomes DONE with 0. -/
def Pkg.skipIssue (s : Pkg) (k e : Nat) (range : Bool) : Pkg :=
  let s := s.setQport k ((s.qport k).doneWith e 0)
  (s.inc .QUE_SKIPPED k).p (if range then .QUE_STAT_SKIP_RANGE else .QUE_STAT_SKIP_INV) k 1

/-- Bytes of an instance's slice (R145). -/
def Pkg.sliceBytes (s : Pkg) (i : Nat) : Nat := s.g .QUE_INST_CFG i * segBytes

/-- A QISSUE through port `k`, entry `e`, descriptor `d`, with the clusters' export lines given by `lines` (value and whether
all 16 are valid) (R147, R148). One with an invalid line is skipped for that alone, wherever its address lies (DESIGN CHOICE: R148 sets
SKIP_INV or SKIP_RANGE and no order of them). -/
def Pkg.issue (s : Pkg) (i k e d : Nat) (lines : Nat → Nat × Bool) : Pkg :=
  let w0 := s.descWord k d 0
  let w1 := s.descWord k d 1
  let s := (s.inc .QUE_ISSUED k).supersede k e
  let il := if bit w0 39 then lines (bits w0 40 5) else (0, true)
  let ih := if bit w0 45 then lines (bits w0 46 5) else (0, true)
  let ds := if bit w1 20 then (List.range 4).map fun n => lines (bits w1 (5 * n) 5) else []
  let index := il.1 + 65536 * ih.1
  let g := bits w0 0 35 + index * 2 ^ bits w0 35 4
  let kind := bits w0 51 2
  let data := ds.foldr (fun x v => x.1 + 65536 * v) 0
  if kind = 3 ∨ !(il.2 && ih.2 && ds.all fun x => x.2) then s.skipIssue k e false
  else if s.sliceBytes i ≤ 8 * g then s.skipIssue k e true
  else s.post k { entry := e, kind := kind, addr := 8 * g, data := data, inst := i, num := s.g .QUE_ISSUED k }

/-- The memory half of a request (R148): READ, WRITE or ADD on the 64-bit word; the result word. -/
def Pkg.memPerform (s : Pkg) (r : QReq) : Nat × Pkg :=
  let old := leNat (s.sliceRead r.inst r.addr 8)
  match r.kind with
  | 1 => (0, s.sliceWrite r.inst r.addr (leBytes r.data 8))
  | 2 => (old, s.sliceWrite r.inst r.addr (leBytes ((old + r.data) % 2 ^ 64) 8))
  | _ => (old, s)

/-- Send the oldest HELD requests as room allows (R150). -/
def Pkg.sendHeld (s : Pkg) (k : Nat) : Pkg :=
  let q := s.qport k
  match q.held with
  | r :: rest => if q.fly.length < maxFly then s.setQport k { (q.setEnt r.entry .pend) with held := rest, fly := q.fly ++ [r] } else s
  | [] => s

/-- Put a port's entries back to the image's (R146). -/
def Pkg.restoreEntries (s : Pkg) (k : Nat) : Pkg :=
  let l := s.que.init.range (k * 64) (k * 64 + 64)
  let q := s.qport k
  s.setQport k (l.foldl (fun q e => q.doneWith (e.1 - k * 64) (e.2 % 2 ^ 64)) { q with st := [], word := [] })

/-- Purge a port for a reset or unload (Table 79): HELD requests end at once, those in flight drain into a sink, and every entry is FREE. -/
def Pkg.purgePort (s : Pkg) (k : Nat) : Pkg :=
  let q := s.qport k
  let s := s.inc .QUE_PURGED k q.held.length
  s.setQport k { q with st := [], word := [], held := [], fly := q.fly.map fun r => { r with sink := true } }

/-- Counters of Table 81 that return to 0 when a reset's drain ends (Table 79). -/
def Pkg.zeroQueue (s : Pkg) (k : Nat) : Pkg :=
  let l := queSnapFields
  let s := s.each l fun s f => (s.p f k 0).psnap f k 0
  let s := ((s.psnap .QUE_LEVEL_INFLIGHT k 0).psnap .QUE_LEVEL_INFLIGHT_CUR k 0).psnap .QUE_LEVEL_HELD k 0
  s.each (List.range 64) fun s e => s.psnap .QUE_ENT_STAT (k * 64 + e) 0

/-- Where a request's result goes when it returns well (R149, R150, R157). A latency that PERIODS cannot hold shows as a free value: Table 81
states none for it. -/
def Pkg.deliver (s : Pkg) (k : Nat) (r : QReq) (v lat : Nat) : Pkg :=
  if r.sink then s.inc .QUE_PURGED k
  else if r.orphan then s.inc .QUE_ORPHANED k
  else
    let s := s.setQport k ((s.qport k).doneWith r.entry v)
    let (lat, s) := if lat < 2 ^ 32 then (lat, s) else s.draw 32
    let s := (s.inc .QUE_COMPLETED k).p .QUE_LAT_LAST k lat
    if s.g .QUE_LAT_MAX k < lat then s.p .QUE_LAT_MAX k lat else s

/-- A request of an instance ends uncorrectable (R155). -/
def Pkg.uncorrectable (s : Pkg) (k : Nat) (r : QReq) : Pkg :=
  let q := s.qport k
  let s := if r.orphan ∨ r.sink then s else s.setQport k { (q.setEnt r.entry .free) with word := q.word.put r.entry 0 }
  let s := s.inc .QUE_UNCORR k
  let s := if s.b .QUE_INST_ERR r.inst then s else s.p .QUE_INST_UE_ADDR r.inst r.addr
  let s := s.p .QUE_INST_ERR r.inst 1
  if r.sink then s else s.fault r.inst .hbmUncorr

end Sys2Proof.Machine
end

