-- ==== Sys2Proof/Machine/QueueCmds.lean ====
section
/-!
DEFINITION. HBM accesses outside a step (R144, R149-R155): requests sent and returned, patrol scrub, access windows and segment owners.
-/
namespace Sys2Proof.Machine

/-! ## Access windows (R154) -/

/-- Classes of accesses that share a controller. -/
inductive HbmClass where
  | que | trc | svc
deriving DecidableEq, Repr

/-- Key of the pseudo-channel that holds byte `a` of the HBM key space: consecutive 256-byte blocks lie on the stack's 32
pseudo-channels in turn (R144). -/
def pcOf (a : Nat) : Nat := a / stackBytes * 32 + a % stackBytes / 256 % 32

/-- Accesses used in the present window of pseudo-channel `pc` (numbered stack*32 + channel). -/
def Pkg.windowUsed (s : Pkg) (pc : Nat) : Nat := s.que.shares.at (pc * 3) + s.que.shares.at (pc * 3 + 1) + s.que.shares.at (pc * 3 + 2)

/-- Grants TRC_MIN and SVC_MIN in force on a pseudo-channel; 24 and 4 until first changed. -/
def Pkg.grants (s : Pkg) (pc : Nat) : Nat × Nat :=
  match s.que.grant.at pc with
  | 0 => (24, 4)
  | v => (v % 64, v / 64 % 64)

/-- A new window begins on a pseudo-channel: its shares start again and the values last written to QUE_HBM_CFG apply to it. -/
def Pkg.accessWindow (s : Pkg) (stack pc : Nat) : Pkg :=
  if stack < s.part.model.stacks ∧ pc < 32 then
    let k := stack * 32 + pc
    let v := s.g .QUE_HBM_CFG_TRC_MIN stack + 64 * s.g .QUE_HBM_CFG_SVC_MIN stack + 4096
    { s with que.shares := ((s.que.shares.put (k * 3) 0).put (k * 3 + 1) 0).put (k * 3 + 2) 0
             que.grant := s.que.grant.put k (if v = 24 + 64 * 4 + 4096 then 0 else v) }
  else s

/-- One 32-byte access of a class counts in the present window of its pseudo-channel; the sixty-fifth begins the next window. Whose access
comes next is told by the order of the commands. -/
def Pkg.useAccess (s : Pkg) (a : Nat) (c : HbmClass) : Pkg :=
  let s := if s.windowUsed (pcOf a) < 64 then s else s.accessWindow (pcOf a / 32) (pcOf a % 32)
  let k := pcOf a * 3 + c.ctorIdx
  { s with que.shares := s.que.shares.put k (s.que.shares.at k + 1) }

/-- The accesses of a class that `n` slice bytes from `a` on take, one for each 32-byte block (R154). -/
def Pkg.useSlice (s : Pkg) (i a n : Nat) (c : HbmClass) : Pkg :=
  s.each (List.range ((a % 32 + n + 31) / 32)) fun s k =>
    match s.sliceAddr i (a / 32 * 32 + 32 * k) with
    | some x => s.useAccess x c
    | none => s

/-! ## Returns (R149, R151, R155) -/

/-- A block of stack `j` is found uncorrectable at byte `a` of the stack. -/
def Pkg.hbmUe (s : Pkg) (j a : Nat) : Pkg := (s.inc .QUE_HBM_UE j).p .QUE_HBM_UE_LOG j (a / 32 * 32)

/-- The ECC counts of an access at key `a`. -/
def Pkg.eccCount (s : Pkg) (a : Nat) (e : Ecc) : Pkg :=
  match e with
  | .clean => s
  | .corrected => s.incSat .QUE_HBM_CE (a / stackBytes)
  | .uncorrectable => s.hbmUe (a / stackBytes) (a % stackBytes)

/-- Request `n` of those in flight on port `k` is performed and returns `lat` step periods after its issue. An older request of the port
for the same 32-byte block, sent or HELD, is performed first, so until it has returned this one cannot (R151). A WRITE or ADD that ends
uncorrectable leaves memory as it was (DESIGN CHOICE: R155 says only that it ends without result). -/
def Pkg.resultReturn (s : Pkg) (k n lat : Nat) (e : Ecc) : Pkg :=
  let q := s.qport k
  match q.fly[n]? with
  | none => s
  | some r =>
    if (q.fly ++ q.held).any fun x => decide (x.num < r.num) && x.inst == r.inst && x.addr / 32 == r.addr / 32 then s
    else
      let s := s.setQport k { q with fly := q.fly.eraseIdx n }
      let a := (s.sliceAddr r.inst r.addr).getD 0
      let s := (s.useAccess a .que).eccCount a e
      match e with
      | .uncorrectable => s.uncorrectable k r
      | _ =>
        let (v, s) := s.memPerform r
        s.deliver k r v lat

/-- Patrol scrub reads the block at byte `a` of stack `j` (R155): an uncorrectable block is logged and changes no run state. -/
def Pkg.patrol (s : Pkg) (j a : Nat) (e : Ecc) : Pkg :=
  if j < s.part.model.stacks ∧ a < stackBytes then (s.useAccess (j * stackBytes + a) .svc).eccCount (j * stackBytes + a) e else s

/-! ## Segment owners (R144) -/

/-- Segments 0 to 7 of stack 0 are the reserved area. -/
def reservedSeg (k : Nat) : Bool := decide (k < 8)

/-- A write of QUE_SEG_OWN for segment `k` = stack*144 + segment: the cause of its refusal (Table 161), or none. -/
def Pkg.segOwnRefuse (s : Pkg) (init k kind : Nat) : Option Nat :=
  if init ≠ 0 then some 4
  else if reservedSeg k && kind != 4 then some 4
  else if k < s.part.model.stacks * 144 then none else some 1

/-- The owner of a segment changes. -/
def Pkg.segOwnSet (s : Pkg) (k kind inst : Nat) : Pkg := s.ps [(.QUE_SEG_OWN_KIND, k, kind), (.QUE_SEG_OWN_INST, k, inst)]

end Sys2Proof.Machine
end

