-- ==== Sys2Proof/Machine/BoundaryIO.lean ====
section
/-!
DEFINITION. Boundary I/O cells (R218-R234): what a cell drives (Table 117), its sample, its launch, bank supplies and the
boundary-scan TAP. A pad level is 0 for none, 1 for low, 2 for high.
-/
namespace Sys2Proof.Machine

/-- Level of a bit. -/
def lvl (x : Bool) : Nat := if x then 2 else 1

/-- Cells of instance `i`, as package cell numbers. -/
def Pkg.cellsOf (s : Pkg) (i : Nat) : List Nat :=
  ((List.range (s.part.model.dies * 4)).filter fun b => s.bankOwner b == some i).flatMap fun b => (List.range 32).map fun n => b * 32 + n

/-- What a cell's launch and enable registers drive in its mode (Table 113). -/
def Pkg.launchLevel (s : Pkg) (c : Nat) : Nat :=
  let v := s.b .IOC_CELL_STAT_VAL c
  match s.g .IOC_CELL_CFG_MODE c with
  | 2 => lvl v
  | 3 | 4 => if s.b .IOC_CELL_STAT_OE c then lvl v else 0
  | 5 => if v then 0 else 1
  | _ => 0

/-- Opcodes of Table 123 under which the boundary-scan register drives the cells. -/
def scanDrives (ir : Nat) : Bool := ir == 0 || ir == 4

/-- The level a cell drives on its pad now, by the first row of Table 117 that applies. -/
def Pkg.driven (s : Pkg) (c : Nat) : Nat :=
  let bank := c / 32
  if s.part.bscanCe then
    if s.pins.supply.at bank = 1 ∧ scanDrives (s.g .IOC_SCAN_STAT_IR (c / 128)) ∧ s.pins.bsr.at (3 * c + 2) = 1
    then lvl (s.pins.bsr.at (3 * c + 1) == 1) else 0
  else if !s.b .IOC_BANK_STAT_ENABLED bank ∨ s.pins.mute.at bank = 1 then 0
  else match s.bankOwner bank with
    | none => 0
    | some i =>
      if !(s.inst i).launched then 0
      else match s.runState i with
        | .running | .paused | .frozen => s.launchLevel c
        | .faulted => if s.b .ARY_CTRL_FAULT_IO_OFF i then 0 else s.launchLevel c
        | _ => 0

/-- The cell is disabled (rows 2 and 3): it samples 0 and its keeper and pull are off. -/
def Pkg.cellOff (s : Pkg) (c : Nat) : Bool := !s.b .IOC_BANK_STAT_ENABLED (c / 32) || s.g .IOC_CELL_CFG_MODE c == 0

/-- The environment drives new levels outside cells; a driven pad's level is kept for the keeper. -/
def Pkg.setPads (s : Pkg) (l : List (Nat × Nat)) : Pkg :=
  { s with pins.pad := l.foldl (fun m e => m.put e.1 (e.2 % 3)) s.pins.pad
           pins.kept := l.foldl (fun m e => if e.2 % 3 = 0 then m else m.put e.1 (e.2 % 3)) s.pins.kept }

/-- Level on a pad that the cell drives at `own`: the driver's, the environment's when they agree or the cell drives nothing; on
an undriven pad what the pull or the keeper holds; none where it is not defined (R220, R225, R228). -/
def Pkg.padLevel (s : Pkg) (c own : Nat) : Option Nat :=
  let ext := s.pins.pad.at c
  if own ≠ 0 then (if ext = 0 ∨ ext = own then some own else none)
  else if ext ≠ 0 then some ext
  else if s.g .IOC_CELL_CFG_PULL c = 1 then some 2
  else if s.g .IOC_CELL_CFG_PULL c = 2 then some 1
  else if s.b .IOC_CELL_CFG_KEEPER c ∧ s.pins.kept.at c ≠ 0 then some (s.pins.kept.at c)
  else none

/-- Sample of one cell at a boundary (R223, R225): a free value where the level is not defined or the last launch, one boundary
old, may or may not show yet. -/
def Pkg.sampleCell (s : Pkg) (c : Nat) : Bool × Pkg :=
  if s.cellOff c then (false, s)
  else
    let own := s.driven c
    match s.padLevel c own, s.padLevel c (s.pins.old.at c) with
    | some x, some y => if x = y then (x == 2, s) else free s
    | _, _ => free s
where
  /-- One free bit. -/
  free (s : Pkg) : Bool × Pkg := let (v, s) := s.draw 1; (v == 1, s)

/-- The level a cell drives is kept for its keeper (R220). -/
def Pkg.keepDriven (s : Pkg) (c : Nat) : Pkg :=
  let own := s.driven c
  if own = 0 then s else { s with pins.kept := s.pins.kept.put c own }

/-- Row 7 of Table 10: every cell of the instance samples its pad. -/
def Pkg.sampleInputs (s : Pkg) (i : Nat) : Pkg :=
  let mine := fun c => s.bankOwner (c / 32) == some i
  let prev : NStore := Store.setAll 0 (Store.drop s.fab.ibPrev mine) (s.fab.ibNow.filter fun e => mine e.1)
  let s := { s with fab.ibPrev := prev }
  s.each (s.cellsOf i) fun s c =>
    let (v, s) := s.sampleCell c
    let own := s.driven c
    ({ s with fab.ibNow := s.fab.ibNow.put c (2 + b2n v), pins.old := s.pins.old.put c own }.keepDriven c).pb .IOC_CELL_STAT_PAD c v

/-- A line that carried a valid bit. -/
def lineBit (v : Nat) : Option Bool := if v < 2 then none else some (v == 3)

/-- The value a cell launches: the last valid bit of its OCV line; OCV fields of IN and OFF cells have no effect (Table 113). -/
def Pkg.launchVal (s : Pkg) (c : Nat) : Bool :=
  let old := s.b .IOC_CELL_STAT_VAL c
  if s.g .IOC_CELL_CFG_MODE c < 2 then old else (lineBit (s.fab.ocv.at c)).getD old

/-- The enable a cell launches with: its OCE line in TRI and BIDIR; always 1 in OUT; the value itself in OD, where 0 drives (Table 113).
DEDUCED. -/
def Pkg.launchEn (s : Pkg) (c : Nat) (v : Bool) : Bool :=
  let old := s.b .IOC_CELL_STAT_OE c
  match s.g .IOC_CELL_CFG_MODE c with
  | 2 => true
  | 3 | 4 => (lineBit (s.fab.oce.at c)).getD old
  | 5 => !v
  | _ => old

/-- Launch at step D - 2 (R226): launch and enable registers take the last valid bits delivered; banks that waited drive again. -/
def Pkg.launch (s : Pkg) (i : Nat) : Pkg :=
  let s := { s with pins.mute := s.pins.mute.drop fun b => s.bankOwner b == some i }.updInst i fun x => { x with launched := true }
  s.each (s.cellsOf i) fun s c =>
    let v := s.launchVal c
    ((s.pb .IOC_CELL_STAT_VAL c v).pb .IOC_CELL_STAT_OE c (s.launchEn c v)).keepDriven c

/-- Row 4 of Table 117, at load and at instance reset: launch and enable registers take INIT and INIT_EN, nothing has launched. -/
def Pkg.cellsInit (s : Pkg) (i : Nat) : Pkg :=
  let s := s.each (s.cellsOf i) Pkg.keepDriven
  let s := s.updInst i fun x => { x with launched := false }
  let s := if s.runState i = .loading ∨ s.runState i = .unloaded then s else s.banksRest i
  s.each (s.cellsOf i) fun s c =>
    { s with fab.ocv := s.fab.ocv.put c 0, fab.oce := s.fab.oce.put c 0, pins.old := s.pins.old.put c 0 }.ps
      [(.IOC_CELL_STAT_VAL, c, s.g .IOC_CELL_CFG_INIT c), (.IOC_CELL_STAT_OE, c, s.g .IOC_CELL_CFG_INIT_EN c)]

/-! ## Bank supplies (R222) -/

/-- A supply leaves its range: the bank is disabled; an owned bank shows VFAULT, counts and notifies its management processor, which reports it. -/
def Pkg.supplyFault (s : Pkg) (b : Nat) : Pkg :=
  let s := s.each ((List.range 32).map fun n => b * 32 + n) Pkg.keepDriven
  let s := { s with pins.supply := s.pins.supply.put b 0 }
  if s.b .IOC_BANK_STAT_VOK b then
    let s := (s.ps [(.IOC_BANK_STAT_VOK, b, 0), (.IOC_BANK_STAT_ENABLED, b, 0), (.IOC_BANK_STAT_VFAULT, b, 1)]).incSat .IOC_BANK_VFAULT_CNT b
    s.notify (b / 4) .supply b
  else s

/-- The bank takes up its owner's state again: a RUNNING owner's outputs wait for the next launch. A thermal trip holds every cell disabled
(R448). -/
def Pkg.bankEnable (s : Pkg) (b : Nat) (running : Bool) : Pkg :=
  if s.tripped then s else
  let s := s.p .IOC_BANK_STAT_ENABLED b 1
  if running then { s with pins.mute := s.pins.mute.put b 1 } else s

/-- A supply has been in its range for 1 ms: VOK for an owned bank; ENABLED at once unless the owner is RUNNING, UNLOADED or
LOADING. -/
def Pkg.supplyBack (s : Pkg) (b : Nat) : Pkg :=
  let s := { s with pins.supply := s.pins.supply.put b 1 }
  match s.bankOwner b with
  | none => s
  | some i =>
    if s.g .IOC_BANK_CFG_VIO b = 0 then s
    else
      let s := s.p .IOC_BANK_STAT_VOK b 1
      match s.runState i with
      | .running | .unloaded | .loading => s
      | _ => s.bankEnable b false

/-- Banks of a RUNNING owner that are in range take up its state at its boundary. -/
def Pkg.banksBoundary (s : Pkg) (i : Nat) : Pkg :=
  s.each ((List.range (s.part.model.dies * 4)).filter fun b =>
    s.bankOwner b == some i && s.b .IOC_BANK_STAT_VOK b && !s.b .IOC_BANK_STAT_ENABLED b) fun s b => s.bankEnable b true

/-! ## Boundary scan (R232-R234) -/

/-- IDCODE of the boundary-scan TAP and the debug TAP (R233). -/
def Pkg.idcode (s : Pkg) : Nat :=
  let part := match s.part.model with | .gl2 => 0x6C02 | .gl4 => 0x6C04 | .gl8 => 0x6C08
  s.part.stepping % 16 * 2 ^ 28 + part * 2 ^ 12 + Config.manufacturerId % 2 ^ 11 * 2 + 1

/-- What the instruction register of the boundary-scan TAP captures (R233). -/
def irCapture : Nat := 1

/-- Data register of the boundary-scan TAP (Table 123). -/
inductive TapReg where
  | bscan | idcode | bypass
deriving DecidableEq, Repr

/-- The register an opcode selects: with BSCAN_CE low every one but IDCODE selects the bypass register (R232); an opcode that Table 123 does not give
acts as BYPASS. -/
def Pkg.tapReg (s : Pkg) (ir : Nat) : TapReg :=
  if ir = 1 then .idcode else if s.part.bscanCe ∧ (ir = 0 ∨ ir = 2) then .bscan else .bypass

/-- The boundary-scan TAP shifts an opcode in, its instruction register having captured `irCapture`, and then captures the register it selects:
IDCODE its word, the bypass register 0 (as IEEE 1149.1 has it: PRESUMED); the boundary-scan register has its own capture. -/
def Pkg.scanIR (s : Pkg) (ir : Nat) : Pkg :=
  let s := s.each (List.range s.part.model.dies) fun s d => s.p .IOC_SCAN_STAT_IR d ir
  { s with pins := { s.pins with irOut := irCapture, dr := if s.tapReg ir = .idcode then s.idcode else 0 } }

/-- The pads captured into the boundary-scan register: bit 3n (R234). A pad whose level is not defined captures a free value. -/
def Pkg.scanCapture (s : Pkg) : Pkg :=
  s.each (List.range (s.part.model.dies * 128)) fun s c =>
    match s.padLevel c (s.driven c) with
    | some x => { s with pins.cap := s.pins.cap.put c (b2n (x == 2)) }
    | none => let (v, s) := s.draw 1; { s with pins.cap := s.pins.cap.put c v }

/-- The boundary-scan register updates with shifted-in values, as pairs of a bit number and its bit. -/
def Pkg.scanUpdate (s : Pkg) (l : List (Nat × Nat)) : Pkg :=
  { s with pins.bsr := l.foldl (fun m e => if e.1 % 3 = 0 then m else m.put e.1 (e.2 % 2)) s.pins.bsr }

end Sys2Proof.Machine
end

