-- ==== Sys2Proof/Machine/CaveOps.lean ====
section
/-!
DEFINITION. Cave banks inside a step (R122-R134): the access a port takes, its array step, collisions, read lines, ownership.
-/
namespace Sys2Proof.Machine

/-- Owner of a bank: an instance or a non-instance KIND (R132). -/
inductive BankOwner where
  | inst (i : Nat)
  | firmware
  | whey
  | hostDma
deriving DecidableEq, Repr

/-- Owner of a KIND and INST pair. -/
def BankOwner.of (kind inst : Nat) : BankOwner :=
  match kind with
  | 0 => .inst inst
  | 1 => .firmware
  | 2 => .whey
  | _ => .hostDma

/-- The owner of a bank now: while a handover waits, the previous one (R133). -/
def Pkg.bankOwn (s : Pkg) (b : Nat) : BankOwner :=
  match s.cav.oldOwn.at b with
  | 0 => BankOwner.of (s.g .CAV_OWN_KIND b) (s.g .CAV_OWN_INST b)
  | v => BankOwner.of (v / 16 % 4) (v % 16)

/-- Set a bank's owner at once. -/
def Pkg.setBankOwn (s : Pkg) (b kind inst : Nat) : Pkg :=
  { s with cav.oldOwn := s.cav.oldOwn.put b 0 }.ps [(.CAV_OWN_KIND, b, kind), (.CAV_OWN_INST, b, inst), (.CAV_OWN_PEND, b, 0)]

/-- Accesses of bank `b` taken but not yet performed are discarded and counted (Table 67). -/
def Pkg.dropTaken (s : Pkg) (b : Nat) : Pkg :=
  let gone := s.cav.pipe.filter fun a => a.port / 2 == b
  let s := { s with cav.pipe := s.cav.pipe.filter fun a => a.port / 2 != b }
  (s.incSat .CAV_DROP_CNT b gone.length).each gone fun s a => s.incSat .CAV_INST_DROP_CNT a.inst

/-- A bank of an instance reverts to the firmware (R135). -/
def Pkg.revertBank (s : Pkg) (b : Nat) : Pkg := (s.dropTaken b).setBankOwn b 1 0

/-- A cave word. -/
def Pkg.caveWord (s : Pkg) (b a : Nat) : Nat := s.cav.mem.at (b * 16384 + a)
/-- Write a cave word. -/
def Pkg.setCaveWord (s : Pkg) (b a v : Nat) : Pkg := { s with cav.mem := s.cav.mem.put (b * 16384 + a) (v % 2 ^ 16) }

/-- Width code of a port (CAV_PORT_CFG, R131). -/
def Pkg.portW (s : Pkg) (k : Nat) : Nat :=
  16 / 2 ^ (if k % 2 = 0 then s.g .CAV_PORT_CFG_WIDTH_A (k / 2) else s.g .CAV_PORT_CFG_WIDTH_B (k / 2))

/-- The port has a busy line (R129). -/
def Pkg.hasBusy (s : Pkg) (k : Nat) : Bool :=
  s.portW k != 16 || (if k % 2 = 0 then s.b .CAV_PORT_CFG_BUSY15_A (k / 2) else s.b .CAV_PORT_CFG_BUSY15_B (k / 2))

/-- The new word of an access on the old one at lane width `w` (R130, R131). -/
def caveNew (w : Nat) (a : CaveAcc) (old : Nat) : Nat :=
  let sh := w * a.lane
  let cur := bits old sh w
  let v := match a.op with
    | 1 => a.data % 2 ^ w
    | 2 => (cur + a.data) % 2 ^ w
    | 3 => a.data % 2 ^ w
    | _ => cur
  old - cur * 2 ^ sh + v * 2 ^ sh

/-- Put read lines after an access: data bits for a READ or atomic, the busy bit wherever the port has one (R126, R129). -/
def Pkg.setLines (s : Pkg) (k : Nat) (data : Option Nat) (busy : Bool) : Pkg :=
  let cur := s.cav.lines.at k
  let hb := s.hasBusy k
  let v := match data with
    | some x => 65536 + (if hb then x % 2 ^ 15 + b2n busy * 2 ^ 15 else x % 2 ^ 16)
    | none => if cur < 65536 then cur else if hb then 65536 + cur % 2 ^ 15 + b2n busy * 2 ^ 15 else cur
  { s with cav.lines := s.cav.lines.put k v }

/-- A write-type access. -/
def CaveAcc.writes (a : CaveAcc) : Bool := a.op != 0

/-- Perform the accesses both ports of one bank took in one step (R125, R127-R130): port A then port B; a collision leaves
undefined read data, counts, and gives port B CAVE_BUSY. -/
def Pkg.cavePerform (s : Pkg) (b : Nat) (l : List CaveAcc) : Pkg :=
  let perf := (l.filter fun a => a.perf && a.port % 2 == 0) ++ (l.filter fun a => a.perf && a.port % 2 == 1)
  let coll := match perf with
    | [x, y] => x.addr == y.addr && (x.writes || y.writes)
    | _ => false
  let old := perf.map fun a => s.caveWord b a.addr
  let s := s.each perf fun s a =>
    if a.writes then s.setCaveWord b a.addr (caveNew (s.portW a.port) a (s.caveWord b a.addr)) else s
  let s := s.each (perf.zip old) fun s (a, o) =>
    let w := s.portW a.port
    if a.op = 1 then s.setLines a.port none (coll && a.port % 2 == 1)
    else if coll then
      let (v, s) := s.draw 16
      s.setLines a.port (some (v % 2 ^ w)) (a.port % 2 == 1)
    else s.setLines a.port (some (bits o (w * a.lane) w)) false
  let s := s.each (l.filter fun a => !a.perf) fun s a => s.setLines a.port none false
  if coll then
    let s := s.incSat .CAV_BUSY_CNT b
    match l.head? with
    | some a => s.incSat .CAV_INST_BUSY_CNT a.inst
    | none => s
  else s

/-- The array step of every access instance `i` took in its previous step. -/
def Pkg.cavesPerform (s : Pkg) (i : Nat) : Pkg :=
  let mine := s.cav.pipe.filter fun a => a.inst == i
  let s := { s with cav.pipe := s.cav.pipe.filter fun a => a.inst != i }
  let banks : NStore := mine.foldl (fun m a => m.put (a.port / 2) 1) []
  s.each banks fun s e => s.cavePerform e.1 (mine.filter fun a => a.port / 2 == e.1)

/-- A port takes the access its groups carry (R123, R124, R134). A group is none when its PGS field is disabled; otherwise its
16 bits and whether all of them are valid. -/
def Pkg.caveTake (s : Pkg) (i k : Nat) (ga gd : Option (Nat × Bool)) : Pkg :=
  match ga with
  | some (ac, true) =>
    let op := bits ac 14 2
    let w := s.portW k
    let needs := op != 0 || w != 16
    let dOk := match gd with | some (_, true) => true | _ => false
    let d := match gd with | some (v, _) => v | none => 0
    let acc : CaveAcc := { port := k, inst := i, addr := bits ac 0 14, op := op, data := d % 2 ^ w,
                           lane := bits d 12 4 % (16 / w), perf := true }
    if needs && !dOk then { s with cav.pipe := s.cav.pipe ++ [{ acc with perf := false }] }.incSat .CAV_INST_SKIP_CNT i
    else if s.bankOwn (k / 2) = .inst i then { s with cav.pipe := s.cav.pipe ++ [acc] }
    else ((s.incSat .CAV_DROP_CNT (k / 2)).incSat .CAV_INST_DROP_CNT i).p .CAV_STAT (k / 32) 1
  | _ => s

end Sys2Proof.Machine
end

