-- ==== Sys2Proof/Machine/TimeOps.lean ====
section
/-!
DEFINITION. The network clock and the launch queue's entries (R397-R398, R406, R409-R411): how far a number of clock periods takes network
time, when a time has come, and how entries leave the queue.
-/
namespace Sys2Proof.Machine

/-- Hold a signed number to plus or minus `m`. -/
def clampInt (m : Nat) (x : Int) : Int := max (-(m : Int)) (min (m : Int) x)

/-- Nanoseconds that 48-bit seconds and nanoseconds count (R397). -/
def ntSpan : Nat := 2 ^ 48 * 10 ^ 9

/-- NT (R397). -/
def Pkg.nt (s : Pkg) : Nat := s.tim.ns % 2 ^ 64

/-- TIM_RATE as it acts, in units of 2^-40 (R398). -/
def rateLimit : Nat := 549755814
@[inherit_doc rateLimit] def Pkg.rate (s : Pkg) : Int := clampInt rateLimit (sgn 32 (s.g .TIM_RATE 0))

/-- Time-unit clock period in half nanoseconds (Table 4). -/
def Pkg.timHalf (s : Pkg) : Nat := if s.rootSlow then 5 else 4

/-- What one period adds, in units of 2^-32 ns (R398). -/
def Pkg.timInc (s : Pkg) : Nat := s.timHalf * 2 ^ 31 + (((s.timHalf : Nat) : Int) * s.rate / 2 ^ 9).toNat -
  (-(((s.timHalf : Nat) : Int) * s.rate / 2 ^ 9)).toNat

/-- The most that `n` periods can slew, ns (R403). -/
def Pkg.slewRoom (s : Pkg) (n : Nat) : Nat := n * s.timHalf / 2 * clampTo 1000 500000 (s.g .TIM_SLEW_MAX 0) / 10 ^ 9

/-- Network time `n` clock periods on (R398). An offset being slewed is taken up within TIM_SLEW_MAX, at a pace the spec leaves open. -/
def Pkg.ntPass (s : Pkg) (n : Nat) : Pkg :=
  let tot := s.tim.frac + n * s.timInc
  let room := min s.tim.slew.natAbs (s.slewRoom n)
  let (v, s) := if room = 0 then (0, s) else s.draw 32
  let a : Int := if s.tim.slew < 0 then -((v % (room + 1) : Nat) : Int) else ((v % (room + 1) : Nat) : Int)
  let ns := ((((s.tim.ns + tot / 2 ^ 32 : Nat) : Int) + a) % (ntSpan : Int)).toNat
  let hold := if s.g .TIM_STAT_STATE 0 = 3 then s.tim.hold + n * s.timHalf else s.tim.hold
  let steering := s.g .TIM_STAT_STATE 0 == 1 || s.g .TIM_STAT_STATE 0 == 2
  { s with tim := { s.tim with ns := ns, frac := tot % 2 ^ 32, slew := s.tim.slew - a, hold := hold
                               hist := if steering then (n, s.rate) :: s.tim.hist else s.tim.hist } }.p .TIM_HOLD_MS 0 (hold / 2000000)

/-- How far NT lies past time `t`: a signed 64-bit difference (R406). -/
def Pkg.past (s : Pkg) (t : Nat) : Int := sgn 64 (s.nt + 2 ^ 64 - t % 2 ^ 64)

/-- Time `t` has come (R406). -/
def Pkg.hasCome (s : Pkg) (t : Nat) : Bool := decide (0 ≤ s.past t)

/-- Time `t` has come by more than 1 us (R409). -/
def Pkg.overdue (s : Pkg) (t : Nat) : Bool := decide (1000 < s.past t)

/-- Remove an entry of the launch queue. -/
def Pkg.lqDrop (s : Pkg) (x : Launch) : Pkg :=
  let l := s.tim.lq.filter fun y => y.num != x.num
  { s with tim := { s.tim with lq := l } }.p .TIM_LQ_LEVEL 0 l.length

/-- The RUN_CTL command of an exchange or a launch entry completes, if there is one. -/
def Pkg.answer (s : Pkg) (c : Option (Nat × Nat)) (st : Status) (r : Reason) (result : List Nat := []) : Pkg :=
  match c with
  | some (m, seq) => s.complete m seq st r result
  | none => s

/-- Discard the entries that `p` selects: they count as discarded, and a command that waits for one ends (R410). -/
def Pkg.lqDiscard (s : Pkg) (p : Launch → Bool) (st : Status) (r : Reason) : Pkg :=
  s.each (s.tim.lq.filter p) fun s x => ((s.lqDrop x).inc .TIM_LQ_DISC 0).answer x.cmd st r

/-- A command's entry waits in the launch queue. -/
def Pkg.lqHolds (s : Pkg) (m seq : Nat) : Bool := s.tim.lq.any fun x => x.cmd == some (m, seq)

end Sys2Proof.Machine
end

