-- ==== Sys2Proof/Machine/RefOps.lean ====
section
/-!
DEFINITION. The reference selector where the lanes need it (R281, R434-R437): an input that becomes invalid, and the lane that carries the
recovered clock.
-/
namespace Sys2Proof.Machine

/-- A HEALTH event (R450). -/
def Pkg.healthEvent (s : Pkg) (d kind idx : Nat) (v : Int) : Pkg :=
  s.event 7 none ([d, kind, idx, 0] ++ leVals (wrapN 32 v) 4 ++ leVals s.nt 8)

/-- Validity field of a reference input: 0 A, 1 B, 2 REC. -/
def refValid : Nat → Fld
  | 0 => .ADC_REF_STAT_A_VALID | 1 => .ADC_REF_STAT_B_VALID | _ => .ADC_REF_STAT_REC_VALID

/-- An instance is RUNNING, PAUSED or FROZEN. -/
def Pkg.underway (s : Pkg) (i : Nat) : Bool := s.runState i == .running || s.runState i == .paused || s.runState i == .frozen

/-- The selector moves to input `k` without disturbing anything (R437). -/
def Pkg.refSwitch (s : Pkg) (k : Nat) : Pkg :=
  ((s.ps [(.ADC_REF_STAT_ACTIVE, 0, k), (.ADC_REF_STAT_SWITCHED, 0, 1)]).incSat .ADC_REF_SW_CNT 0).healthEvent 0 5 k 0

/-- REFERENCE_INVALID: switch to ALT, or the reference is lost. -/
def Pkg.refInvalid (s : Pkg) (k : Nat) : Pkg :=
  if 3 ≤ k ∨ !s.b (refValid k) 0 then s
  else
    let s := s.p (refValid k) 0 0
    let alt := s.g .ADC_REF_CTRL_ALT 0
    if s.g .ADC_REF_STAT_ACTIVE 0 ≠ k ∨ s.b .ADC_REF_STAT_LOST 0 then s
    else if alt ≠ k ∧ s.b (refValid alt) 0 then s.refSwitch alt
    else
      let s := s.ps [(.ADC_REF_STAT_LOST, 0, 1), (.ADC_REF_STAT_HOLDOVER, 0, 1), (.TIM_STAT_CLK_LOST, 0, 1), (.TIM_STAT_VALID, 0, 0)]
      let s := s.each s.dies fun s d => s.p .ADC_PLL_STAT_ROOT_HOLD d 1
      let s := s.each ((List.range 16).filter s.underway) fun s i => s.fault i .refLost
      s.healthEvent 0 6 k 0

/-- Lane 0 of the port that REC is taken from (R435). -/
def Pkg.recLane (s : Pkg) : Nat := s.g .ADC_REF_CTRL_REC_PORT 0 * 4

end Sys2Proof.Machine
end

