-- ==== Sys2Proof/Machine/Lanes.lean ====
section
/-!
DEFINITION. Mindiong Link lanes (R235-R252): states, blind training, the synthesiser, Idle and Cold, PRBS and faults.
A lane is named by its package lane number die*16 + l.
-/
namespace Sys2Proof.Machine

/-- Lane states of Table 126. -/
inductive LaneSt where
  | off | cal | train | active | idle | cold | fault | test
deriving DecidableEq, Repr

/-- State of a lane. -/
def Pkg.laneSt (s : Pkg) (l : Nat) : LaneSt :=
  match s.g .LNK_LANE_STAT_STATE l with
  | 0 => .off | 1 => .cal | 2 => .train | 3 => .active | 4 => .idle | 5 => .cold | 6 => .fault | _ => .test

/-- A lane beside its registers. -/
def Pkg.lane (s : Pkg) (l : Nat) : Lane := Store.get {} s.lanes l
/-- Replace it. -/
def Pkg.setLane (s : Pkg) (l : Nat) (x : Lane) : Pkg := { s with lanes := Store.set {} s.lanes l x }
/-- Change it. -/
def Pkg.updLane (s : Pkg) (l : Nat) (f : Lane → Lane) : Pkg := s.setLane l (f (s.lane l))

/-- Port states of Table 134. -/
inductive PortSt where
  | off | wait | bond | align | up | recover | down | lowpwr
deriving DecidableEq, Repr

/-- State of a port. -/
def Pkg.portSt (s : Pkg) (q : Nat) : PortSt :=
  match s.g .LNK_PORT_STAT_STATE q with
  | 0 => .off | 1 => .wait | 2 => .bond | 3 => .align | 4 => .up | 5 => .recover | 6 => .down | _ => .lowpwr

/-- Put a port in a state and report it in a PORT_STATE event (Table 171). -/
def Pkg.setPortSt (s : Pkg) (q : Nat) (st : PortSt) : Pkg :=
  if s.portSt q = st then s
  else (s.p .LNK_PORT_STAT_STATE q st.ctorIdx).event 5 (s.portOwner q) [q, st.ctorIdx]

/-- The four lanes of a port (R253). -/
def portLanes (q : Nat) : List Nat := (List.range 4).map fun n => q * 4 + n

/-- Port of a lane. -/
def lanePort (l : Nat) : Nat := l / 4

/-- The port has enabled its lanes (R237, R254): in ALIGN and UP, and in LOWPWR on the way out. -/
def Pkg.portEnables (s : Pkg) (q : Nat) : Bool :=
  match s.portSt q with
  | .align | .up => true
  | .lowpwr => (s.port q).exiting
  | _ => false

/-- A lane in this state carries the recovered clock (R435). -/
def LaneSt.carriesRec (x : LaneSt) : Bool := x == .active || x == .idle

/-- Put STATE and PHASE of a lane. A checker loses its lock with TEST (R248), and REC its validity with its lane (R436). -/
def Pkg.laneTo (s : Pkg) (l : Nat) (st : LaneSt) (phase : Nat) : Pkg :=
  let rec_ := l == s.recLane && (s.laneSt l).carriesRec && !st.carriesRec
  let s := if s.laneSt l = .test ∧ st ≠ .test then s.p .LNK_PRBS_STAT_CHK_LOCK l 0 else s
  let s := s.ps [(.LNK_LANE_STAT_STATE, l, st.ctorIdx), (.LNK_LANE_STAT_PHASE, l, phase)]
  if rec_ then s.refInvalid 2 else s

/-- The lane enters T5 (R240): OK counts. -/
def Pkg.laneT5 (s : Pkg) (l : Nat) : Pkg := (s.incSat .LNK_TRAIN_CNT_OK l).laneTo l .train 5

/-- The port disables its lanes: ACTIVE returns to phase T5 (R237). -/
def Pkg.portDisable (s : Pkg) (q : Nat) : Pkg :=
  s.each (portLanes q) fun s l => if s.laneSt l = .active then s.laneT5 l else s

/-- Every lane of a port is ACTIVE, and at one rate (R235). -/
def Pkg.lanesActive (s : Pkg) (q : Nat) : Bool :=
  (portLanes q).all fun l => s.laneSt l == .active && s.g .LNK_LANE_STAT_RATE l == s.g .LNK_LANE_STAT_RATE (q * 4)

/-- After a change of lane states: a port in ALIGN or UP with a lane no longer ACTIVE enters RECOVER, and its link-down timer
starts (R254, R272); a port leaving LOWPWR enters ALIGN once its lanes are ACTIVE at one rate (R235, R275). -/
def Pkg.portReact (s : Pkg) (q : Nat) : Pkg :=
  match s.portSt q with
  | .align | .up =>
    if (portLanes q).all fun l => s.laneSt l == .active then s
    else ((s.updPort q fun x => { x with phases := 0, silent := false }).portDisable q).setPortSt q .recover
  | .lowpwr =>
    if (s.port q).exiting && s.lanesActive q then
      (s.updPort q fun x => { x with exiting := false, phases := 0 }).setPortSt q .align
    else s
  | _ => s

/-- Equaliser settings as one word. -/
def Pkg.txeqWord (s : Pkg) (l : Nat) : Nat :=
  s.g .LNK_LANE_TXEQ_PRE1 l + 2 ^ 8 * s.g .LNK_LANE_TXEQ_MAIN l + 2 ^ 16 * s.g .LNK_LANE_TXEQ_POST1 l + 2 ^ 24 * s.g .LNK_LANE_TXEQ_SWING l

/-! ## Training frames (R239, Table 127) -/

/-- The marker of a training frame. -/
def trainMarker : Nat := 0xB5E32C7A0F96D148

/-- CRC-16-CCITT of the low `n` bits of a number, bit 0 first, going on from `c`. DESIGN CHOICE: the check takes the bits in the order they are
sent; R239 and R256 give the polynomial and the initial value only. -/
def crc16 : Nat → Nat → Nat → Nat
  | 0, _, c => c
  | n + 1, v, c => crc16 n (v / 2) ((2 * c) % 2 ^ 16 ^^^ if (c / 2 ^ 15 + v) % 2 = 1 then 0x1021 else 0)

/-- The status word of what a frame says, with its CRC. -/
def TrainFrame.word (f : TrainFrame) : Nat :=
  let w := f.lane % 4 + 2 ^ 2 * (f.port % 4) + 2 ^ 4 * (f.die % 8) + 2 ^ 7 * (f.pkg % 64) + 2 ^ 13 * b2n f.compat + 2 ^ 14 * b2n f.pam4Cap +
    2 ^ 15 * (f.phase % 8) + 2 ^ 18 * b2n f.rxReady + 2 ^ 19 * b2n f.seen + 2 ^ 20 * b2n f.go + 2 ^ 21 * (f.count % 256)
  w + 2 ^ 48 * crc16 48 w 0xFFFF

/-- The status word's CRC checks. -/
def trainWordOk (w : Nat) : Bool := bits w 48 16 == crc16 48 (w % 2 ^ 48) 0xFFFF

/-- What a status word says. -/
def TrainFrame.ofWord (w : Nat) : TrainFrame :=
  { lane := bits w 0 2, port := bits w 2 2, die := bits w 4 3, pkg := bits w 7 6, compat := bit w 13, pam4Cap := bit w 14, phase := bits w 15 3,
    rxReady := bit w 18, seen := bit w 19, go := bit w 20, count := bits w 21 8 }

/-- The port of a lane is strapped for Series 1 (R251). -/
def Pkg.strapped (s : Pkg) (q : Nat) : Bool := bit s.part.compat q

/-- The lane offers PAM4 (R241). -/
def Pkg.pam4Cap (s : Pkg) (l : Nat) : Bool :=
  !(s.lane l).nrz && !s.strapped (lanePort l) && !((portLanes (lanePort l)).any fun m => (s.lane m).fb)

/-- What the lane's next frame says, in phase `phase`; 0 in the frames that announce entry to COLD (R246). -/
def Pkg.frameNow (s : Pkg) (l phase : Nat) : TrainFrame :=
  let x := s.lane l
  { lane := l % 4, port := l / 4 % 4, die := l / 16, pkg := s.part.pkgId, compat := s.strapped (lanePort l), pam4Cap := s.pam4Cap l, phase := phase,
    rxReady := x.ready || phase == 5, seen := x.seen, go := phase == 3, count := if phase = 3 then x.count else 0 }

/-- A frame is sent. In T3 the countdown advances; after COUNT 0 the transmitter is switched to PAM4 (Table 128). -/
def Pkg.frameSent (s : Pkg) (l : Nat) : Pkg :=
  let n := s.g .LNK_LANE_STAT_PHASE l
  let w := (s.frameNow l n).word
  s.updLane l fun x =>
    if n = 3 then { x with sent := w, txPam := x.txPam || x.count == 0, count := x.count - 1 } else { x with sent := w }

/-- What drives a lane's balls (Table 126, R238): nothing while its synthesiser is not locked, but for the wake tone of a Cold exit. -/
inductive LaneTx where
  | quiet | tone | frames | data | idlePattern | prbs | resent
deriving DecidableEq, Repr

@[inherit_doc LaneTx] def Pkg.laneTx (s : Pkg) (l : Nat) : LaneTx :=
  if !s.b .LNK_LANE_STAT_SYN_LOCK l then (if s.laneSt l = .cal ∧ (s.lane l).cold then .tone else .quiet)
  else match s.laneSt l with
    | .train => .frames
    | .active => .data
    | .idle => .idlePattern
    | .test => if s.g .LNK_PRBS_CFG_LOOPBACK l = 3 then .resent else if s.b .LNK_PRBS_CFG_GEN_EN l then .prbs else .quiet
    | _ => .quiet

/-! ## PRBS patterns (R248, Table 130) -/

/-- The next bit of a pattern after the bits of a register, the latest in bit 0. The user pattern repeats every 32 bits. -/
def prbsNext (pat reg : Nat) : Bool :=
  let x := fun (a b : Nat) => bit reg (a - 1) != bit reg (b - 1)
  match pat with
  | 0 => x 7 6
  | 1 => x 9 5
  | 2 => (x 13 12 != bit reg 1) != bit reg 0
  | 3 => x 15 14
  | 4 => x 23 18
  | 5 => x 31 28
  | _ => bit reg 31

/-- A register after one more bit. -/
def prbsShift (reg : Nat) (v : Bool) : Nat := (2 * reg + b2n v) % 2 ^ 32

/-- Register length of a pattern. -/
def prbsLen (pat : Nat) : Nat := [7, 9, 13, 15, 23, 31].getD pat 32

/-- A register that the user pattern `u`, LSB first, can leave behind `k` bits of it. -/
def userReg (u k : Nat) : Nat := (List.range 32).foldl (fun r n => prbsShift r (bit u ((n + k) % 32))) 0

/-- Register contents that a pattern passes through: not all zero, or 32 bits of the user pattern from some place on. -/
def regInPattern (pat u reg : Nat) : Bool :=
  if pat = 6 then (List.range 32).any fun k => userReg u k == reg else reg % 2 ^ prbsLen pat != 0

/-- The generator starts its pattern: the user pattern at its first bit; a polynomial's phase is not stated, and its register is free. -/
def Pkg.genStart (s : Pkg) (l : Nat) : Pkg :=
  if s.g .LNK_PRBS_CFG_GEN_PAT l = 6 then s.updLane l fun x => { x with gen := userReg (s.g .LNK_PRBS_USER l) 0, since := 0 }
  else
    let (v, s) := s.draw 31
    let n := prbsLen (s.g .LNK_PRBS_CFG_GEN_PAT l)
    s.updLane l fun x => { x with gen := if v % 2 ^ n = 0 then 1 else v % 2 ^ n, since := 0 }

/-! ## Entries to the lane states -/

/-- Entry to T1 (R240): acquisition starts afresh with the equaliser settings and MODE_MAX as they stand. A Cold exit keeps its rate and its
stored settings (R246), a relock the last settings (R245). -/
def Pkg.enterT1 (s : Pkg) (l : Nat) : Pkg :=
  let x := s.lane l
  let s := s.setLane l { fb := x.fb, cold := x.cold, stored := x.stored, last := x.last, txeq := if x.cold || x.keepEq then x.txeq else s.txeqWord l,
                         nrz := s.b .LNK_LANE_CTRL_MODE_MAX l, pos := x.pos, sent := x.sent }
  let s := if x.cold then s else s.ps [(.LNK_LANE_STAT_RATE, l, 0), (.LNK_LANE_STAT_ETA_US, l, 0)]
  (s.ps [(.LNK_LANE_PARTNER_VALID, l, 0), (.LNK_LANE_STAT_CDR_LOCK, l, 0)]).laneTo l .train 1

/-- Entry to TEST (R248): at the rate last trained, or NRZ-56 if the lane never trained. -/
def Pkg.enterTest (s : Pkg) (l : Nat) : Pkg :=
  let x := s.lane l
  let r := if x.last = 0 then 2 else x.last
  (((s.setLane l { x with txeq := s.txeqWord l, run := 0, errs := [] }).p .LNK_LANE_STAT_RATE l r).laneTo l .test 0).genStart l

/-- PRBS is enabled on the lane. -/
def Pkg.prbsOn (s : Pkg) (l : Nat) : Bool := s.b .LNK_PRBS_CFG_GEN_EN l || s.b .LNK_PRBS_CFG_CHK_EN l

/-- Entry to CAL (R245): the synthesiser calibrates; ETA_US is the bound of Table 128, or of a Cold exit (R246). -/
def Pkg.enterCal (s : Pkg) (l : Nat) (cold : Bool) : Pkg :=
  let s := s.updLane l fun x => { x with cold := cold }
  let s := if cold then s else s.p .LNK_LANE_STAT_RATE l 0
  (s.ps [(.LNK_LANE_STAT_SYN_LOCK, l, 0), (.LNK_LANE_STAT_CDR_LOCK, l, 0), (.LNK_LANE_STAT_FAULT_CAUSE, l, 0),
    (.LNK_LANE_STAT_ETA_US, l, if cold then 2000 else 1200)]).laneTo l .cal 0

/-- Frames with PHASE 0 that announce entry to COLD (Table 129). -/
def coldFrames : Nat := 16

/-- Entry to COLD (R246): rate and equaliser settings are stored. From TRAIN, ACTIVE and IDLE the sixteen frames with PHASE 0 go out within the
transition, the last of them `sent`. -/
def Pkg.enterCold (s : Pkg) (l : Nat) : Pkg :=
  let r := s.g .LNK_LANE_STAT_RATE l
  let locked := s.b .LNK_LANE_STAT_SYN_LOCK l
  let w := (s.frameNow l 0).word
  let s := s.updLane l fun x => { x with stored := if x.cold then x.stored else r, cold := false, zero := 0, sent := if locked then w else x.sent }
  (s.ps [(.LNK_LANE_STAT_SYN_LOCK, l, 0), (.LNK_LANE_STAT_CDR_LOCK, l, 0), (.LNK_LANE_STAT_SIG_DET, l, 0),
    (.LNK_LANE_STAT_ETA_US, l, 0)]).laneTo l .cold 0

/-- A Cold exit begins (R246); a lane that has a stored rate re-acquires at it. -/
def Pkg.coldExit (s : Pkg) (l : Nat) : Pkg :=
  let r := (s.lane l).stored
  (s.enterCal l true).p .LNK_LANE_STAT_RATE l r

/-- Entry to OFF (R238): driver in electrical idle at once. -/
def Pkg.enterOff (s : Pkg) (l : Nat) : Pkg :=
  let s := s.setLane l { last := (s.lane l).last, prbs := (s.lane l).prbs }
  (s.ps [(.LNK_LANE_STAT_SYN_LOCK, l, 0), (.LNK_LANE_STAT_CDR_LOCK, l, 0), (.LNK_LANE_STAT_ETA_US, l, 0), (.LNK_LANE_STAT_SIG_DET, l, 0),
    (.LNK_LANE_STAT_FAULT_CAUSE, l, 0), (.LNK_LANE_STAT_RATE, l, 0), (.LNK_LANE_PARTNER_VALID, l, 0)]).laneTo l .off 0

/-- Entry to FAULT (R245, R250): the management processor of the die is notified. -/
def Pkg.enterFault (s : Pkg) (l cause : Nat) : Pkg :=
  ((s.ps [(.LNK_LANE_STAT_SYN_LOCK, l, 0), (.LNK_LANE_STAT_CDR_LOCK, l, 0), (.LNK_LANE_STAT_FAULT_CAUSE, l, cause), (.LNK_LANE_STAT_RATE, l, 0),
    (.LNK_LANE_STAT_SIG_DET, l, 0), (.LNK_LANE_STAT_ETA_US, l, 0xFFFF)]).laneTo l .fault 0).notify (l / 16) .laneFault

/-- Entry to T5 at a rate (R240): a completed Cold exit counts; a standing TGT of 1 takes the lane on to IDLE (Table 129a),
and a port leaving LOWPWR takes it to ACTIVE. -/
def Pkg.enterT5 (s : Pkg) (l rate : Nat) : Pkg :=
  let x := s.lane l
  let s := if x.cold then s.incSat .LNK_STATE_CNT_COLD_EXIT l else s
  let s := s.setLane l { x with cold := false, last := rate, tries := 0 }
  let s := (s.ps [(.LNK_LANE_STAT_RATE, l, rate), (.LNK_LANE_STAT_ETA_US, l, 0)]).laneT5 l
  if s.g .LNK_LANE_CTRL_TGT l = 1 then s.laneTo l .idle 0
  else if s.portEnables (lanePort l) then (s.laneTo l .active 0).portReact (lanePort l)
  else s

/-- Act on TGT in the lane's present state (Tables 129 and 129a). -/
def Pkg.actTgt (s : Pkg) (l : Nat) : Pkg :=
  let t := s.g .LNK_LANE_CTRL_TGT l
  let s := match s.laneSt l with
    | .cal => if t = 2 then s.enterCold l else s
    | .train =>
      if t = 2 then s.enterCold l
      else if t = 1 ∧ s.g .LNK_LANE_STAT_PHASE l = 5 then s.laneTo l .idle 0 else s
    | .active => if t = 2 then s.enterCold l else if t = 1 then s.laneTo l .idle 0 else s
    | .idle =>
      if t = 2 then s.enterCold l
      else if t = 0 then (if s.portEnables (lanePort l) then s.laneTo l .active 0 else s.laneT5 l) else s
    | .cold => if t = 2 then s else s.coldExit l
    | _ => s
  s.portReact (lanePort l)

/-- Apply a TGT value (R247). -/
def Pkg.applyTgt (s : Pkg) (l v : Nat) : Pkg := (s.writeNow .LNK_LANE_CTRL_TGT l v).actTgt l

/-- Apply the waiting TGT write of a lane; none applies in FAULT (R250). -/
def Pkg.tgtApply (s : Pkg) (l : Nat) : Pkg :=
  match s.pendw.find? fun w => w.fld == .LNK_LANE_CTRL_TGT && w.idx == l with
  | some w => if s.laneSt l = .fault then s else s.applyTgt l w.val
  | none => s

/-- A write of TGT (R246, R257): at the next flit boundary while the port is UP and the lane carries flits, after the fault is cleared in FAULT,
else on completion. -/
def Pkg.tgtWrite (s : Pkg) (l v : Nat) : Pkg :=
  if (s.laneSt l = .active ∧ s.portSt (lanePort l) = .up) ∨ s.laneSt l = .fault then
    s.addPend { fld := .LNK_LANE_CTRL_TGT, idx := l, val := v, wait := 0 }
  else s.applyTgt l v

/-! ## PRBS configuration (R248, R249) -/

/-- LNK_PRBS_CFG fields of a 32-bit value (Table 131). -/
def prbsFields (l v : Nat) : List (Fld × Nat × Nat) :=
  [(.LNK_PRBS_CFG_GEN_PAT, l, bits v 0 3), (.LNK_PRBS_CFG_CHK_PAT, l, bits v 3 3), (.LNK_PRBS_CFG_GEN_EN, l, bits v 6 1),
   (.LNK_PRBS_CFG_CHK_EN, l, bits v 7 1), (.LNK_PRBS_CFG_LOOPBACK, l, bits v 8 2), (.LNK_PRBS_CFG_INJ_MODE, l, bits v 10 2),
   (.LNK_PRBS_CFG_INJ_PERIOD, l, bits v 16 5)]

/-- The write is refused (R248, Tables 130 and 131): pattern 7, INJ_MODE 3, or PRBS enabled on an owned port or one that
carries a cascade commit exchange. -/
def Pkg.prbsRefused (s : Pkg) (l v : Nat) (commit : Bool) : Bool :=
  bits v 0 3 == 7 || bits v 3 3 == 7 || bits v 10 2 == 3 ||
  ((bit v 6 || bit v 7) && (s.b .LNK_PORT_STAT_OWNED (lanePort l) || commit))

/-- Take up or leave TEST as GEN_EN and CHK_EN now stand (R248). -/
def Pkg.prbsAct (s : Pkg) (l : Nat) : Pkg :=
  match s.laneSt l with
  | .test => if s.prbsOn l then s else (s.enterT1 l).actTgt l
  | .train | .active | .idle => if s.prbsOn l then (s.enterTest l).portReact (lanePort l) else s
  | _ => s

/-- An accepted write of LNK_PRBS_CFG takes effect (R248, R249): CHK_EN from 0 to 1 zeroes the counts. -/
def Pkg.prbsApply (s : Pkg) (l v : Nat) : Pkg :=
  let rise := !s.b .LNK_PRBS_CFG_CHK_EN l && bit v 7
  let fresh := bit v 6 && (!s.b .LNK_PRBS_CFG_GEN_EN l || s.g .LNK_PRBS_CFG_GEN_PAT l != bits v 0 3)
  let s := s.ps (prbsFields l v)
  let s := if rise then
      ((s.ps [(.LNK_PRBS_BITS, l, 0), (.LNK_PRBS_ERR, l, 0), (.LNK_PRBS_INJ, l, 0), (.LNK_PRBS_STAT_CHK_LOCK, l, 0)])).updLane l
        fun x => { x with run := 0, pos := 0, errs := [] }
    else s
  let s := if fresh ∧ s.laneSt l = .test then s.genStart l else s
  s.prbsAct l

/-- An accepted write of LNK_PRBS_CFG: in FAULT it waits until the fault is cleared, the last one standing (R250). -/
def Pkg.prbsWrite (s : Pkg) (l v : Nat) : Pkg :=
  if s.laneSt l = .fault then s.updLane l fun x => { x with prbs := some v } else s.prbsApply l v

/-- The fault is cleared: what was written to TGT and LNK_PRBS_CFG meanwhile applies (R250). -/
def Pkg.faultCleared (s : Pkg) (l : Nat) : Pkg :=
  let s := s.tgtApply l
  match (s.lane l).prbs with
  | some v => (s.updLane l fun x => { x with prbs := none }).prbsApply l v
  | none => s

/-! ## Enable, fault and retraining -/

/-- Set or clear EN (R238, R250, Table 129a). The lanes of a die that failed to boot, and every lane after a fatal boot fault or a thermal trip,
stay OFF (R443, R448). -/
def Pkg.laneEn (s : Pkg) (l : Nat) (on : Bool) : Pkg :=
  let s := s.pb .LNK_LANE_CTRL_EN l on
  if on then
    if s.laneSt l ≠ .off ∨ s.tripped ∨ !s.dieOk (l / 16) then s
    else if s.g .LNK_LANE_CTRL_TGT l = 2 then s.enterCold l else s.enterCal l false
  else if s.laneSt l = .off then s
  else ((s.enterOff l).faultCleared l).portReact (lanePort l)

/-- FAULT_CLR (R250): the lane leaves FAULT for CAL, then the writes that waited apply. -/
def Pkg.laneFaultClr (s : Pkg) (l : Nat) : Pkg :=
  if s.laneSt l = .fault then ((s.updLane l fun x => { x with fb := false }).enterCal l false).faultCleared l else s

/-- RETRAIN (Tables 129, 131): return to T1, or begin a Cold exit; no effect where the lane has no lock to train with. In FAULT it changes nothing,
and once the fault is cleared the lane trains all the same (R250). -/
def Pkg.laneRetrain (s : Pkg) (l : Nat) : Pkg :=
  match s.laneSt l with
  | .train | .active | .idle => (((s.updLane l fun x => { x with cold := false, fb := false }).enterT1 l)).portReact (lanePort l)
  | .cold => (s.updLane l fun x => { x with fb := false }).coldExit l
  | _ => s

/-- The synthesiser locks (R245): training starts, or TEST where PRBS is enabled and the lane has not lost lock in TEST. -/
def Pkg.synthLock (s : Pkg) (l : Nat) : Pkg :=
  if s.laneSt l = .cal then
    let x := s.lane l
    let s := s.ps [(.LNK_LANE_STAT_SYN_LOCK, l, 1), (.LNK_LANE_STAT_ETA_US, l, if x.cold then 800 else 0)]
    if s.prbsOn l ∧ !x.lost then s.enterTest l
    else
      let s := if x.cold && x.stored == 0 then s.setLane l { x with cold := false } else s
      s.enterT1 l
  else s

/-- The lock timeout of 50 ms, or a calibration that finds no usable band (R245). -/
def Pkg.synthFail (s : Pkg) (l : Nat) (noBand : Bool) : Pkg :=
  if s.laneSt l = .cal then s.enterFault l (if noBand then 2 else 1) else s

/-- Lock is lost in TRAIN, ACTIVE, IDLE or TEST (R245). -/
def Pkg.synthLoss (s : Pkg) (l : Nat) : Pkg :=
  match s.laneSt l with
  | .train | .active | .idle | .test =>
    let lost := s.laneSt l == .test
    let s := s.updLane l fun x => { x with keepEq := true, lost := lost }
    ((s.incSat .LNK_LOSS_CNT_SYN_LOSS l).enterCal l false).portReact (lanePort l)
  | _ => s

/-- The CDR loses lock in ACTIVE or IDLE (R245). -/
def Pkg.cdrLoss (s : Pkg) (l : Nat) : Pkg :=
  match s.laneSt l with
  | .active | .idle => ((s.incSat .LNK_LOSS_CNT_CDR_LOSS l).enterT1 l).portReact (lanePort l)
  | _ => s

/-- T2: the choice of R241; none while the lane stays in T2. -/
def trainChoice (ownCompat cap theirCompat theirCap : Bool) : Option Nat :=
  if ownCompat != theirCompat then none
  else if ownCompat then some 3
  else if cap && theirCap then some 1 else some 2

/-- A frame received in phases T1 to T5 (Table 128, R240-R242); `converged` tells that the receiver's adaptation has. What it has found, the eye
and the peaking code, is not stated: free values. -/
def Pkg.trainPhase (s : Pkg) (l : Nat) (f : TrainFrame) (converged : Bool) : Pkg :=
  let x := s.lane l
  match s.g .LNK_LANE_STAT_PHASE l with
  | 1 =>
    let n := min 64 (x.frames + 1)
    let ripe := converged && !x.ready
    let x := { x with frames := n, seen := x.seen || n == 64, ready := x.ready || converged, pSeen := f.seen, pReady := f.rxReady }
    let s := (s.setLane l x).p .LNK_LANE_STAT_CDR_LOCK l 1
    let s := if ripe then s.drawFields [(.LNK_LANE_RXINFO_EYE, 8), (.LNK_LANE_RXINFO_CTLE, 8)] l else s
    if x.seen && x.ready && x.pSeen && x.pReady then
      if x.cold then s.enterT5 l x.stored else s.p .LNK_LANE_STAT_PHASE l 2
    else s
  | 2 =>
    if x.mism then s
    else match trainChoice (s.strapped (lanePort l)) (s.pam4Cap l) f.compat f.pam4Cap with
    | none => (s.setLane l { x with mism := true }).p .LNK_LANE_STAT_COMPAT_MISMATCH l 1
    | some 1 => (s.setLane l { x with count := 255, txPam := false, rxPam := false }).p .LNK_LANE_STAT_PHASE l 3
    | some r => s.enterT5 l r
  | 3 =>
    let x := { x with rxPam := x.rxPam || (f.go && f.count == 0) || f.phase == 4 }
    let s := s.setLane l x
    if x.txPam && x.rxPam then
      (s.setLane l { x with t4ok := false, pReady := false, tries := 0 }).p .LNK_LANE_STAT_PHASE l 4
    else s
  | 4 =>
    let s := s.setLane l { x with pReady := f.rxReady }
    if x.t4ok && f.rxReady then s.enterT5 l 1 else s
  | _ => s.setLane l { x with pReady := f.rxReady, pSeen := f.seen }

/-- A frame period of a lane (R239-R246): in TRAIN it sends a frame; in TRAIN, ACTIVE and IDLE a frame is received where the marker stands at
the expected position and the status CRC checks. The partner's identity is reported; four frames in a row with PHASE 0 take the lane into COLD. -/
def Pkg.trainFrame (s : Pkg) (l marker w : Nat) (converged : Bool) : Pkg :=
  if s.laneSt l = .train ∨ s.laneSt l = .active ∨ s.laneSt l = .idle then
    let s := if s.laneSt l = .train then s.frameSent l else s
    if marker ≠ trainMarker ∨ !trainWordOk w then s.updLane l fun x => { x with frames := 0, zero := 0 }
    else
      let f := TrainFrame.ofWord w
      let s := s.ps [(.LNK_LANE_PARTNER_ID, l, w % 2 ^ 14), (.LNK_LANE_PARTNER_PAM4_CAP, l, b2n f.pam4Cap), (.LNK_LANE_PARTNER_VALID, l, 1),
        (.LNK_LANE_STAT_SIG_DET, l, 1)]
      let s := s.updLane l fun x => { x with zero := if f.phase = 0 then x.zero + 1 else 0 }
      if 4 ≤ (s.lane l).zero then (s.enterCold l).portReact (lanePort l)
      else if f.phase ≠ 0 ∧ s.laneSt l = .train then s.trainPhase l f converged
      else s
  else s

/-- A fallback (R242): every lane of the port counts it and offers NRZ only; those in training, ACTIVE or IDLE return to T1, and one in COLD or on
its way out will train from T1, its stored rate given up. -/
def Pkg.fallback (s : Pkg) (q : Nat) : Pkg :=
  let s := s.each (portLanes q) fun s l =>
    let s := (s.updLane l fun x => { x with fb := true, cold := false, stored := 0 }).incSat .LNK_STATE_CNT_FALLBACK l
    match s.laneSt l with
    | .train | .active | .idle => s.enterT1 l
    | _ => s
  s.portReact q

/-- A T4 attempt ends with `errs` fill-bit errors (R242). -/
def Pkg.pam4End (s : Pkg) (l errs : Nat) : Pkg :=
  if s.laneSt l = .train ∧ s.g .LNK_LANE_STAT_PHASE l = 4 then
    let x := s.lane l
    if errs < 16 then
      let s := s.setLane l { x with t4ok := true, ready := true }
      if x.pReady then s.enterT5 l 1 else s
    else if x.tries + 1 < 4 then s.setLane l { x with tries := x.tries + 1, t4ok := false }
    else s.fallback (lanePort l)
  else s

/-- LNK_TRAIN_TMO passes before T5 (R243): back to T1; a Cold exit that fails then trains from T1 (R246). A lane held in T2 by a partner of the
other format stays there until retrained (R241), and one whose port faces no frames loses its signal. -/
def Pkg.trainTimeout (s : Pkg) (l : Nat) : Pkg :=
  if s.laneSt l = .train ∧ s.g .LNK_LANE_STAT_PHASE l ≠ 5 ∧ !(s.lane l).mism then
    let s := if s.b .LNK_LANE_PARTNER_VALID l then s else s.p .LNK_LANE_STAT_SIG_DET l 0
    ((s.incSat .LNK_TRAIN_CNT_FAIL l).updLane l fun x => { x with cold := false }).enterT1 l
  else s

/-- A lane in COLD detects a wake tone or data (R246). -/
def Pkg.wakeTone (s : Pkg) (l : Nat) : Pkg :=
  if s.laneSt l = .cold then
    let s := if s.portSt (lanePort l) = .lowpwr then s.updPort (lanePort l) fun x => { x with exiting := true } else s
    (s.p .LNK_LANE_STAT_SIG_DET l 1).coldExit l
  else s

/-! ## PRBS (R248, R249) -/

/-- One bit in error at checker position `a` while locked (R248): counted; 1,024 errors within 4,096 bits drop the lock. -/
def Pkg.chkError (s : Pkg) (l a : Nat) : Pkg :=
  let x := s.lane l
  let s := (s.inc .LNK_PRBS_ERR l).p .LNK_PRBS_STAT_ERR_SEEN l 1
  let e := (a :: x.errs).take 1024
  let drop := match e.getLast? with
    | some o => e.length == 1024 && decide (a < o + 4096)
    | none => false
  if drop then (s.setLane l { x with errs := [], run := 0 }).p .LNK_PRBS_STAT_CHK_LOCK l 0
  else s.setLane l { x with errs := e, run := 0 }

/-- One received bit (R248). Unlocked, the checker takes its register from the data and locks after 64 bits in a row that follow the pattern;
locked, it goes on from its own copy and counts. -/
def Pkg.chkBit (s : Pkg) (l : Nat) (v : Bool) : Pkg :=
  let x := s.lane l
  let pat := s.g .LNK_PRBS_CFG_CHK_PAT l
  let want := prbsNext pat x.chk
  if s.b .LNK_PRBS_STAT_CHK_LOCK l then
    let s := (s.setLane l { x with chk := prbsShift x.chk want, pos := x.pos + 1 }).inc .LNK_PRBS_BITS l
    if v = want then s else s.chkError l x.pos
  else
    let reg := prbsShift x.chk v
    let run := if v = want && regInPattern pat (s.g .LNK_PRBS_USER l) reg then x.run + 1 else 0
    let s := s.setLane l { x with chk := reg, pos := x.pos + 1, run := min 64 run }
    if 64 ≤ run then s.p .LNK_PRBS_STAT_CHK_LOCK l 1 else s

/-- Bits between two injections in INJ_MODE 2 (R249). -/
def Pkg.injPeriod (s : Pkg) (l : Nat) : Nat := 2 ^ max 10 (s.g .LNK_PRBS_CFG_INJ_PERIOD l)

/-- The generator sends one bit, inverted where `shot` asks for it or a period of INJ_MODE 2 ends with it (R249): the bit sent. -/
def Pkg.genBit (s : Pkg) (l : Nat) (shot : Bool) : Bool × Pkg :=
  let x := s.lane l
  let v := prbsNext (s.g .LNK_PRBS_CFG_GEN_PAT l) x.gen
  let due := s.g .LNK_PRBS_CFG_INJ_MODE l == 2 && decide (s.injPeriod l ≤ x.since + 1)
  let s := s.setLane l { x with gen := prbsShift x.gen v, since := if due then 0 else x.since + 1 }
  if shot || due then (!v, s.incSat .LNK_PRBS_INJ l) else (v, s)

/-- The generator sends one bit; in loopbacks 1 and 2 the checker receives it, in error where `flip` says so. -/
def Pkg.loopBit (s : Pkg) (l : Nat) (shot flip : Bool) : Pkg :=
  let (v, s) := s.genBit l shot
  let lb := s.g .LNK_PRBS_CFG_LOOPBACK l
  if (lb = 1 ∨ lb = 2) ∧ s.b .LNK_PRBS_CFG_CHK_EN l then s.chkBit l (v != flip) else s

/-- The generator drives the transmitter: not in loopback 3, which disables it. -/
def Pkg.genOn (s : Pkg) (l : Nat) : Bool :=
  s.laneSt l == .test && s.b .LNK_PRBS_CFG_GEN_EN l && s.g .LNK_PRBS_CFG_LOOPBACK l != 3

/-- Bits reach the checker in TEST (R248). In loopbacks 0 and 3 `data` are the bits at the pads. In loopbacks 1 and 2 as many bits come from the
generator; in 2, `data` tells which of them the path inside the package spoils. -/
def Pkg.chkReceive (s : Pkg) (l : Nat) (data : List Bool) : Pkg :=
  let lb := s.g .LNK_PRBS_CFG_LOOPBACK l
  if s.laneSt l ≠ .test then s
  else if lb = 0 ∨ lb = 3 then (if s.b .LNK_PRBS_CFG_CHK_EN l then s.each data fun s v => s.chkBit l v else s)
  else if s.genOn l then s.each data fun s v => s.loopBit l false (v && lb == 2)
  else s

/-- One injected bit error (R249). -/
def Pkg.inject (s : Pkg) (l : Nat) : Pkg := if s.genOn l then s.loopBit l true false else s

/-- INJ_SHOT (R249). -/
def Pkg.injShot (s : Pkg) (l : Nat) : Pkg := if s.g .LNK_PRBS_CFG_INJ_MODE l = 1 then s.inject l else s

/-- The generator sends `n` bits that nothing spoils. -/
def Pkg.genRun (s : Pkg) (l : Nat) : Nat → Pkg
  | 0 => s
  | n + 1 => (s.loopBit l false false).genRun l n

/-- A period of 2^INJ_PERIOD transmitted bits ends (R249): its bits that have not been sent yet, the last one inverted. -/
def Pkg.injPeriodic (s : Pkg) (l : Nat) : Pkg :=
  if s.g .LNK_PRBS_CFG_INJ_MODE l = 2 ∧ s.genOn l then s.genRun l (max 1 (s.injPeriod l - (s.lane l).since)) else s

end Sys2Proof.Machine
end

