-- ==== Sys2Proof/Machine/Flits.lean ====
section
/-!
DEFINITION. Flits as bits (R253, R256, R266, R277, R283): header, payload and check of the formats of both series, control messages in their
payload, and the share of each lane.
-/
namespace Sys2Proof.Machine

/-! ## Control messages (R277, Table 140) -/

/-- MSG of a control message. -/
def Ctl.code : Ctl → Nat
  | .ready _ _ => 0x01 | .fail _ => 0x02 | .commit => 0x03 | .abort => 0x04 | .commitAck => 0x05
  | .start _ _ => 0x10 | .startAck _ => 0x11 | .startCancel => 0x12 | .stopAt _ _ => 0x13 | .freezeNow _ => 0x14 | .event _ _ => 0x15 | .halt _ => 0x16
  | .heartbeat => 0x20 | .flush _ => 0x30 | .lpReq _ => 0x31 | .faultNote => 0x32

/-- ARG of a control message. -/
def Ctl.arg : Ctl → Nat
  | .ready uid mask => uid % 2 ^ 64 + mask % 2 ^ 16 * 2 ^ 64
  | .fail c | .startAck c | .freezeNow c => c % 16
  | .start n resume => n % 2 ^ 64 + b2n resume * 2 ^ 64
  | .stopAt n c => n % 2 ^ 64 + c % 16 * 2 ^ 64
  | .event c n => c % 16 + n % 2 ^ 64 * 16
  | .halt p => p % 64
  | .flush d => b2n d
  | .lpReq st => st % 4
  | .commit | .abort | .commitAck | .startCancel | .heartbeat | .faultNote => 0

/-- What MSG and ARG say; none for a code that Table 140 does not give. -/
def Ctl.ofBits (code arg : Nat) : Option Ctl :=
  match code with
  | 0x01 => some (.ready (arg % 2 ^ 64) (bits arg 64 16)) | 0x02 => some (.fail (arg % 16)) | 0x03 => some .commit | 0x04 => some .abort
  | 0x05 => some .commitAck | 0x10 => some (.start (arg % 2 ^ 64) (bit arg 64)) | 0x11 => some (.startAck (arg % 16)) | 0x12 => some .startCancel
  | 0x13 => some (.stopAt (arg % 2 ^ 64) (bits arg 64 4)) | 0x14 => some (.freezeNow (arg % 16)) | 0x15 => some (.event (arg % 16) (bits arg 4 64))
  | 0x16 => some (.halt (arg % 64)) | 0x20 => some .heartbeat | 0x30 => some (.flush (bit arg 0)) | 0x31 => some (.lpReq (arg % 4))
  | 0x32 => some .faultNote | _ => none

/-- Payload of a control message. -/
def CtlMsg.payload (m : CtlMsg) : Nat :=
  m.body.code + 2 ^ 8 * (m.src % 64) + 2 ^ 14 * (m.dst % 64) + 2 ^ 20 * b2n m.bcast + 2 ^ 21 * (m.inst % 16) + 2 ^ 32 * m.body.arg

/-- The control message in a payload. -/
def CtlMsg.ofPayload (w : Nat) : Option CtlMsg :=
  (Ctl.ofBits (w % 2 ^ 8) (bits w 32 80)).map fun c =>
    { src := bits w 8 6, dst := bits w 14 6, bcast := bit w 20, inst := bits w 21 4, body := c }

/-! ## Flits (R256, Table 136) -/

/-- Payload bits of a flit: 112 in the Series 1 format (R283). -/
def payloadBits (s1 : Bool) : Nat := if s1 then 112 else 256

/-- TYPE of a flit. -/
def Flit.type : Flit → Nat
  | .idle => 0 | .lack _ _ _ => 1 | .sched _ => 2 | .schsync _ _ => 3 | .mem _ => 4 | .svc _ => 5 | .ctl _ => 6 | .phase _ _ _ => 7

/-- Payload of a flit. In Series 1 a LACK has no FREED count for MEM. -/
def Flit.payload (s1 : Bool) : Flit → Nat
  | .idle => 0
  | .lack ack nak freed =>
    let f := fun v => if s1 && v == 1 then 0 else freed.getD v 0 % 2 ^ 16
    ack % 2 ^ 12 + 2 ^ 12 * b2n nak + 2 ^ 16 * (f 0 + 2 ^ 16 * (f 1 + 2 ^ 16 * (f 2 + 2 ^ 16 * f 3)))
  | .sched w | .mem w | .svc w => w
  | .schsync mcc d => mcc % 2 ^ 64 + 2 ^ 64 * (d % 2 ^ 11)
  | .ctl m => m.payload
  | .phase own last at_ => own % 2 ^ 64 + 2 ^ 64 * (last % 2 ^ 64) + 2 ^ 128 * (at_ % 2 ^ 64)

/-- A flit's bits: header, payload, check. SEQ is 0 in unsequenced flits. -/
def Flit.image (s1 : Bool) (seq : Nat) (f : Flit) : Nat :=
  let n := payloadBits s1
  let w := (if f.vc.isSome then seq % 2 ^ 12 else 0) + 2 ^ 12 * f.type + 2 ^ 16 * (f.payload s1 % 2 ^ n)
  w + 2 ^ (16 + n) * crc16 (16 + n) w 0xFFFF

/-- Bits of a flit that lane `n` of the port carries (R253, R283), LSB first. -/
def laneShare (s1 : Bool) (w n : Nat) : Nat := if s1 then bits w (36 * n) 36 else bits w (72 * n) 72

/-- The four shares put together again. -/
def flitOfShares (s1 : Bool) (share : Nat → Nat) : Nat :=
  (List.range 4).foldl (fun w n => w + (if s1 then share n % 2 ^ 36 * 2 ^ (36 * n) else share n % 2 ^ 72 * 2 ^ (72 * n))) 0

/-- A received flit with its SEQ; none where it is bad (R256): its check fails or its TYPE is reserved. On a Series 1 port TYPE 4 is
reserved (R283). DESIGN CHOICE: a CTL flit whose MSG Table 140 does not give is bad. -/
def Flit.ofImage (s1 : Bool) (w : Nat) : Option (Nat × Flit) :=
  let n := payloadBits s1
  let p := bits w 16 n
  let body := match bits w 12 4 with
    | 0 => some Flit.idle
    | 1 => some (.lack (p % 2 ^ 12) (bit p 12) ((List.range 4).map fun v => if s1 && v == 1 then 0 else bits p (16 * v + 16) 16))
    | 2 => some (.sched p)
    | 3 => some (.schsync (p % 2 ^ 64) (bits p 64 11))
    | 4 => if s1 then none else some (.mem p)
    | 5 => some (.svc p)
    | 6 => (CtlMsg.ofPayload p).map .ctl
    | 7 => some (.phase (p % 2 ^ 64) (bits p 64 64) (bits p 128 64))
    | _ => none
  if bits w (16 + n) 16 = crc16 (16 + n) (w % 2 ^ (16 + n)) 0xFFFF then body.map fun f => (w % 2 ^ 12, f) else none

/-! ## Link modes (Table 135) and slots of a SCHED flit (R266, R283) -/

/-- Lane rate a link mode requires. -/
def modeRate (m : Nat) : Nat := [1, 1, 2, 3].getD m 0
/-- W of a link mode: lines usable per step. -/
def modeW (m : Nat) : Nat := [64, 64, 32, 16].getD m 0
/-- K of a link mode: steps carried by one SCHED flit. -/
def modeK (m : Nat) : Nat := [2, 2, 4, 2].getD m 1
/-- H of a link mode: the package hop in steps. -/
def modeH (m : Nat) : Nat := [48, 96, 56, 64].getD m 0

/-- Payload bit of line `n` in flit step `i`. -/
def slotBit (m i n : Nat) : Nat := i * modeW m + n
/-- Payload bit of its valid flag. -/
def slotFlag (m i n : Nat) : Nat := (if m = 3 then 32 else 128) + slotBit m i n

end Sys2Proof.Machine
end

