-- ==== Sys2Proof/Machine/TraceRings.lean ====
section
/-!
DEFINITION. The rings of trace in HBM (R294, R295): appending, draining a FIFO into a ring, and a ring that takes what a link brings.
-/
namespace Sys2Proof.Machine

/-- Bytes the ring can take now: all but what the host has not read in STREAM mode. -/
def Pkg.ringRoom (s : Pkg) (d : Nat) : Nat :=
  if s.g .WHY_SINK_CFG_RING_MODE d = 2 then
    s.ringLen d - 1 - (s.g .WHY_RING_WPTR d + s.ringLen d - s.g .WHY_RING_RPTR d) % s.ringLen d
  else s.ringLen d

/-- TRC accesses of the blocks that `n` bytes from ring offset `w` touch (R154). -/
def Pkg.ringAccesses (s : Pkg) (d w n : Nat) : Pkg :=
  s.each (List.range ((w % 32 + n + 31) / 32)) fun s k =>
    let x := (w / 32 + k) * 32 % max 1 (s.ringLen d)
    let seg := d * 144 + x / segBytes
    s.useAccess (s.g .WHY_RING_SEG_STACK seg * stackBytes + s.g .WHY_RING_SEG_SEGMENT seg * segBytes + x % segBytes) .trc

/-- Append bytes to a die's ring in HBM at WPTR (R294, R295). -/
def Pkg.ringAppend (s : Pkg) (d : Nat) : List Byte → Pkg
  | [] => s
  | v :: l =>
    let w := s.g .WHY_RING_WPTR d
    let seg := d * 144 + w / segBytes
    let s := if s.g .WHY_RING_SEG_VALID seg = 1 then
        { s with que.hbm := writeByte s.que.hbm (s.g .WHY_RING_SEG_STACK seg * stackBytes + s.g .WHY_RING_SEG_SEGMENT seg * segBytes + w % segBytes) v }
      else s
    let s := if w + 1 = s.ringLen d then (s.p .WHY_RING_WPTR d 0).inc .WHY_RING_WRAPS d else s.p .WHY_RING_WPTR d (w + 1)
    s.ringAppend d l

/-- The oldest SYNC that lies wholly in the ring: its ring offset (R295). -/
def oldestSync (syncs : List Nat) (wr len : Nat) : Option Nat :=
  ((syncs.filter fun p => decide (wr ≤ p + len) && decide (p + 8232 ≤ wr)).getLast?).map (· % len)

/-- WHY_RING_OLDEST after `wr` bytes have been written to the ring. -/
def Pkg.setOldest (s : Pkg) (d wr : Nat) : Pkg :=
  match oldestSync (s.whey d).syncs wr (s.ringLen d) with
  | some o => s.p .WHY_RING_OLDEST d o
  | none => s

/-- Write up to `n` staged bytes to the die's ring; WPTR, WR, LEVEL and OLDEST follow. -/
def Pkg.drainRing (s : Pkg) (d n : Nat) : Pkg :=
  let w := s.whey d
  let k := min n (min w.fifo.length (s.ringRoom d))
  let s := (s.ringAccesses d (s.g .WHY_RING_WPTR d) k).setWhey d { w with fifo := w.fifo.drop k }
  let s := s.ringAppend d (w.fifo.take k)
  let s := (s.inc .WHY_BYTES_WR d k).p .WHY_FIFO_LEVEL d (s.g .WHY_FIFO_LEVEL d - k)
  s.setOldest d (s.g .WHY_BYTES_WR d)

/-! ## RECEIVE (R294, R295) -/

/-- The stream that a RECEIVE ring takes, one byte on: where its packets begin, and which of them are SYNCs. -/
def Whey.follow (w : Whey) (v : Byte) : Whey :=
  let pos := w.put
  if w.rxLeft ≠ 0 then { w with put := pos + 1, rxLeft := w.rxLeft - 1 }
  else if w.rxHead.length < 7 then { w with put := pos + 1, rxHead := w.rxHead ++ [v] }
  else
    let h := leNat (w.rxHead ++ [v])
    { w with put := pos + 1, rxHead := [], rxLeft := 8 * bits h 8 24 - 8,
             syncs := if h % 16 = 1 then ((pos - 7) :: w.syncs).take 4096 else w.syncs }

/-- Dies whose ring takes the trace bytes that arrive on port `q`. -/
def Pkg.receivers (s : Pkg) (q : Nat) : List Nat :=
  s.wheyDies.filter fun d => s.g .WHY_SINK_CFG_SINK d == 2 && s.g .WHY_SINK_CFG_PORT d == q && s.g .WHY_SINK_CFG_RING_SEGS d != 0

/-- A RECEIVE ring has room for `n` bytes: a STREAM ring waits for the host's read pointer, and a FILL ring that is full takes nothing more
(DESIGN CHOICE for FILL: R295 names packets of the engine's own capture). -/
def Pkg.receiveRoom (s : Pkg) (d n : Nat) : Bool :=
  decide (n ≤ s.ringRoom d) && (s.g .WHY_SINK_CFG_RING_MODE d != 1 || decide ((s.whey d).put + n ≤ s.ringLen d))

/-- A RECEIVE ring takes bytes: TRC accesses, WPTR and OLDEST as for a ring of the engine's own packets. -/
def Pkg.receiveRing (s : Pkg) (d : Nat) (l : List Byte) : Pkg :=
  let s := (s.ringAccesses d (s.g .WHY_RING_WPTR d) l.length).ringAppend d l
  let s := s.setWhey d (l.foldl Whey.follow (s.whey d))
  s.setOldest d (s.whey d).put

end Sys2Proof.Machine
end

