-- ==== Sys2Proof/Machine/Link.lean ====
section
/-!
DEFINITION. Mindiong Link ports (R253-R275): bonding, flits, sequence and replay, credits, scheduled slots, link loss, step
phase and low power. A port is named by its package port number die*4 + p.
-/
namespace Sys2Proof.Machine

/-- Replay entries (R260). -/
def replayMax : Nat := 512

/-- Mode of a port. -/
def Pkg.mode (s : Pkg) (q : Nat) : Nat := s.g .LNK_PORT_STAT_MODE q
/-- Key of channel `v` of a port. -/
def vcKey (q v : Nat) : Nat := q * 4 + v

/-! ## Receive side: buffers and acceptance (R259, R261) -/

/-- Free `n` entries of channel `v`: FREED counts and the next LACK tells the partner. -/
def Pkg.freeVc (s : Pkg) (q v n : Nat) : Pkg :=
  if n = 0 then s
  else ((s.p .LNK_VC_OCC (vcKey q v) (s.g .LNK_VC_OCC (vcKey q v) - n)).inc .LNK_VC_FREED (vcKey q v) n).updPort q
    fun x => { x with lackDue := true }

/-- Discard every entry of channel `v` into DISC (Table 138). -/
def Pkg.discardVc (s : Pkg) (q v : Nat) : Pkg :=
  let n := s.g .LNK_VC_OCC (vcKey q v)
  (s.inc .LNK_VC_DISC (vcKey q v) n).freeVc q v n

/-- A received flit is a sign of life (R271). -/
def Pkg.life (s : Pkg) (q : Nat) : Pkg := if (s.port q).silent then s.updPort q fun x => { x with silent := false } else s

/-- A NAK is owed (R259). -/
def Pkg.oweNak (s : Pkg) (q : Nat) : Pkg := s.updPort q fun x => { x with nak := true }

/-- A sequenced flit with SEQ `seq` on channel `v` arrives without error at an UP port: its class by R259. True when it is
accepted; its buffer entry is then taken. -/
def Pkg.rxSeq (s : Pkg) (q seq v : Nat) : Pkg × Bool :=
  if s.portSt q ≠ .up then (s, false)
  else
    let s := s.life q
    let d := (seq % 4096 + 4096 - s.g .LNK_SEQ_RX_EXP q) % 4096
    if d = 0 then
      let s := ((s.p .LNK_SEQ_RX_EXP q (s.g .LNK_SEQ_RX_EXP q + 1)).inc .LNK_RX_ACCEPT q).inc .LNK_VC_RCVD (vcKey q v)
      let s := s.p .LNK_VC_OCC (vcKey q v) (s.g .LNK_VC_OCC (vcKey q v) + 1)
      (s.updPort q fun x => { x with lackDue := true, nak := false, nakAge := 64 }, true)
    else if 3584 ≤ d then ((s.inc .LNK_RX_DUP q).updPort q fun x => { x with lackDue := true }, false)
    else ((s.inc .LNK_RX_GAP q).oweNak q, false)

/-- A bad flit (R256, R259). -/
def Pkg.badFlit (s : Pkg) (q : Nat) : Pkg :=
  match s.portSt q with
  | .up => (s.inc .LNK_RX_BAD q).oweNak q
  | .align => s.inc .LNK_RX_BAD q
  | _ => s

/-! ## Ends of a link (R264, R272, R273) -/

/-- A LINK_SEND of the port ends in an error (R264, Table 138). -/
def Pkg.sendsFail (s : Pkg) (q : Nat) (r : Reason) : Pkg :=
  let mine := s.sends.filter fun x => x.port == q && !x.ended
  let s := { s with sends := s.sends.filter fun x => x.port != q }
  s.each mine fun s x => if x.deferred then s.deferredDone x.mbx x.seq .fault r else s.failCmd x.mbx x.seq r

/-- Whey bytes sent on the port and not yet acknowledged are lost (R297); an OVERFLOW has them to report (R298). Which cycle's packet they were
of is not kept: it is a free value. -/
def Pkg.wheyLost (s : Pkg) (q : Nat) : Pkg :=
  s.each ((List.range s.part.model.dies).filter fun d => s.g .WHY_SINK_CFG_SINK d == 1 && s.g .WHY_SINK_CFG_PORT d == q) fun s d =>
    let w := s.whey d
    let n := w.unack
    if n = 0 then s
    else
      let (at_, s) := if w.losing then (w.lostAt, s) else s.draw 32
      let s := s.setWhey d { w with fifo := w.fifo.drop n, unack := 0, losing := w.losing || s.capturing, lostAt := at_ }
      ((s.inc .WHY_BYTES_LOST d n).inc .WHY_LOST_PEND d n).p .WHY_FIFO_LEVEL d (s.g .WHY_FIFO_LEVEL d - n)

/-- Everything in a port's buffers is discarded (Table 138, Port DOWN). -/
def Pkg.portDiscard (s : Pkg) (q : Nat) : Pkg :=
  let x := s.port q
  let s := s.inc .LNK_RPL_DROP q x.replay.length
  let s := s.setPort q { x with replay := [], resend := 0, txSch := [], txMem := [], txSvc := [], txCtl := [], held := [], rxMem := [],
                                rxOn := false, rxCnt := 0, rxMcc := 0, group := 0, flush := false }
  let s := s.p .LNK_RPL_USED q 0
  let s := s.each (List.range 4) fun s v => s.discardVc q v
  ((s.sendsFail q .engineFault).pkgItemsDone q true).wheyLost q

/-- The port enters DOWN (R272, R273): counted, everything discarded, and its instance becomes FAULTED with LINK_DOWN. -/
def Pkg.portDown (s : Pkg) (q : Nat) : Pkg :=
  let s := (((s.inc .LNK_DOWN_CNT q).p .LNK_PORT_STAT_DOWN_SEEN q 1).portDiscard q).portDisable q
  let s := (s.updPort q fun x => { x with silent := false }).setPortSt q .down
  match s.portOwner q with
  | some i => s.fault i .linkDown
  | none => s

/-- The port has no owner any more (R254): EN clears, and it is not the CTL_UP port. -/
def Pkg.portUnowned (s : Pkg) (q : Nat) : Pkg :=
  let s := if s.upPort = some q then s.ps [(.LNK_CAS_STAT_UP_VALID, 0, 0), (.LNK_CAS_STAT_UP_PORT, 0, 0)] else s
  s.ps [(.LNK_PORT_CTRL_EN, q, 0), (.LNK_PORT_STAT_OWNED, q, 0), (.LNK_PORT_STAT_OWNER, q, 0), (.LNK_PORT_STAT_ID_ERR, q, 0),
    (.LNK_PORT_STAT_RATE_ERR, q, 0), (.LNK_PORT_STAT_FREQ_ERR, q, 0), (.LNK_PORT_STAT_PHASE_ERR, q, 0), (.LNK_PORT_STAT_LP_BLOCKED, q, 0)]

/-- The port goes OFF; its counters keep their values (Table 138). -/
def Pkg.portGone (s : Pkg) (q : Nat) : Pkg :=
  ((((s.portDiscard q).portDisable q).setPort q {}).p .LNK_PORT_STAT_MODE q 0).setPortSt q .off

/-- The port loses its owner (R193, R254): it goes OFF; one that has a message about a failed load to send (`closing`) discards all else and goes
OFF once the message is acknowledged (R192). -/
def Pkg.portOff (s : Pkg) (q : Nat) : Pkg :=
  let x := s.port q
  let s := s.portUnowned q
  if x.closing ∧ s.portSt q = .up ∧ x.txCtl ≠ [] then
    let s := s.updPort q fun x => { x with txSch := [], txMem := [], txSvc := [], held := [], rxMem := [], rxOn := false, rxCnt := 0, rxMcc := 0,
                                           ctlUp := false, ctlDown := false, sched := false }
    (s.each [0, 1, 2] fun s v => s.discardVc q v).sendsFail q .engineFault |>.wheyLost q
  else s.portGone q

/-- A closing port whose messages have been acknowledged goes OFF. -/
def Pkg.portClose (s : Pkg) (q : Nat) : Pkg :=
  let x := s.port q
  if x.closing && x.txCtl.isEmpty && x.replay.isEmpty then s.portGone q else s

/-! ## Bonding and step phase (R254, R255, R274) -/

/-- All four lanes are in T5 at one rate (Table 134). -/
def Pkg.lanesT5 (s : Pkg) (q : Nat) : Bool :=
  (portLanes q).all fun l => s.laneSt l == .train && s.g .LNK_LANE_STAT_PHASE l == 5 &&
    s.g .LNK_LANE_STAT_RATE l == s.g .LNK_LANE_STAT_RATE (q * 4)

/-- The identity check of R255: one partner, lanes in order, and the partner of the LINKCFG record. -/
def Pkg.bondId (s : Pkg) (q : Nat) : Bool :=
  let id := fun n => s.g .LNK_LANE_PARTNER_ID (q * 4 + n)
  let peer := id 0 / 4
  let pkg := bits (id 0) 7 6
  let prt := bits (id 0) 4 3 * 4 + bits (id 0) 2 2
  let x := s.port q
  ((List.range 4).all fun n => id n / 4 % 2 ^ 11 == peer % 2 ^ 11 && id n % 4 == n) &&
    (!x.cfgd || (pkg == x.peerPkg && prt == x.peerPort)) && (!x.cfgd || pkg != s.part.pkgId)

/-- A bonding attempt with the frequency offset and the skew as measured (R255): from WAIT or RECOVER into BOND, and on into
ALIGN when every check passes. -/
def Pkg.portBond (s : Pkg) (q ppb skewPs : Nat) : Pkg :=
  let st := s.portSt q
  if (st = .wait ∨ st = .recover ∨ st = .bond) ∧ s.lanesT5 q then
    let s := s.setPortSt q .bond
    let id := s.g .LNK_LANE_PARTNER_ID (q * 4)
    let s := s.ps [(.LNK_PORT_PARTNER_PKG, q, bits id 7 6), (.LNK_PORT_PARTNER_PORT, q, bits id 4 3 * 4 + bits id 2 2),
      (.LNK_PORT_PARTNER_VALID, q, 1)]
    let idErr := !s.bondId q || decide (10000 < skewPs)
    let rateErr := s.g .LNK_LANE_STAT_RATE (q * 4) != modeRate (s.mode q)
    let freqErr := decide (2000 < ppb)
    let s := s.ps [(.LNK_PORT_STAT_ID_ERR, q, b2n idErr), (.LNK_PORT_STAT_RATE_ERR, q, b2n rateErr), (.LNK_PORT_STAT_FREQ_ERR, q, b2n freqErr)]
    if idErr || rateErr || freqErr then s
    else
      let s := s.each (portLanes q) fun s l => s.laneTo l .active 0
      (s.updPort q fun x => { x with phases := 0 }).setPortSt q .align
  else s

/-- Entry to UP (R261): the first LACK rebases the credits. -/
def Pkg.portUp (s : Pkg) (q : Nat) : Pkg :=
  (s.updPort q fun x => { x with rebase := true, lackDue := true, silent := false, resend := 0, realign := false, phases := 0, ph0 := none }).setPortSt q .up

/-- Step-phase offset from one PHASE exchange (R274): the partner's count minus the own at the same instant, with the one-way
delay half the round trip. `own` is the count at receipt, `echo` the own count the partner received and `at_` the partner's count
when it did. -/
def phaseOffset (own theirs echo at_ : Nat) : Int :=
  let trip : Int := ((own : Int) - echo) - ((theirs : Int) - at_)
  (theirs : Int) + (trip + 1) / 2 - own

/-- PHASE round trips of a full alignment (R274). -/
def fullAlign : Nat := 4096

/-- Exit from LOWPWR begins: the lanes' targets become 0. -/
def Pkg.lpExit (s : Pkg) (q : Nat) : Pkg :=
  if s.portSt q = .lowpwr ∧ !(s.port q).exiting then
    let s := s.updPort q fun x => { x with exiting := true }
    (s.each (portLanes q) fun s l => s.applyTgt l 0).portReact q
  else s

/-- What a full alignment tells of the partner's step rate (R440): its count has grown slower than the own one, faster, or as fast. The two rates
of Table 4 stand 4 to 5. -/
def rateSlow (own0 own theirs0 theirs : Nat) (ownSlow : Bool) : Bool :=
  let d := theirs - theirs0
  let e := own - own0
  if 9 * d < 8 * e then true else if 9 * e < 8 * d then false else ownSlow

/-- A PHASE flit is received, `elapsed` step periods after the last event that told the count (R274). In LOWPWR it shows that the partner has
begun the exit (R275). DESIGN CHOICE: a full alignment that REALIGN asks for on a port that is not CTL_UP leads to UP only within the guard. -/
def Pkg.phaseFlit (s : Pkg) (q elapsed theirs echo at_ : Nat) : Pkg :=
  let s := s.inc .LNK_STEP_CNT 0 elapsed
  match s.portSt q with
  | .up => s.life q
  | .lowpwr => s.lpExit q
  | .align =>
    let own := s.g .LNK_STEP_CNT 0
    let s := s.updPort q fun x => { x with phLast := theirs, phAt := own, phases := x.phases + 1, ph0 := some (x.ph0.getD (theirs, own)) }
    let x := s.port q
    let off := phaseOffset own theirs echo at_
    let s := s.p .LNK_PORT_STAT_PHASE_OFF q (wrapByte off)
    let near := decide (-4 ≤ off) && decide (off ≤ 4)
    let slave := x.ctlUp && !s.isMaster
    let full := if slave then x.realign || !near || !s.b .LNK_CAS_STAT_ALIGNED 0 else x.realign
    if full ∧ x.phases < fullAlign then s
    else if full ∧ slave then
      let (t0, o0) := x.ph0.getD (theirs, own)
      let s := { s with cas.slow := some (rateSlow o0 own t0 theirs s.rootSlow) }
      (s.ps [(.LNK_STEP_CNT, 0, ((own : Int) + off).toNat), (.LNK_CAS_STAT_ALIGNED, 0, 1), (.LNK_PORT_STAT_PHASE_OFF, q, 0),
        (.LNK_PORT_STAT_PHASE_ERR, q, 0)]).portUp q
    else if near then (s.p .LNK_PORT_STAT_PHASE_ERR q 0).portUp q
    else s.p .LNK_PORT_STAT_PHASE_ERR q 1
  | _ => s
where
  /-- An offset held to the signed range of PHASE_OFF. -/
  wrapByte (x : Int) : Nat := ((max (-128) (min 127 x)) % 256).toNat

/-! ## Transmit side (R258-R263, R266) -/

/-- A sequenced flit on channel `v` may go: a replay entry and a credit are free. -/
def Pkg.canSend (s : Pkg) (q v : Nat) : Bool :=
  decide ((s.port q).replay.length < replayMax) && decide (0 < s.g .LNK_VC_CRD_AVAIL (vcKey q v))

/-- Send a new sequenced flit: it takes the next SEQ, a credit and a replay entry. -/
def Pkg.sendNew (s : Pkg) (q v : Nat) (f : Flit) : Pkg :=
  let seq := s.g .LNK_SEQ_TX_NEXT q
  let s := ((s.p .LNK_SEQ_TX_NEXT q (seq + 1)).inc .LNK_TX_NEW q).inc .LNK_VC_SENT (vcKey q v)
  let s := s.p .LNK_VC_CRD_AVAIL (vcKey q v) (s.g .LNK_VC_CRD_AVAIL (vcKey q v) - 1)
  let s := s.updPort q fun x => { x with replay := x.replay ++ [{ seq := seq, body := f }], wire := some (f.image (s.strapped q) seq),
                                         since := x.since + 1, nakAge := min 64 (x.nakAge + 1) }
  s.p .LNK_RPL_USED q (s.port q).replay.length

/-- The LACK a port sends now (Table 136). -/
def Pkg.lackNow (s : Pkg) (q : Nat) (nak : Bool) : Flit :=
  .lack ((s.g .LNK_SEQ_RX_EXP q + 4095) % 4096) nak ((List.range 4).map fun v => s.g .LNK_VC_FREED (vcKey q v) % 2 ^ 16)

/-- Send a LACK. -/
def Pkg.sendLack (s : Pkg) (q : Nat) (nak : Bool) : Pkg :=
  let f := s.lackNow q nak
  s.updPort q fun x => { x with wire := some (f.image (s.strapped q) 0), since := 0, lackDue := false, nak := if nak then false else x.nak
                                nakAge := if nak then 0 else min 64 (x.nakAge + 1) }

/-- Flit periods from one alignment word to the next (R257). -/
def alignEvery : Nat := 8192

/-- A LACK must go now (R258, R271): at least one goes in every 32 flit periods, and one that would fall on the alignment word goes before it. -/
def LPort.lackTime (x : LPort) : Bool := decide (31 ≤ x.since) || (decide (30 ≤ x.since) && x.period + 2 == alignEvery)

/-- What the transmitter sends in one flit period (R254, R257, R258): one period in 8,192 carries an alignment word. A Series 1 port has no MEM
channel (R283). -/
def Pkg.flitSend (s : Pkg) (q : Nat) : Pkg :=
  let s1 := s.strapped q
  let turn := (s.port q).period + 1 == alignEvery && (s.portSt q == .align || s.portSt q == .up)
  let x := s.port q
  let s := s.setPort q { x with period := if turn then 0 else x.period + 1 }
  if turn then s.updPort q fun x => { x with wire := none, since := x.since + 1, nakAge := min 64 (x.nakAge + 1) }
  else
  let x := s.port q
  match s.portSt q with
  | .align => s.setPort q { x with wire := some ((Flit.phase (s.g .LNK_STEP_CNT 0) x.phLast x.phAt).image s1 0) }
  | .up =>
    if 0 < x.resend then
      let f := x.replay.getD (x.replay.length - x.resend) { seq := 0, body := .idle }
      (s.setPort q { x with resend := x.resend - 1, wire := some (f.body.image s1 f.seq), since := x.since + 1,
                            nakAge := min 64 (x.nakAge + 1) }).inc .LNK_RPL_FLITS q
    else if x.nak && x.nakAge == 64 then s.sendLack q true
    else if x.lackTime then s.sendLack q false
    else
      match x.txSch, s.canSend q 0 with
      | f :: l, true => (s.setPort q { x with txSch := l }).sendNew q 0 f
      | _, _ => match x.txCtl, s.canSend q 3 with
        | f :: l, true => (s.setPort q { x with txCtl := l }).sendNew q 3 f
        | _, _ => match x.txSvc, s.canSend q 2 with
          | f :: l, true => (s.setPort q { x with txSvc := l }).sendNew q 2 f
          | _, _ => match x.txMem, s.canSend q 1 && !s1 with
            | f :: l, true => (s.setPort q { x with txMem := l }).sendNew q 1 f
            | _, _ =>
              if x.lackDue then s.sendLack q false
              else s.setPort q { x with wire := some (Flit.idle.image s1 0), since := x.since + 1, nakAge := min 64 (x.nakAge + 1) }
  | _ => s

/-- The engine of an acknowledged MEM flit is told: Whey bytes leave the FIFO (R297), a LINK_SEND ends with its LAST flit (R348), a
DMA item between packages completes (R369). -/
def Pkg.memAcked (s : Pkg) (q w : Nat) : Pkg :=
  let n := bits w 8 8
  let d := bits w 4 3
  match w % 16 with
  | 1 =>
    let y := s.whey d
    let s := s.setWhey d { y with fifo := y.fifo.drop n, unack := y.unack - n }
    (s.inc .WHY_BYTES_WR d n).p .WHY_FIFO_LEVEL d (s.g .WHY_FIFO_LEVEL d - n)
  | 2 =>
    if bit w 7 then
      match s.sends.find? fun x => x.port == q with
      | some x =>
        let s := { s with sends := s.sends.erase x }
        if x.ended then s
        else if x.deferred then s.deferredDone x.mbx x.seq .ok .none else s.done x.mbx x.seq (leVals x.bytes 4)
      | none => s
    else s
  | 3 => if bit w 7 then s.pkgItemsDone q false else s
  | _ => s

/-- A replay starts (R260): every unacknowledged flit is to be resent; counted once. -/
def Pkg.replayAll (s : Pkg) (q : Nat) : Pkg :=
  let x := s.port q
  if x.replay.isEmpty then s else (s.setPort q { x with resend := x.replay.length }).inc .LNK_RPL_EVT q

/-- A LACK is received (R260-R263). The first after entry to UP rebases the credits and starts the replay of RECOVER. -/
def Pkg.lack (s : Pkg) (q ack : Nat) (nak : Bool) (freed : List Nat) : Pkg :=
  if s.portSt q ≠ .up then s
  else
    let s := s.life q
    let x := s.port q
    let used := x.replay.length
    let first := s.g .LNK_SEQ_TX_NEXT q + 4096 - used
    let n := (ack + 1 + 4096 * 2 - first % 4096) % 4096
    let n := if n ≤ used then n else 0
    let gone := x.replay.take n
    let s := s.setPort q { x with replay := x.replay.drop n, resend := min x.resend (used - n), rebase := false
                                  base := (List.range 4).map fun v => freed.getD v 0 }
    let s := (s.inc .LNK_ACKED q n).p .LNK_RPL_USED q (used - n)
    let s := s.each (List.range 4) fun s v =>
      let k := vcKey q v
      if x.rebase then
        let lim := s.g .LNK_VC_CRD_LIMIT k
        (s.inc .LNK_VC_RESTORED k (lim - s.g .LNK_VC_CRD_AVAIL k)).p .LNK_VC_CRD_AVAIL k lim
      else
        let d := dist16 (freed.getD v 0) (x.base.getD v 0)
        (s.inc .LNK_VC_CRRET k d).p .LNK_VC_CRD_AVAIL k (s.g .LNK_VC_CRD_AVAIL k + d)
    let s := s.each gone fun s f => match f.body with
      | .mem w => s.memAcked q w
      | _ => s
    (if x.rebase || nak then s.replayAll q else s).portClose q

/-- No LACK has advanced ACK_SEQ for 2 us while flits are unacknowledged (R260). -/
def Pkg.replayTimeout (s : Pkg) (q : Nat) : Pkg := if s.portSt q = .up then s.replayAll q else s

/-! ## Scheduled slots (R266-R270) -/

/-- Absolute step of a cycle and step of instance `i`. -/
def Pkg.absStep (s : Pkg) (i mcc step : Nat) : Nat := mcc * s.depth i + step

/-- Scheduled flits wait that cannot leave (R269): no credit, no replay entry, or the port is not UP, with two held. -/
def Pkg.txBlocked (s : Pkg) (q : Nat) : Bool :=
  let x := s.port q
  decide (2 ≤ x.txSch.length) && (s.portSt q != .up || !s.canSend q 0)

/-- The slot due on port `q` at absolute step `a` (R267): none while its flit has not been received; steps before the partner's
first send carry nothing. -/
def Pkg.slotDue (s : Pkg) (q a : Nat) : Option (Nat × Nat) :=
  let m := s.mode q
  let h := modeH m - 5
  if a < h then some (0, 0)
  else
    let k := modeK m
    let x := a - h
    match (s.port q).held.find? fun e => e.1 == x / k * k with
    | some e => some (e.2, x % k)
    | none => none

/-- Value of receive line `n` at absolute step `a`: 0 not valid, else 2 plus the bit. -/
def Pkg.rxLine (s : Pkg) (q n a : Nat) : Nat :=
  match s.slotDue q a with
  | some (w, i) =>
    let m := s.mode q
    if modeW m ≤ n then 0 else if bit w (slotFlag m i n) then 2 + b2n (bit w (slotBit m i n)) else 0
  | none => 0

/-- Free the SCHED entries whose last slot has been presented by the end of absolute step `a` (R261). -/
def Pkg.freeSlots (s : Pkg) (q a : Nat) : Pkg :=
  let m := s.mode q
  let h := modeH m - 5
  let x := s.port q
  let past := fun (e : Nat × Nat) => decide (e.1 + modeK m - 1 + h ≤ a)
  let n := (x.held.filter past).length
  if n = 0 then s else (s.setPort q { x with held := x.held.filter fun e => !past e }).freeVc q 0 n

/-- SCHED_ERR (R266): the port goes to DOWN at once. -/
def Pkg.schedErr (s : Pkg) (q : Nat) : Pkg := (s.p .LNK_PORT_STAT_SCHED_ERR q 1).portDown q

/-- An accepted SCHED flit (R266-R268): held until its last slot has been presented; freed at once if that step has passed. -/
def Pkg.schedTake (s : Pkg) (q payload : Nat) : Pkg :=
  match s.portOwner q with
  | none => s.discardVc q 0
  | some i =>
    let x := s.port q
    let base := s.absStep i (x.rxMcc - 1) 0 + modeK (s.mode q) * x.rxCnt
    let s := s.setPort q { x with rxCnt := x.rxCnt + 1, held := x.held ++ [(base, payload)] }
    let (mcc, pos) := s.position i
    let now := s.absStep i mcc pos
    if now = 0 then s else s.freeSlots q (now - 1)

/-- An accepted SCHSYNC flit (R266): its entry is freed at once. -/
def Pkg.schsyncTake (s : Pkg) (q mcc depth : Nat) : Pkg :=
  match s.portOwner q with
  | none => s.discardVc q 0
  | some i =>
    let s := s.freeVc q 0 1
    let x := s.port q
    let d := s.depth i
    if (x.rxOn && x.rxCnt != d / modeK (s.mode q)) || depth != d || mcc != x.rxMcc then s.schedErr q
    else s.setPort q { x with rxOn := true, rxCnt := 0, rxMcc := mcc + 1 }

/-! ## Memory channel (R297, R348, R369) -/

/-- Data bytes of a Whey or LINK_SEND flit. -/
def memBytes (w : Nat) : List Byte := leBytes (w / 2 ^ 16) (bits w 8 8)

/-- A LINK_RECV takes the bytes of one flit as far as its buffer goes (R348): it ends with the message or when its buffer is full, or in an error
where its transfer fails. What it leaves of the flit stays for the next one. -/
def Pkg.recvTake (s : Pkg) (r : RecvJob) (w : Nat) : Pkg × Option Nat :=
  let all := memBytes w
  let room := r.len - r.got
  let n := min all.length (match r.fail with | some k => min room (k - r.got) | none => room)
  let s := { s with host := writeBytes s.host (r.addr + r.got) (all.take n) }
  let got := r.got + n
  let rest := if n < all.length then some (2 + bits w 4 4 * 16 + (all.length - n) * 2 ^ 8 + leNat (all.drop n) * 2 ^ 16) else none
  let ended := bit w 7 && rest.isNone
  let same := fun (y : RecvJob) => y.mbx == r.mbx && y.seq == r.seq
  let drop := { s with recvs := s.recvs.filter fun y => !same y }
  if r.fail.isSome && rest.isSome && decide (got < r.len) then (drop.failCmd r.mbx r.seq .hostDma, rest)
  else if ended ∨ r.len ≤ got then (drop.done r.mbx r.seq (leVals got 4 ++ [b2n ended]), rest)
  else ({ s with recvs := s.recvs.map fun y => if same y then { y with got := got } else y }, rest)

/-- A LINK_SEND flit is delivered to the oldest LINK_RECV of its port, and what that one leaves of it to the next; none where some of it must still
wait. `fuel` bounds the LINK_RECVs. -/
def Pkg.recvFlit (s : Pkg) (q w : Nat) : Nat → Pkg × Option Nat
  | 0 => (s, some w)
  | fuel + 1 =>
    match s.recvs.find? fun r => r.port == q with
    | some r =>
      match s.recvTake r w with
      | (s, some w) => s.recvFlit q w fuel
      | (s, none) => (s, none)
    | none => (s, some w)

/-- A MEM flit that was accepted goes to its engine (R294, R348, R369), or what is left of it waits: for a LINK_RECV, or for room in a RECEIVE
ring. `resv` is where R144's reserved area begins in the key space of HBM. -/
def Pkg.memDeliver (s : Pkg) (q w : Nat) (resv : Nat → Option Nat) : Pkg × Option Nat :=
  match w % 16 with
  | 1 =>
    let l := memBytes w
    if (s.receivers q).all fun d => s.receiveRoom d l.length then (s.each (s.receivers q) fun s d => s.receiveRing d l, none)
    else (s, some w)
  | 2 => s.recvFlit q w (s.recvs.length + 1)
  | 3 =>
    match resv (bits w 16 64) with
    | some a => ({ s with que.hbm := writeBytes s.que.hbm a (leBytes (w / 2 ^ 80) (bits w 8 8)) }, none)
    | none => (s, none)
  | _ => (s, none)

/-- A flit of the MEM buffer is tried: behind another of its engine that waits it waits too, so that each engine's bytes stay in order. -/
def Pkg.memTry (s : Pkg) (q w : Nat) (resv : Nat → Option Nat) : Pkg :=
  let wait := fun (s : Pkg) (w : Nat) => s.updPort q fun x => { x with rxMem := x.rxMem ++ [w] }
  if (s.port q).rxMem.any fun x => x % 16 == w % 16 then wait s w
  else match s.memDeliver q w resv with
    | (s, some w) => wait s w
    | (s, none) => s.freeVc q 1 1

/-- Deliver what waits in the MEM buffer as far as it can be. -/
def Pkg.memDrain (s : Pkg) (q : Nat) : Pkg :=
  (s.port q).rxMem.foldl (fun s w => s.memTry q w fun _ => none) (s.updPort q fun x => { x with rxMem := [] })

/-- An accepted MEM flit (R348: the event LINK_RX_WAIT where it finds no LINK_RECV). -/
def Pkg.memTake (s : Pkg) (q w : Nat) (resv : Nat → Option Nat) : Pkg :=
  let s := if w % 16 = 2 ∧ !(s.recvs.any fun r => r.port == q) then s.event 4 (s.portOwner q) [q] else s
  s.memTry q w resv

/-! ## Link loss (R271-R273) -/

/-- An UP port receives no error-free flit for 1 us (R272). -/
def Pkg.linkSilence (s : Pkg) (q : Nat) : Pkg := if s.portSt q = .up then s.updPort q fun x => { x with silent := true } else s

/-- The link-down timer reaches LNK_DOWN_TMO (R272): it runs in RECOVER, and in UP after a silence. -/
def Pkg.linkDownTimeout (s : Pkg) (q : Nat) : Pkg :=
  if s.portSt q = .recover ∨ (s.portSt q = .up ∧ (s.port q).silent) then (if (s.port q).closing then s.portGone q else s.portDown q) else s

/-- FAULT_CLR is refused while the owner is RUNNING, PAUSED or FROZEN (R273). -/
def Pkg.portClrRefused (s : Pkg) (q : Nat) : Bool :=
  match s.portOwner q with
  | some i => s.runState i == .running || s.runState i == .paused || s.runState i == .frozen
  | none => false

/-- FAULT_CLR (R273). -/
def Pkg.portFaultClr (s : Pkg) (q : Nat) : Pkg := if s.portSt q = .down then s.setPortSt q .wait else s

/-- Counters of Table 142 that SNAP captures. -/
def portSnapFields : List Fld :=
  [.LNK_TX_NEW, .LNK_ACKED, .LNK_RPL_DROP, .LNK_RPL_EVT, .LNK_RPL_FLITS, .LNK_RX_ACCEPT, .LNK_RX_BAD, .LNK_RX_GAP, .LNK_RX_DUP,
   .LNK_STALL_RX, .LNK_STALL_TX, .LNK_DOWN_CNT, .LNK_RPL_USED, .LNK_SEQ_TX_NEXT, .LNK_SEQ_RX_EXP]
@[inherit_doc portSnapFields] def vcSnapFields : List Fld :=
  [.LNK_VC_OCC, .LNK_VC_SENT, .LNK_VC_CRRET, .LNK_VC_RESTORED, .LNK_VC_RCVD, .LNK_VC_FREED, .LNK_VC_DISC]

/-- SNAP of a port (R285). AVAIL reads 0 before the first capture (Table 142), although a port holds LIMIT credits from power-on reset, as
R263 needs; its captured value is therefore kept as it is. -/
def Pkg.portSnap (s : Pkg) (q : Nat) : Pkg :=
  (s.snapFields portSnapFields q).each (List.range 4) fun s v =>
    let k := vcKey q v
    let s := s.snapFields vcSnapFields k
    { s with snaps := s.snaps.put (fkey .LNK_VC_CRD_AVAIL k) (s.g .LNK_VC_CRD_AVAIL k) }

/-! ## Low power (R275) -/

/-- A value of LP applies (R275): LP_REQ tells the partner; 0 begins an exit. -/
def Pkg.lpApply (s : Pkg) (q v : Nat) : Pkg :=
  let s := (s.writeNow .LNK_PORT_CTRL_LP q v).sendCtl q { src := s.part.pkgId, inst := (s.portOwner q).getD 0, body := .lpReq v }
  let s := if v = 0 then s.p .LNK_PORT_STAT_LP_BLOCKED q 0 else s
  if v = 0 then s.lpExit q else s

/-- The waiting LP write applies at a flit boundary. -/
def Pkg.lpBoundary (s : Pkg) (q : Nat) : Pkg :=
  match s.pendw.find? fun w => w.fld == .LNK_PORT_CTRL_LP && w.idx == q with
  | some w => s.lpApply q w.val
  | none => s

/-- A write of LP (R257): at the next flit boundary of an UP port, on completion otherwise. -/
def Pkg.lpWrite (s : Pkg) (q v : Nat) : Pkg :=
  if s.portSt q = .up then s.addPend { fld := .LNK_PORT_CTRL_LP, idx := q, val := v, wait := 0 } else s.lpApply q v

/-- Entry to LOWPWR (R275): both ends request it, every sequenced flit of both ends is acknowledged, and no RUNNING owner uses
scheduled lines. -/
def Pkg.lowpwrEntry (s : Pkg) (q : Nat) (partnerDone : Bool) : Pkg :=
  let x := s.port q
  let own := s.g .LNK_PORT_CTRL_LP q
  if s.portSt q = .up ∧ own ≠ 0 ∧ x.lpPeer ≠ 0 then
    let busy := x.sched && (match s.portOwner q with | some i => s.runState i == .running | none => false)
    if busy then s.p .LNK_PORT_STAT_LP_BLOCKED q 1
    else if x.replay.isEmpty && x.txSch.isEmpty && x.txCtl.isEmpty && x.txSvc.isEmpty && x.txMem.isEmpty && partnerDone then
      let s := (s.p .LNK_PORT_STAT_LP_BLOCKED q 0).setPortSt q .lowpwr
      s.each (portLanes q) fun s l => s.applyTgt l (min own x.lpPeer)
    else s
  else s

/-- Ask for a link: a port in LOWPWR begins its exit when a CTL, SVC or MEM flit is queued (R275). -/
def Pkg.lpWake (s : Pkg) (q : Nat) : Pkg :=
  let x := s.port q
  if x.txCtl.isEmpty && x.txSvc.isEmpty && x.txMem.isEmpty then s else s.lpExit q

end Sys2Proof.Machine
end

