-- ==== Sys2Proof/Machine/Fabric.lean ====
section
/-!
DEFINITION. One step of the scheduled interconnect (R64-R86): line sources, captures, stage registers, peripheral groups.
A line value is 0 when it is not valid, otherwise 2 plus its bit (R65). Regions are numbered die*64 + g.
-/
namespace Sys2Proof.Machine

/-- Key of slot `t` of region `r` in the instruction and route arrays. -/
def slotKey (r t : Nat) : Nat := (r * 1024 + t) * 2048
/-- Key of record field `pos` of slot `t` of a region or a die. -/
def recKey (u t pos : Nat) : Nat := (u * 1024 + t) * 4096 + pos

/-! Positions in the order of Table 36 (region) and Table 39 (die). -/

/-- First position of the DEG fields. -/
def posDEG : Nat := 2048
/-- First position of the EXS fields. -/
def posEXS : Nat := 2080
/-- First position of the PGS fields. -/
def posPGS : Nat := 2592
/-- Fields of a region record. -/
def regionFields : Nat := 2720
/-- First position of the BLN fields. -/
def posBLN : Nat := 2048
/-- First position of the THR fields. -/
def posTHR : Nat := 3072
/-- First position of the PTX fields. -/
def posPTX : Nat := 3328
/-- First position of the OCV fields. -/
def posOCV : Nat := 3584
/-- First position of the OCE fields. -/
def posOCE : Nat := 3712
/-- Fields of a die record. -/
def dieFields : Nat := 3840

/-- Data-store bit `a` of BP `bp` (package number). -/
def Fabric.bit (f : Fabric) (bp a : Nat) : Nat := f.data.at (bp * 2048 + a)

/-- The result address whose content the local-result lines carry in step `t` of an instance of depth `d` (R47). -/
def prevAddr (d t : Nat) : Nat := if t = 0 then d - 1 else t - 1

/-- Local-result line of a BP in step `t`: always valid. -/
def Fabric.local (f : Fabric) (d t bp : Nat) : Nat := 2 + f.bit bp (prevAddr d t)

/-- Region source line `src` of region `r` (Table 38). A reserved number is not valid (R477). -/
def Pkg.regSource (s : Pkg) (r src : Nat) : Nat :=
  if src < 0x200 then s.fab.exp.at (r * 512 + src)
  else if src < 0x400 then 2 + b2n (bit (s.wunit (r * 32 + (src - 0x200) / 16)).out (src % 16))
  else if src < 0x600 then
    let v := s.cav.lines.at ((r * 16 + (src - 0x400) / 32) * 2 + src / 16 % 2)
    if v < 65536 then 0 else 2 + b2n (bit v (src % 16))
  else if src < 0x620 then s.fab.ing.at (r * 32 + (src - 0x600))
  else 0

/-- Value of an INB or DEG field (Table 37). -/
def Pkg.regField (s : Pkg) (r f : Nat) : Nat := if bit f 15 then s.regSource r (bits f 0 11) else 0

/-- Inbound line `n` of cluster `c` in step `t` (R64). -/
def Pkg.inbound (s : Pkg) (r t c n : Nat) : Nat := s.regField r (s.fab.regRec.at (recKey r t (c * 64 + n)))

/-- Owner of an input broadcast line, by package cell number. -/
def Pkg.cellOwned (s : Pkg) (i cell : Nat) : Bool := s.bankOwner (cell / 32) == some i

/-- Sample an input broadcast line carries in step `t` (R75). -/
def Pkg.broadcast (s : Pkg) (t cell : Nat) : Nat := if 3 ≤ t then s.fab.ibNow.at cell else s.fab.ibPrev.at cell

/-- Die source line `src` of die `d` for instance `i` in step `t` at absolute step `a` (Table 40); a source of another owner is not
valid. -/
def Pkg.dieSource (s : Pkg) (i d t a src : Nat) : Nat :=
  if src < 0x800 then
    if s.regionOwner (d * 64 + src / 32) = some i then s.fab.egr.at (d * 2048 + src) else 0
  else if src < 0xC00 then
    let k := (src - 0x800) / 256
    let n := src % 256
    match s.part.model.neighbour d k with
    | some e => if s.brgOwner e (oppSide k) (n / 32) = some i then s.fab.arr.at ((e * 4 + oppSide k) * 256 + n) else 0
    | none => 0
  else if src < 0xD00 then
    let n := src - 0xC00
    if s.thrOwner d (n / 32) = some i then s.fab.thr.at ((d * 256 + n) * 4 + 3) else 0
  else if src < 0xE00 then
    let q := d * 4 + (src - 0xD00) / 64
    if s.portOwner q = some i then s.rxLine q (src % 64) a else 0
  else if src < 0x1000 then 0
  else if src < 0x1400 then
    let cell := src - 0x1000
    if s.cellOwned i cell then s.broadcast t cell else 0
  else 0

/-- Value of a die field (R73). -/
def Pkg.dieField (s : Pkg) (i d t a f : Nat) : Nat := if bit f 15 then s.dieSource i d t a (bits f 0 13) else 0

/-- Instance `i` owns the destination at position `pos` of die `d` (R83). -/
def Pkg.dieDest (s : Pkg) (i d pos : Nat) : Bool :=
  if pos < posBLN then s.regionOwner (d * 64 + pos / 32) == some i
  else if pos < posTHR then s.brgOwner d ((pos - posBLN) / 256) (pos % 256 / 32) == some i
  else if pos < posPTX then s.thrOwner d ((pos - posTHR) / 32) == some i
  else if pos < posOCV then s.portOwner (d * 4 + (pos - posPTX) / 64) == some i
  else if pos < posOCE then s.bankOwner (d * 4 + (pos - posOCV) / 32) == some i
  else s.bankOwner (d * 4 + (pos - posOCE) / 32) == some i

/-- The die fields of slot `t` that instance `i` owns and that are not zero: die, position, field. -/
def Pkg.dieSlot (s : Pkg) (i t : Nat) : List (Nat × Nat × Nat) :=
  (List.range s.part.model.dies).flatMap fun d =>
    ((s.fab.dieRec.range (recKey d t 0) (recKey d t dieFields)).map fun e => (d, e.1 - recKey d t 0, e.2)).filter fun x => s.dieDest i x.1 x.2.1

/-! ## Captures (R46, R65) -/

/-- The captures of region `r` in step `t`: BP (package number) and the input's line value, 0 when it is not valid. -/
def Pkg.captures (s : Pkg) (d r t : Nat) : List (Nat × Nat) :=
  ((s.fab.route.range (slotKey r t) (slotKey r t + 2048)).filter fun e => bit e.2 7).map fun e =>
    let p := e.1 - slotKey r t
    let n := e.2 % 64
    (r * 2048 + p, if bit e.2 6 then s.inbound r t (p / 64) n else s.fab.local d t (r * 2048 + p / 64 * 64 + n))

/-! ## Evaluation of BP instructions (R44-R56, R477) -/

/-- What the BPs of one step read beside the data stores. -/
structure StepCtx where
  inst   : Nat
  step   : Nat
  depth  : Nat
  compat : Bool
  edge   : Nat                     -- edge nets of the cycle (R27)
  gdl    : Nat                     -- global design lines (R88)
  caps   : NStore                  -- captures of the step: BP, 2 plus bit

/-- Operand through selector `a` (R45). -/
def StepCtx.read (x : StepCtx) (f : Fabric) (bp a : Nat) : Nat :=
  let c := x.caps.at bp
  if a = 1024 + x.step ∧ c ≠ 0 then c - 2 else f.bit bp a

/-- Extended source of Table 26; a reserved SEL_D reads 0 (R477). -/
def StepCtx.ext (x : StepCtx) (sel : Nat) : Nat :=
  if sel < 64 then b2n (bit x.edge sel)
  else if 0x100 ≤ sel ∧ sel < 0x110 then b2n (bit x.gdl (sel - 0x100))
  else 0

/-- What evaluating BPs in ascending order leaves: result bits, queue issues by port, ports of WAITs on FREE entries, and the carry
that ripples on: the BP it goes to, its bit and the length of its segment. -/
structure EvalAcc where
  writes : List (Nat × Nat) := []
  issues : List (Nat × Nat × Nat) := []      -- port, entry, descriptor
  frees  : List Nat := []
  carry  : Option (Nat × Nat × Nat) := none

/-- A carry BP (R50, R51, R477): sum bit, carry out and segment length; beyond the eighth BP both bits are free values. -/
def Pkg.carryBP (s : Pkg) (tt a b cin len : Nat) : (Nat × Nat) × Pkg :=
  if len ≤ 8 then
    let n := a + 2 * b + 4 * cin
    ((b2n (bit tt n), b2n (bit tt (8 + n))), s)
  else
    let (x, s) := s.draw 1
    let (y, s) := s.draw 1
    ((x, y), s)

/-- Evaluate one BP's instruction `w`; `o` is the state before the step, `s` carries the free values drawn. -/
def Pkg.evalBP (o : Pkg) (x : StepCtx) (s : Pkg) (acc : EvalAcc) (bp w : Nat) : Pkg × EvalAcc :=
  let rd := fun sel => x.read o.fab bp sel
  let tt := bpTT w
  let a := rd (bpSelA w)
  let b := rd (bpSelB w)
  let c := rd (bpSelC w)
  let put := fun (acc : EvalAcc) (v : Nat) => { acc with writes := (bp, v) :: acc.writes, carry := none }
  match bpClass w with
  | 1 => (s, put acc (b2n (bit tt (a + 2 * b + 4 * c + (if x.compat then 0 else 8 * rd (bpSelD w))))))
  | 2 =>
    let e := x.ext (bpSelD w)
    (s, put acc (b2n (bit tt (if x.compat then a + 2 * b + 4 * e else a + 2 * b + 4 * c + 8 * e))))
  | 3 =>
    if x.compat then (s, { acc with carry := none }) else
    let ((v, co), s) := s.carryBP tt a b c 1
    (s, { put acc v with carry := some (bp + 1, co, 1) })
  | 4 =>
    if x.compat then (s, { acc with carry := none }) else
    let (cin, len) := match acc.carry with
      | some (nx, co, n) => if nx = bp ∧ bp % 64 ≠ 0 then (co, n + 1) else (0, 1)
      | none => (0, 1)
    let ((v, co), s) := s.carryBP tt a b cin len
    (s, { put acc v with carry := some (bp + 1, co, len) })
  | 5 => (s, put acc a)
  | 6 =>
    if bit w 63 then
      let (_, v) := o.flowWord x.inst (bits w 48 12)
      (s, put acc (b2n (bit v (bits w 42 6))))
    else
      let k := bp / 2048 * 8 + bits w 60 3
      let q := o.qport k
      let e := bits w 54 6
      let acc := if q.ent e = .free then { acc with frees := k :: acc.frees } else acc
      (s, put acc (if q.ent e = .done then b2n (bit (q.word.at e) (bits w 48 6)) else 0))
  | 7 =>
    let k := bp / 2048 * 8 + bits w 60 3
    let acc := { acc with carry := none }
    (s, if acc.issues.any fun e => e.1 == k then acc else { acc with issues := acc.issues ++ [(k, bits w 54 6, bits w 48 6)] })
  | _ => (s, { acc with carry := none })

/-- Instruction words of region `r` in slot `t` that are not NOP, in ascending BP order. -/
def Pkg.words (s : Pkg) (r t : Nat) : List (Nat × Nat) :=
  (s.fab.instr.range (slotKey r t) (slotKey r t + 2048)).map fun e => (r * 2048 + (e.1 - slotKey r t), e.2)

/-- Evaluate every BP of the listed regions. -/
def Pkg.evalAll (o : Pkg) (x : StepCtx) (regs : List Nat) : Pkg × EvalAcc :=
  (regs.flatMap fun r => o.words r x.step).foldl (fun sa e => o.evalBP x sa.1 sa.2 e.1 e.2) (o, {})

/-! ## Queue issues (R147-R150) -/

/-- The 16 export lines of cluster `c` of region `r`: their bits and whether all are valid. -/
def Pkg.exports (s : Pkg) (r c : Nat) : Nat × Bool :=
  (List.range 16).foldl (fun (v : Nat × Bool) e =>
    let x := s.fab.exp.at (r * 512 + c * 16 + e)
    (v.1 + (x % 2) * 2 ^ e, v.2 && decide (2 ≤ x))) (0, true)

/-- Take the step's issues, with the export lines of state `o`. -/
def Pkg.takeIssues (s o : Pkg) (i : Nat) (l : List (Nat × Nat × Nat)) : Pkg :=
  s.each l fun s e => s.issue i e.1 e.2.1 e.2.2 (fun c => o.exports (e.1 / 8) c)

/-! ## Peripheral groups (R72) -/

/-- Group `x` of region `r` in step `t`: none when disabled, otherwise its bits and whether all are valid. -/
def Pkg.group (s : Pkg) (r t x : Nat) : Option (Nat × Bool) :=
  let f := s.fab.regRec.at (recKey r t (posPGS + x))
  if bit f 7 then some (s.exports r (f % 32)) else none

/-- Cave ports of region `r` whose address group is enabled in slot `t`. -/
def Pkg.caveGroups (s : Pkg) (r t : Nat) : List Nat :=
  ((s.fab.regRec.range (recKey r t posPGS) (recKey r t (posPGS + 64))).map fun e => (e.1 - recKey r t posPGS) / 2).dedup

/-- Every cave port of the regions takes what its groups carry in state `o`. -/
def Pkg.takeCaves (s o : Pkg) (i t : Nat) (regs : List Nat) : Pkg :=
  s.each regs fun s r => s.each (o.caveGroups r t) fun s p => s.caveTake i (r * 32 + p) (o.group r t (2 * p)) (o.group r t (2 * p + 1))

/-- Operand value of a group: a bit that is not valid reads 0 (R72). -/
def grpVal : Option (Nat × Bool) → Nat
  | some (v, _) => v
  | none => 0

/-- Every word unit of the regions executes its word instruction (R93, R99), with the groups of state `o`; exceptions are recorded. -/
def Pkg.stepUnits (s o : Pkg) (x : StepCtx) (regs : List Nat) : Pkg :=
  s.each regs fun s r => s.each (List.range 32) fun s c =>
    let k := r * 32 + c
    let u := s.wunit k
    let (u', ex) := u.step (s.fab.wstore.at (k * 1024 + u.wpc)) (grpVal (o.group r x.step (64 + 2 * c))) (grpVal (o.group r x.step (65 + 2 * c))) x.edge
    (s.setWunit k u').wuRaise x.inst k x.step u ex

/-! ## Stage registers (R64, R67) -/

/-- Replace the entries of keys that satisfy `own` by `new`. -/
def stageSet (m : NStore) (own : Nat → Bool) (new : List (Nat × Nat)) : NStore := Store.setAll 0 (m.drop own) new

/-- Export lines and egress lines of the regions, at the end of step `t`. -/
def Pkg.regionStages (s o : Pkg) (d t : Nat) (regs : List Nat) : Pkg :=
  let exs := regs.flatMap fun r => (o.fab.regRec.range (recKey r t posEXS) (recKey r t posPGS)).map fun e =>
    let p := e.1 - recKey r t posEXS
    (r * 512 + p, if bit e.2 7 then o.fab.local d t (r * 2048 + p / 16 * 64 + e.2 % 64) else 0)
  let deg := regs.flatMap fun r => (o.fab.regRec.range (recKey r t posDEG) (recKey r t posEXS)).map fun e =>
    (r * 32 + (e.1 - recKey r t posDEG), o.regField r e.2)
  { s with fab.exp := stageSet s.fab.exp (fun k => regs.contains (k / 512)) exs
           fab.egr := stageSet s.fab.egr (fun k => regs.contains (k / 32)) deg }

/-- Keep the entries of other owners and shift those of `own`. -/
def shiftThr (m : NStore) (own : Nat → Bool) (new : List (Nat × Nat)) : NStore :=
  let moved := (m.filter fun e => own (e.1 / 4) && e.1 % 4 != 3).map fun e => (e.1 + 1, e.2)
  Store.setAll 0 (Store.setAll 0 (m.drop fun k => own (k / 4)) moved) (new.map fun e => (e.1 * 4, e.2))

/-- The die stages of instance `i` at the end of step `t`, absolute step `a`. -/
def Pkg.dieStages (s o : Pkg) (i t a : Nat) : Pkg :=
  let l := o.dieSlot i t
  let val := fun (x : Nat × Nat × Nat) => o.dieField i x.1 t a x.2.2
  let pick := fun lo hi => l.filter fun x => decide (lo ≤ x.2.1) && decide (x.2.1 < hi)
  let ownB := fun k => o.brgOwner (k / 1024) (k / 256 % 4) (k % 256 / 32) == some i
  let arr := o.fab.bln.filter fun e => ownB e.1
  let cells := fun base => (pick base (base + 128)).map fun x => (x.1 * 128 + (x.2.1 - base), val x)
  let keep := fun (m : NStore) (l : List (Nat × Nat)) => Store.setAll 0 m (l.filter fun e => decide (2 ≤ e.2))
  { s with
    fab.ing := stageSet s.fab.ing (fun k => o.regionOwner (k / 32) == some i) ((pick 0 posBLN).map fun x => (x.1 * 2048 + x.2.1, val x))
    fab.arr := stageSet s.fab.arr ownB arr
    fab.bln := stageSet s.fab.bln ownB ((pick posBLN posTHR).map fun x => (x.1 * 1024 + (x.2.1 - posBLN), val x))
    fab.thr := shiftThr s.fab.thr (fun n => o.thrOwner (n / 256) (n % 256 / 32) == some i)
      ((pick posTHR posPTX).map fun x => (x.1 * 256 + (x.2.1 - posTHR), val x))
    fab.ptx := stageSet s.fab.ptx (fun k => o.portOwner (k / 64) == some i) ((pick posPTX posOCV).map fun x => (x.1 * 256 + (x.2.1 - posPTX), val x))
    fab.ocv := keep s.fab.ocv (cells posOCV)
    fab.oce := keep s.fab.oce (cells posOCE) }

/-! ## Ports in a step (R266, R267) -/

/-- Port `q` takes its transmit lines in step `t` of cycle `mcc` and queues the flits that fall due. -/
def Pkg.portTake (s o : Pkg) (q t mcc d : Nat) : Pkg :=
  let m := s.mode q
  let w := modeW m
  let x := s.port q
  if !x.sched then s
  else
    let x := if t = 0 then { x with txSch := x.txSch ++ [.schsync mcc d], group := 0 } else x
    let j := t % modeK m
    let g := (List.range w).foldl (fun g n =>
      let v := o.fab.ptx.at (q * 64 + n)
      if v < 2 then g else g + (v % 2) * 2 ^ slotBit m j n + 2 ^ slotFlag m j n) (if j = 0 then 0 else x.group)
    if j + 1 = modeK m then s.setPort q { x with group := 0, txSch := x.txSch ++ [.sched g] }
    else s.setPort q { x with group := g }

end Sys2Proof.Machine
end

