-- ==== Sys2Proof/Machine/Array.lean ====
section
/-!
DEFINITION. The step machine: an executed step (R18, R30), a gated period (R31), and the boundary of Table 10 (R22).
-/
namespace Sys2Proof.Machine

/-! ## What a step waits for (Table 13) -/

/-- Ports that hold the step back. -/
structure Late where
  rx   : List Nat := []      -- link ports whose slot has not been received (R268)
  tx   : List Nat := []      -- link ports that cannot send (R269)
  que  : List Nat := []      -- queue ports with an entry that is not DONE (R55)
  call : Bool := false       -- a WAIT on an unanswered call (R364)
deriving DecidableEq, Repr

/-- Nothing holds the step back. -/
def Late.none (l : Late) : Bool := l.rx.isEmpty && l.tx.isEmpty && l.que.isEmpty && !l.call

/-- The cause counted: LNK before QUE before CALL (R31); 1, 2, 3 as STALL_CAUSE gives them. -/
def Late.cause (l : Late) : Nat := if !l.rx.isEmpty || !l.tx.isEmpty then 1 else if !l.que.isEmpty then 2 else 3

/-- Instruction words of instance `i` in slot `t`, BP and word. -/
def Pkg.slotWords (s : Pkg) (i t : Nat) : List (Nat × Nat) := (s.regionsOf i).flatMap fun r => s.words r t

/-- Queue WAITs of a slot, as port and entry. -/
def queueWaits (l : List (Nat × Nat)) : List (Nat × Nat) :=
  (l.filter fun e => bpClass e.2 == 6 && !bit e.2 63).map fun e => (e.1 / 2048 * 8 + bits e.2 60 3, bits e.2 54 6)

/-- Absolute step of instance `i` now. -/
def Pkg.nowStep (s : Pkg) (i : Nat) : Nat := s.absStep i (s.g .ARY_MCC i) (s.inst i).step

/-- What holds back the step due of instance `i`. -/
def Pkg.late (s : Pkg) (i : Nat) : Late :=
  let t := (s.inst i).step
  let a := s.nowStep i
  let fields := (s.dieSlot i t).filter fun x => bit x.2.2 15
  let ws := s.slotWords i t
  { rx := ((fields.filter fun x => (decide (x.2.1 < posBLN) || (decide (posTHR ≤ x.2.1) && decide (x.2.1 < posPTX))) &&
              bits x.2.2 8 5 == 0xD).map fun x => x.1 * 4 + bits x.2.2 6 2).dedup.filter fun q =>
              s.portOwner q == some i && (s.slotDue q a).isNone
    tx := ((fields.filter fun x => decide (posPTX ≤ x.2.1) && decide (x.2.1 < posOCV)).map fun x =>
              x.1 * 4 + (x.2.1 - posPTX) / 64).dedup.filter s.txBlocked
    que := (((queueWaits ws).filter fun e => (s.qport e.1).ent e.2 == .held || (s.qport e.1).ent e.2 == .pend).map (·.1)).dedup
    call := ws.any fun e => bpClass e.2 == 6 && bit e.2 63 && (s.flowWord i (bits e.2 48 12)).1 }

/-- QISSUEs of the step due, the first of each port: port, entry, descriptor. -/
def stepIssues (l : List (Nat × Nat)) : List (Nat × Nat × Nat) :=
  l.foldl (fun acc e =>
    let k := e.1 / 2048 * 8 + bits e.2 60 3
    if bpClass e.2 == 7 && !(acc.any fun x => x.1 == k) then acc ++ [(k, bits e.2 54 6, bits e.2 48 6)] else acc) []

/-- QISSUEs whose entry a WAIT of the same step names: they are issued when the step comes due, before the WAIT is tested (R164). -/
def earlyIssues (l : List (Nat × Nat)) : List (Nat × Nat × Nat) :=
  let waits := queueWaits l
  (stepIssues l).filter fun e => waits.contains (e.1, e.2.1)

/-- The early issues of the step due, once. -/
def Pkg.issueEarly (s : Pkg) (i : Nat) : Pkg :=
  if (s.inst i).issued then s
  else (s.takeIssues s i (earlyIssues (s.slotWords i (s.inst i).step))).updInst i fun x => { x with issued := true }

/-! ## An executed step -/

/-- A word unit of instance `i` raised an exception in cycle `k`: freeze at the boundary, or tell the master (R115, R116). -/
def Pkg.wuFreeze (s : Pkg) (i k : Nat) : Pkg :=
  if !(s.inst i).freezeNext then s
  else if (s.inst i).desc.cascade then
    if s.b .WU_INST_EXC_FRZ_REQ i then s else (s.p .WU_INST_EXC_FRZ_REQ i 1).cascadeAsk i .wuException k
  else (s.p .WU_INST_EXC_FRZ_REQ i 1).pendStopAt i .wuException

/-- Edge nets of cycle `k` (R27). -/
def Pkg.edges (s : Pkg) (i k : Nat) : Nat :=
  let n := s.g .ARY_CFG_INFO_EDGE_LEN i
  if n = 0 then 0 else s.fab.edge.at (i * 4096 + k % n)

/-- The parity check of a step (R80) on blocks received wrong, as side die*4+k, block, and the bits of its 33 that differ from those sent: an
odd number of them is a mismatch, which an aligned side counts, shows and notes. -/
def Pkg.bridgeErrors (s : Pkg) (l : List (Nat × Nat × Nat)) : Pkg :=
  s.each l fun s (side, _, m) =>
    let d := side / 4
    let k := side % 4
    if (s.part.model.neighbour d k).isSome ∧ bit (s.g .XBR_BRG_STAT_ALIGNED d) k ∧ ((List.range 33).filter (bit m)).length % 2 = 1 then
      ((s.incSat .XBR_BRG_PERR side).pbit .XBR_BRG_STAT_PERR d k true).notify d .bridge
    else s

/-- The lines that instance `i` receives in a step it executes are delivered as received (R80). A gated instance takes no line, and its
registers hold (R67). -/
def Pkg.bridgeFlips (s : Pkg) (i : Nat) (l : List (Nat × Nat × Nat)) : Pkg :=
  s.each l fun s (side, j, m) =>
    match s.part.model.neighbour (side / 4) (side % 4) with
    | none => s
    | some n =>
      let out := oppSide (side % 4)
      let base := (n * 4 + out) * 256 + j * 32
      if s.brgOwner n out j = some i then
        { s with fab.arr := s.fab.arr.map fun x => if base ≤ x.1 ∧ x.1 < base + 32 ∧ bit m (x.1 - base) ∧ 2 ≤ x.2 then (x.1, 5 - x.2) else x }
      else s

/-- A step-clock period of instance `i` passes (R274). DEDUCED: LNK_STEP_CNT counts the periods that instances spend together once. -/
def Pkg.stepTick (s : Pkg) (i : Nat) : Pkg :=
  let c := s.g .LNK_STEP_CNT 0
  let t := min (s.inst i).tick c + 1
  (s.p .LNK_STEP_CNT 0 (max c t)).updInst i fun x => { x with tick := t }

/-- The step due of instance `i` executes on every die (R18). -/
def Pkg.execStep (s : Pkg) (i : Nat) : Pkg :=
  let s := s.stepTick i
  let o := s
  let z := s.inst i
  let t := z.step
  let d := s.depth i
  let k := s.g .ARY_MCC i
  let a := s.nowStep i
  let regs := s.regionsOf i
  let caps := regs.flatMap fun r => o.captures d r t
  let x : StepCtx := { inst := i, step := t, depth := d, compat := s.b .ARY_CFG_INFO_COMPAT i, edge := s.edges i k,
                       gdl := s.g .XBR_GDL_VAL i, caps := Store.setAll 0 [] (caps.filter fun e => e.2 != 0) }
  let early := if z.issued then earlyIssues (s.slotWords i t) else []
  let (s, acc) := o.evalAll x regs
  let s := s.each acc.frees fun s q => (s.incSat .QUE_WAIT_FREE_CNT q).p .QUE_STAT_WAIT_FREE q 1
  let s := s.takeIssues o i (acc.issues.filter fun e => !early.contains e)
  let data : NStore := caps.foldl (fun m e => if e.2 = 0 then m else m.put (e.1 * 2048 + 1024 + t) (e.2 - 2)) s.fab.data
  let data : NStore := acc.writes.foldl (fun m e => m.put (e.1 * 2048 + t) e.2) data
  let s := { s with fab.data := data }
  let s := if k = 0 then s else s.incSat .XBR_NOCAP_CNT i (caps.filter fun e => e.2 == 0).length
  let s := (s.cavesPerform i).takeCaves o i t regs
  let pend := s.b .WU_INST_EXC_PEND i
  let s := (s.p .WU_INST_EXC_PEND i 0).stepUnits o x regs
  let s := if s.b .WU_INST_EXC_PEND i then s.wuFreeze i k else s.pb .WU_INST_EXC_PEND i pend
  let s := s.each (s.portsOf i) fun s q => (s.portTake o q t k d).freeSlots q a
  let s := if t + 2 = d then s.launch i else s
  let s := (s.regionStages o d t regs).dieStages o i t a
  let s := s.updInst i fun x =>
    { x with step := if t + 1 = d then 0 else t + 1, row := if t + 1 = d then 1 else 0, issued := false
             latePorts := [], lateLinks := [], lateTx := [] }
  (s.ps [(.ARY_EXEC, i, o.g .ARY_EXEC i + 1), (.ARY_TOTAL, i, o.g .ARY_TOTAL i + 1), (.ARY_RUN_STAT_STALLING, i, 0),
    (.ARY_RUN_STAT_STALL_CAUSE, i, 0)]).traceTick i 1

/-! ## Gated periods (R30, R31) -/

/-- One more period of a per-resource stall counter: those late now count and keep two release periods, those released count down. -/
def Pkg.lateCount (s : Pkg) (f : Fld) (l : List (Nat × Nat)) (now : List Nat) : Pkg × List (Nat × Nat) :=
  let keys := (now ++ l.map (·.1)).dedup
  let left := fun k => ((l.find? fun e => e.1 == k).map (·.2)).getD 0
  let live := keys.filter fun k => now.contains k || left k != 0
  (s.each live fun s k => s.inc f k, live.map fun k => (k, if now.contains k then 2 else left k - 1))

/-- The major cycle counts once in ARY_STALLED_MC. -/
def Pkg.markStalled (s : Pkg) (i : Nat) : Pkg :=
  if (s.inst i).stalled then s else (s.incSat .ARY_STALLED_MC i).updInst i fun x => { x with stalled := true }

/-- Counter of a stall cause. -/
def stallFld (c : Nat) : Fld := if c = 1 then .ARY_STALL_LNK else if c = 2 then .ARY_STALL_QUE else .ARY_STALL_CALL

/-- One gated period of a mid-cycle stall with cause `c` and what is late in it. -/
def Pkg.gate (s : Pkg) (i c : Nat) (l : Late) : Pkg :=
  let s := s.stepTick i
  let o := s
  let x := s.inst i
  let (s, lp) := s.lateCount .QUE_STALL x.latePorts l.que
  let (s, ll) := s.lateCount .LNK_STALL_RX x.lateLinks l.rx
  let (s, lt) := s.lateCount .LNK_STALL_TX x.lateTx l.tx
  let s := s.updInst i fun x => { x with latePorts := lp, lateLinks := ll, lateTx := lt }
  ((s.markStalled i).ps [(stallFld c, i, o.g (stallFld c) i + 1), (.ARY_TOTAL, i, o.g .ARY_TOTAL i + 1), (.ARY_RUN_STAT_STALLING, i, 1),
    (.ARY_RUN_STAT_STALL_CAUSE, i, c)]).traceTick i 1

/-- One period of a flow hold (R360). -/
def Pkg.hold (s : Pkg) (i : Nat) : Pkg :=
  let s := s.stepTick i
  let o := s
  let s := s.each (s.lacking i) fun s f => s.incSat .SCH_FLOW_HOLD f
  ((s.markStalled i).ps [(.ARY_HOLD_FLOW, i, o.g .ARY_HOLD_FLOW i + 1), (.ARY_TOTAL, i, o.g .ARY_TOTAL i + 1)]).traceTick i 1

/-! ## The boundary (Table 10) -/

/-- Global design lines for the cycle about to begin (R88). -/
def Pkg.gdlValue (s : Pkg) (i : Nat) : Nat :=
  (List.range 16).foldl (fun v g =>
    let k := i * 16 + g
    let host := bit (s.g .XBR_GDL_HOST i) g
    let bp := ((s.g .XBR_GDL_CFG_DIE k * 64 + s.g .XBR_GDL_CFG_REGION k) * 32 + s.g .XBR_GDL_CFG_CLUSTER k) * 64 + s.g .XBR_GDL_CFG_BP k
    let net := s.fab.bit bp (s.g .XBR_GDL_CFG_ADDR k) != 0
    let x := match s.g .XBR_GDL_CFG_MODE k with
      | 0 => false | 1 => host | 2 => net | _ => net || host
    v + b2n x * 2 ^ g) 0

/-- Rows 6 and 7: edge set and design lines, then inputs; step 0 is due. -/
def Pkg.rows67 (s : Pkg) (i : Nat) : Pkg :=
  let s := s.p .XBR_GDL_VAL i (s.gdlValue i)
  let s := (s.banksBoundary i).sampleInputs i
  (s.p .ARY_RUN_STAT_HOLDING i 0).updInst i fun x => { x with row := 0, step := 0, begun := true, freezeNext := s.b .ARY_CTRL_FREEZE_ON_WU_EXC i }

/-- Row 5: buffered writes, ARM and STOP, and bank handovers that waited for the boundary. -/
def Pkg.row5 (s : Pkg) (i : Nat) : Pkg := ((s.applyBoundary i).captureBoundary i).each (s.handoversOf i) Pkg.handoverDone

/-- Rows 4 to 7, once no posting flow lacks an entry. -/
def Pkg.rows4on (s : Pkg) (i : Nat) : Pkg := ((s.flowsAtBoundary i (s.g .ARY_MCC i - 1)).row5 i).rows67 i

/-- Row 4: hold, or go on. A cycle that begins with a hold counts in ARY_STALLED_MC with its first period. -/
def Pkg.row4 (s : Pkg) (i : Nat) : Pkg :=
  if (s.lacking i).isEmpty then s.rows4on i
  else (s.updInst i fun x => { x with row := 4 }).p .ARY_RUN_STAT_HOLDING i 1

/-- Precedence of stop causes at a boundary (R38), highest first. -/
def stopOrder : List Cause := [.wuException, .rennet, .debug, .hostFreeze, .stopAt, .hostPause]

/-- State that a stop cause leads to. -/
def stopState (c : Cause) : RunState := match c with | .stopAt | .hostPause => .paused | _ => .frozen

/-- The stop cause of a STOP_CAUSE code. -/
def causeOf (n : Nat) : Cause := (stopOrder.find? fun c => c.code == n).getD .stopAt

/-- Row 3: the cause that applies at this boundary, if any (R37, R38, R280, R427). -/
def Pkg.stopDue (s : Pkg) (i : Nat) : Option Cause :=
  let x := s.inst i
  let at_ := s.b .ARY_CTRL_STOP_AT_EN i && (x.stopNow || s.stopAt i == s.g .ARY_MCC i)
  let due := (x.pend.filterMap fun n => stopOrder.find? fun c => c.code == n) ++
    (if at_ then [match x.cascCause with | some c => causeOf c | none => .stopAt] else []) ++
    (if s.b .DBG_INST_STAT_STEPPING i && x.stepLeft == 0 then [.debug] else [])
  stopOrder.find? fun c => due.contains c

/-- The boundary that ends the present cycle of instance `i`. -/
def Pkg.boundary (s : Pkg) (i : Nat) : Pkg :=
  let s := if s.traced = some i ∧ s.trc.frzReq then { s with trc.frzReq := false }.pendStopAt i .rennet else s
  let s := s.endCycle i
  match s.stopDue i with
  | some c => s.enterStop i (stopState c) c false
  | none => s.row4 i

/-! ## The commands of the step machine -/

/-- ARRAY_STEP: one period of a RUNNING instance. In a cycle it executes the step due, or counts a gated period while something
is late; a stall whose data has come waits for STALL_RELEASE. At row 4 it counts a period of the flow hold. The bridges are checked in every
step of the dies' clocks (R80). -/
def Pkg.arrayStep (s : Pkg) (i : Nat) (perr : List (Nat × Nat × Nat)) : Pkg :=
  let s := s.bridgeErrors perr
  if s.runs i then
    let x := s.inst i
    if x.row = 0 then
      let s := s.issueEarly i
      let l := s.late i
      if !l.none then s.gate i l.cause l
      else if s.b .ARY_RUN_STAT_STALLING i then s
      else (s.bridgeFlips i perr).execStep i
    else if x.row = 4 ∧ !(s.lacking i).isEmpty then s.hold i
    else s
  else s

/-- STALL_RELEASE: the awaited data has arrived; the held step executes 2 periods later (R30). -/
def Pkg.stallRelease (s : Pkg) (i : Nat) : Pkg :=
  if s.runs i ∧ s.b .ARY_RUN_STAT_STALLING i ∧ (s.late i).none then
    let c := s.g .ARY_RUN_STAT_STALL_CAUSE i
    ((s.gate i c {}).gate i c {}).execStep i
  else s

/-- FLOW_HOLD_RELEASE: an entry has freed; the boundary goes on 2 periods later (R30). -/
def Pkg.holdRelease (s : Pkg) (i : Nat) : Pkg :=
  if s.runs i ∧ (s.inst i).row = 4 ∧ (s.lacking i).isEmpty then ((s.hold i).hold i).rows4on i else s

/-- MAJOR_CYCLE_BOUNDARY: the boundary sequence, after step D - 1. -/
def Pkg.majorBoundary (s : Pkg) (i : Nat) : Pkg := if s.runs i ∧ (s.inst i).row = 1 then s.boundary i else s

/-- CALL_TIMEOUT: the CALL stall has lasted ARY_CALL_TMO. The command tells that it has; nothing happens while the instance is not in a
CALL stall or the timeout is disabled. -/
def Pkg.callTimeout (s : Pkg) (i : Nat) : Pkg :=
  if s.runs i ∧ s.b .ARY_RUN_STAT_STALLING i ∧ (s.late i).call ∧ s.g .ARY_CALL_TMO i ≠ 0 then s.fault i .callTimeout else s

end Sys2Proof.Machine
end

