-- ==== Sys2Proof/Machine/RunControl.lean ====
section
/-!
DEFINITION. Run control (R35, R39, R41) and the control messages of a cascade (R276-R280): start, resume, pause, freeze and what a
package does with each message it receives.
-/
namespace Sys2Proof.Machine

/-! ## Start and resume -/

/-- An instance is FROZEN for a bad frame. Of a cascade, the master freezes the other packages; a slave reports, and its freeze waits for the
master's (R213). -/
def Pkg.turnerFreeze (s : Pkg) (i : Nat) (mid : Bool) : Pkg :=
  let s := s.enterStop i .frozen .turnerUncorr mid
  if !(s.inst i).desc.cascade then s
  else if s.isMaster then s.sendDown i (.freezeNow 6)
  else (s.p .TRN_INST_STAT_FRZ_REQ i 1).sendUp i (.event 6 (s.g .ARY_MCC i))

/-- A bad frame found while the instance stood still freezes it before it executes a step (R212); else it goes on with `k`. -/
def Pkg.turnerGuard (s : Pkg) (i : Nat) (mid : Bool) (k : Pkg → Pkg) : Pkg :=
  if s.g .TRN_INST_STAT_BAD i = 0 then k s else s.turnerFreeze i mid

/-- Its step-clock periods count from now on (R274). -/
def Pkg.tickFrom (s : Pkg) (i : Nat) : Pkg := s.updInst i fun x => { x with tick := s.g .LNK_STEP_CNT 0 }

/-- LOADED to RUNNING: the capture may arm, then rows 6 and 7 of Table 10 before step 0 of cycle 0. -/
def Pkg.startRun (s : Pkg) (i : Nat) : Pkg :=
  ((((s.armOnStart i).each (s.portsOf i) Pkg.lpExit).tickFrom i).setRun i .running).turnerGuard i false fun s => s.rows67 i

/-- PAUSED or FROZEN to RUNNING: from row 4 at a boundary, from the held step in mid-cycle. A freeze that fell between row 7 and step 0 goes
on with step 0: its boundary's rows have been performed. -/
def Pkg.resumeRun (s : Pkg) (i : Nat) : Pkg :=
  let mid := s.b .ARY_RUN_STAT_MID_CYCLE i
  let s := (((s.each (s.portsOf i) Pkg.lpExit).tickFrom i).p .ARY_RUN_STAT_MID_CYCLE i 0).setRun i .running
  s.turnerGuard i mid fun s =>
    if !(s.inst i).begun then s.rows67 i else if (s.inst i).row = 0 then s else s.row4 i

/-- The instance may be resumed: PAUSED, or FROZEN with its cause cleared. -/
def Pkg.resumable (s : Pkg) (i : Nat) : Bool :=
  match s.runState i with
  | .paused => true
  | .frozen => s.causeCleared i
  | _ => false

/-- The instance is held by debug alone, and a debug step of it has been accepted (R427, R428). -/
def Pkg.stepHeld (s : Pkg) (i : Nat) : Bool :=
  s.runState i == .frozen && s.g .ARY_RUN_STAT_STOP_CAUSE i == (Cause.debug).code && s.b .DBG_INST_STAT_STEPPING i

/-- START_ACK code of this package for a start or a resume (Table 140); `told` is 1 when the package finds that another reports a different depth
(R19). A slave whose root gives another step rate than the master's refuses with code 2 (R6, R440). A package frozen in mid-cycle by Turner resumes from its held step (R214). -/
def Pkg.startCode (s : Pkg) (i : Nat) (resume : Bool) (told : Nat) : Nat :=
  if told = 1 then 1
  else if !s.isMaster && s.cas.slow.any (· != s.rootSlow) then 2
  else if s.resetting i || s.relocating i || s.patching i then 3
  else if (if resume then !s.resumable i || (!s.atBoundary i && s.g .ARY_RUN_STAT_STOP_CAUSE i != Cause.turnerUncorr.code)
      else s.runState i != .loaded) then 3
  else if (s.portsOf i).any fun q => s.portSt q != .up && s.portSt q != .lowpwr then 4
  else 0

/-- Steps that LNK_CAS_LEAD lasts. -/
def Pkg.leadSteps (s : Pkg) : Nat := clampTo 10 100000 (s.g .LNK_CAS_LEAD 0) * 8000 / s.stepEighths

/-- The exchange of instance `i` in progress on the master (R279). -/
def Pkg.startReq (s : Pkg) (i : Nat) : Option StartReq := s.cas.starts.find? fun r => r.inst == i
/-- It is over. -/
def Pkg.dropStart (s : Pkg) (i : Nat) : Pkg := { s with cas.starts := s.cas.starts.filter fun r => r.inst != i }

/-- The master begins the exchange of R279, unless a package did not acknowledge its last load (R192). -/
def Pkg.casExchange (s : Pkg) (i : Nat) (resume : Bool) : Pkg :=
  if s.startCode i resume 0 = 0 ∧ (s.startReq i).isNone ∧ !s.b .CFG_LOAD_STAT_PEER_MISSING 0 then
    let c := s.g .LNK_STEP_CNT 0 + s.leadSteps
    ({ s with cas.starts := s.cas.starts ++ [StartReq.mk i c resume [] none] }.updInst i fun x => { x with startAt := some c }).sendDown i
      (.start c resume)
  else s.p .ARY_ERR_START_REFUSED i 1

/-- START (Table 15, R39): immediate for one package, by exchange on the master, ignored on a slave, outside LOADED, and while a
relocation or a patch is in progress (R173, R205). -/
def Pkg.cmdStart (s : Pkg) (i : Nat) : Pkg :=
  if s.runState i ≠ .loaded ∨ s.resetting i ∨ s.relocating i ∨ s.patching i then s.cmdIgnored i
  else if (s.inst i).desc.cascade then (if s.isMaster then s.casExchange i false else s.cmdIgnored i)
  else s.startRun i

/-- RESUME. -/
def Pkg.cmdResume (s : Pkg) (i : Nat) : Pkg :=
  if (s.inst i).desc.cascade ∧ !s.isMaster then s.cmdIgnored i
  else if s.resetting i ∨ s.relocating i ∨ s.patching i then s.cmdIgnored i
  else match s.runState i with
    | .paused | .frozen =>
      if !s.causeCleared i ∧ s.runState i = .frozen then s.p .ARY_ERR_RESUME_BLOCKED i 1
      else if (s.inst i).desc.cascade then s.casExchange i true
      else s.resumeRun i
    | _ => s.cmdIgnored i

/-- PAUSE or FREEZE by its cause. -/
def Pkg.cmdStop (s : Pkg) (i : Nat) (c : Cause) : Pkg :=
  if !s.runs i then s.cmdIgnored i
  else if (s.inst i).desc.cascade then (if s.isMaster then s.masterStop i c.code else s.cmdIgnored i)
  else s.pendStopAt i c

/-- A write of ARY_RUN_CTL (Table 17): SNAP first; more than one of bits [3:0] is ignored. -/
def Pkg.runCtl (s : Pkg) (i v : Nat) : Pkg :=
  let snap := if bit v 4 then s.snapshot i else s
  match v % 16 with
  | 0 => snap
  | 1 => snap.cmdStart i
  | 2 => snap.cmdStop i .hostPause
  | 4 => snap.cmdResume i
  | 8 => snap.cmdStop i .hostFreeze
  | _ => s.cmdIgnored i

/-! ## Control messages (R276-R278) -/

/-- Which way a message travels. -/
inductive Way where
  | up | down | neighbour
deriving DecidableEq, Repr

/-- Direction column of Table 140. -/
def Ctl.way : Ctl → Way
  | .ready _ _ | .fail _ | .commitAck | .startAck _ | .event _ _ | .heartbeat => .up
  | .commit | .abort | .start _ _ | .startCancel | .stopAt _ _ | .freezeNow _ | .halt _ => .down
  | .flush _ | .lpReq _ | .faultNote => .neighbour

/-- A message arrives in a CTL flit with SEQ `seq` on port `q`: accepted in sequence and forwarded as its direction asks. True where it concerns
this package. The master hears its sender (R278). -/
def Pkg.ctlTake (s : Pkg) (q seq : Nat) (m : CtlMsg) : Pkg × Bool :=
  let (s, ok) := s.rxSeq q seq 3
  if !ok then (s, false)
  else
    let s := s.freeVc q 3 1
    match m.body.way with
    | .neighbour => (s.inc .LNK_CAS_MSG_RX 0, true)
    | .up =>
      if s.isMaster then ((s.pbit .LNK_CAS_ALIVE 0 m.src true).inc .LNK_CAS_MSG_RX 0, true)
      else match s.upPort with
        | some p => (s.forwardCtl p m, false)
        | none => (s, false)
    | .down =>
      let s := s.each (s.downPorts.filter (· != q)) fun s p => s.forwardCtl p m
      if m.bcast ∨ m.dst = s.part.pkgId then (s.inc .LNK_CAS_MSG_RX 0, true) else (s, false)

/-- A message that concerns this package is acted on. -/
def Pkg.ctlIn (s : Pkg) (q seq : Nat) (m : CtlMsg) (act : Pkg → Pkg) : Pkg :=
  let (s, mine) := s.ctlTake q seq m
  if mine then act s else s

/-- START on a slave (R279): it answers, and awaits the count when it accepts. -/
def Pkg.onStart (s : Pkg) (i count : Nat) (resume : Bool) (told : Nat) : Pkg :=
  let code := s.startCode i resume told
  let s := if code = 0 then s.updInst i fun x => { x with startAt := some count } else s.p .ARY_ERR_START_REFUSED i 1
  s.sendUp i (.startAck code)

/-- A debug step does not begin (R428): the instance stays stopped. -/
def Pkg.stepEnds (s : Pkg) (i : Nat) : Pkg :=
  if s.b .DBG_INST_STAT_STEPPING i then
    (s.ps [(.DBG_INST_STAT_STEPPING, i, 0), (.DBG_INST_LEFT, i, 0)]).updInst i fun x => { x with stepLeft := 0 }
  else s

/-- The exchange of instance `i` fails: START_CANCEL, START_REFUSED, and the instance stays as it is (R279). -/
def Pkg.startFail (s : Pkg) (i : Nat) : Pkg :=
  if (s.startReq i).isNone then s
  else ((((s.dropStart i).stepEnds i).p .ARY_ERR_START_REFUSED i 1).updInst i fun x => { x with startAt := none }).sendDown i .startCancel

/-- Slave packages that hold part of cascade instance `i`, as their READY reported. -/
def Pkg.slavesOf (s : Pkg) (i : Nat) : List Nat :=
  ((s.cas.peers.filter fun e => e.2 == i && e.1 != s.part.pkgId).map (·.1)).dedup

/-- START_ACK on the master. -/
def Pkg.onStartAck (s : Pkg) (i src code : Nat) : Pkg :=
  if (s.startReq i).isNone then s
  else if code ≠ 0 then s.startFail i
  else { s with cas.starts := s.cas.starts.map fun r =>
    if r.inst = i ∧ !r.acks.contains src then { r with acks := r.acks ++ [src] } else r }

/-- Every package has accepted the start or resume of instance `i`. -/
def Pkg.allAcked (s : Pkg) (i : Nat) : Bool := (s.startReq i).any fun r => (s.slavesOf i).all r.acks.contains

/-- The exchange that lacks an answer and whose start count, and with it the deadline of R279, comes first. -/
def Pkg.lateStart (s : Pkg) : Option StartReq :=
  (s.cas.starts.filter fun r => !s.allAcked r.inst).foldl (fun m r => match m with
    | some x => if r.count < x.count then some r else m
    | none => some r) none

/-- START_CANCEL on a slave. -/
def Pkg.onStartCancel (s : Pkg) (i : Nat) : Pkg := s.updInst i fun x => { x with startAt := none }

/-- LNK_STEP_CNT reaches the start count of instance `i`: it enters RUNNING (R279). The master runs on only with every answer in. -/
def Pkg.startCount (s : Pkg) (i : Nat) : Pkg :=
  match (s.inst i).startAt with
  | none => s
  | some c =>
    let s := s.p .LNK_STEP_CNT 0 (max c (s.g .LNK_STEP_CNT 0))
    if !s.isMaster || s.allAcked i then
      let s := s.dropStart i
      let s := s.updInst i fun x => { x with startAt := none }
      if s.resetting i ∨ s.patching i ∨ s.relocating i then s.stepEnds i
      else if s.runState i = .loaded then s.startRun i else if s.resumable i || s.stepHeld i then s.resumeRun i else s.stepEnds i
    else s.startFail i

/-- FREEZE_NOW: the package enters FROZEN at its current step, a stalled step included, and a freeze that waited for it waits no more (R213). -/
def Pkg.freezeNow (s : Pkg) (i cause : Nat) : Pkg :=
  let s := s.p .TRN_INST_STAT_FRZ_REQ i 0
  if s.runs i ∧ cause = Cause.turnerUncorr.code then s.enterStop i .frozen .turnerUncorr ((s.inst i).row == 0 && (s.inst i).step != 0) else s

/-- EVENT on the master (R213, R280): an event that asks for a stop makes one; a report of a fault only counts. -/
def Pkg.onEvent (s : Pkg) (i cause : Nat) : Pkg :=
  if cause = 3 ∨ cause = 4 ∨ cause = 5 ∨ cause = 14 then s.masterStop i cause
  else if cause = 6 then (s.sendDown i (.freezeNow 6)).freezeNow i 6
  else s

/-- A package is lost: its cascade instances become FAULTED with PEER_LOST (R278). -/
def Pkg.peerLost (s : Pkg) (i : Nat) : Pkg := if (s.inst i).desc.cascade then s.fault i .peerLost else s

/-- FAULT_NOTE on a port. -/
def Pkg.onFaultNote (s : Pkg) (q : Nat) : Pkg :=
  match s.portOwner q with
  | some i => s.peerLost i
  | none => s

/-- FLUSH (Table 138): a request discards the SCH entries and is answered; the answer ends the own flush. -/
def Pkg.flushSch (s : Pkg) (q : Nat) : Pkg := (s.updPort q fun x => { x with held := [], rxOn := false, rxCnt := 0, rxMcc := 0 }).discardVc q 0
@[inherit_doc Pkg.flushSch] def Pkg.onFlush (s : Pkg) (q : Nat) (done : Bool) : Pkg :=
  if done then s.updPort q fun x => { x with flush := false }
  else (s.flushSch q).sendCtl q { src := s.part.pkgId, inst := (s.portOwner q).getD 0, body := .flush true }

/-- LP_REQ: the partner asks for a low-power state, or with 0 begins the exit (R275). -/
def Pkg.onLpReq (s : Pkg) (q st : Nat) : Pkg :=
  let s := s.updPort q fun x => { x with lpPeer := st }
  if st = 0 then s.lpExit q else s

/-- HEARTBEAT_SEND: a slave with a cascade instance that is not UNLOADED, unless its package master has failed (R278, R351). -/
def Pkg.heartbeatSend (s : Pkg) : Pkg :=
  if !s.isMaster ∧ !s.masterFailed ∧ (List.range 16).any (fun i => (s.inst i).desc.cascade && s.runState i != .unloaded) then s.sendUp 0 .heartbeat else s

/-- PEER_TIMEOUT: the master has not heard package `n` within LNK_CAS_PEER_TMO (R278). -/
def Pkg.peerTimeout (s : Pkg) (n : Nat) : Pkg :=
  if s.isMaster ∧ bit (s.g .LNK_CAS_ALIVE 0) n then
    let s := s.pbit .LNK_CAS_ALIVE 0 n false
    let s := if s.b .LNK_CAS_LOST_VALID 0 then s else s.ps [(.LNK_CAS_LOST_PKG, 0, n), (.LNK_CAS_LOST_VALID, 0, 1)]
    s.each ((List.range 16).filter fun i => (s.slavesOf i).contains n) fun s i => (s.sendDown i (.halt n)).peerLost i
  else s

end Sys2Proof.Machine
end

