-- ==== Sys2Proof/Machine/Windows.lean ====
section
/-!
DEFINITION. The data and memory windows of Table 156, a 4-byte word at a time: which accesses are refused and why (R62, R63, R86,
R119, R120, R136, R333, R388), what a read returns and what a write changes.
-/
namespace Sys2Proof.Machine

/-! ## Initiators (Table 193) -/

/-- Management processor of die `d`. -/
def isMp (init : Nat) : Bool := decide (init < 8)
/-- The host, through either PCIe port. -/
def isHost (init : Nat) : Bool := init == 0x30 || init == 0x31
/-- The debug port. -/
def isDebug (init : Nat) : Bool := init == 0x38
/-- A DMA engine. -/
def isDma (init : Nat) : Bool := decide (0x08 ≤ init) && decide (init ≤ 0x27)
/-- A Whey engine. -/
def isWhey (init : Nat) : Bool := decide (0x40 ≤ init) && decide (init ≤ 0x47)

/-! ## Words -/

/-- The windows that hold memory of the die. -/
inductive Win where
  | data | cave | wuState | wuStore | route | tier | sram | rom
deriving DecidableEq, Repr

/-- Merge a written word under byte enables. -/
def mergeWord (old v be : Nat) : Nat :=
  (List.range 4).foldl (fun n b => n + (if bit be b then bits v (8 * b) 8 else bits old (8 * b) 8) * 2 ^ (8 * b)) 0

/-- Region a window offset belongs to, for the windows of a region's domain. -/
def winRegion (w : Win) (off : Nat) : Option Nat :=
  match w with
  | .data => some (off / 0x80000)
  | .cave => some (off / 0x80000)
  | .wuState => some (off / 0x20000)
  | .wuStore => some (off / 0x40000)
  | .route => if off < 0x14000000 then some (off / 0x500000) else none
  | .tier => some (off / 0x1000000)
  | _ => none

/-- Region power state (Table 194). -/
def Pkg.powerState (s : Pkg) (d g : Nat) : Nat := s.g .SVC_PD_STAT_STATE (d * 64 + g)

/-- The initiator that a non-instance bank owner is (R132, R136). -/
def ownerIs (o : BankOwner) (d init : Nat) : Bool :=
  match o with
  | .inst _ => false
  | .firmware => init == d || init == 0
  | .whey => isWhey init
  | .hostDma => isDma init

/-- A write to a word of a unit's state block is refused for its value or type (R119). -/
def wuRefuse (u : WordUnit) (o v : Nat) : Option Nat :=
  if o = 0x858 ∨ (0x860 ≤ o ∧ o < 0x870) then some 3
  else if 0x830 ≤ o ∧ o < 0x850 then
    let n := (o - 0x830) / 8
    if o % 8 = 0 then
      let l := bits v 16 11
      if l = 0 ∨ 1024 < l ∨ l ≤ nth4 u.idx n then some 5 else none
    else if nth4 u.len n ≤ bits v 0 10 then some 5 else none
  else none

/-- Two 16-bit values in a word. -/
def pair16 (m : NStore) (a : Nat) : Nat := m.at a + 65536 * m.at (a + 1)

/-- Sign-extended upper half of an accumulator. -/
def accHi (a : Nat) : Nat := if bit a 39 then bits a 32 8 + 0xFFFFFF00 else bits a 32 8

/-- A word of a unit's state block (Table 58). -/
def wuRead (u : WordUnit) (o : Nat) : Nat :=
  if o < 0x800 then pair16 u.mem (o / 2)
  else if o < 0x820 then pair16 u.w ((o - 0x800) / 2)
  else if o = 0x820 then u.acc0 % 2 ^ 32
  else if o = 0x824 then accHi u.acc0
  else if o = 0x828 then u.acc1 % 2 ^ 32
  else if o = 0x82C then accHi u.acc1
  else if o < 0x850 then
    let n := (o - 0x830) / 8
    if o % 8 = 0 then nth4 u.base n + 65536 * nth4 u.len n else nth4 u.idx n
  else if o = 0x850 then u.out
  else if o = 0x854 then u.mode + 16 * b2n u.c + 32 * b2n u.dh0 + 64 * b2n u.dh1
  else if o = 0x858 then u.wpc + 1024 * u.stack.length
  else if 0x860 ≤ o ∧ o < 0x870 then
    match u.stack.reverse[(o - 0x860) / 4]? with
    | some (st, en, lc) => st + 2 ^ 10 * en + 2 ^ 20 * lc
    | none => 0
  else 0

/-- Write a word of a unit's state block. -/
def wuWrite (u : WordUnit) (o v : Nat) : WordUnit :=
  let two := fun (m : NStore) (a : Nat) => (m.put a (v % 65536)).put (a + 1) (v / 65536 % 65536)
  if o < 0x800 then { u with mem := two u.mem (o / 2) }
  else if o < 0x820 then { u with w := two u.w ((o - 0x800) / 2) }
  else if o = 0x820 then { u with acc0 := u.acc0 / 2 ^ 32 * 2 ^ 32 + v % 2 ^ 32 }
  else if o = 0x824 then { u with acc0 := u.acc0 % 2 ^ 32 + v % 256 * 2 ^ 32 }
  else if o = 0x828 then { u with acc1 := u.acc1 / 2 ^ 32 * 2 ^ 32 + v % 2 ^ 32 }
  else if o = 0x82C then { u with acc1 := u.acc1 % 2 ^ 32 + v % 256 * 2 ^ 32 }
  else if o < 0x850 then
    let n := (o - 0x830) / 8
    if o % 8 = 0 then { u with base := put4 u.base n (v % 1024), len := put4 u.len n (bits v 16 11) } else { u with idx := put4 u.idx n (v % 1024) }
  else if o = 0x850 then { u with out := v % 65536 }
  else if o = 0x854 then { u with mode := v % 16, c := bit v 4, dh0 := bit v 5, dh1 := bit v 6 }
  else u

/-! ## Reads -/

/-- Byte `b` of a region record of slot base key `k` (Table 36): 16-bit fields first, then 8-bit fields. -/
def regionByte (f : Fabric) (k b : Nat) : Nat :=
  if b < 0x1040 then bits (f.regRec.at (k + b / 2)) (8 * (b % 2)) 8
  else if b < 0x12C0 then f.regRec.at (k + 2080 + (b - 0x1040))
  else 0

/-- Byte `b` of a die record (Table 39). -/
def dieByte (f : Fabric) (k b : Nat) : Nat := if b < 0x1E00 then bits (f.dieRec.at (k + b / 2)) (8 * (b % 2)) 8 else 0

/-- Four bytes as a word. -/
def word4 (f : Nat → Nat) (b : Nat) : Nat := f b + 256 * f (b + 1) + 65536 * f (b + 2) + 16777216 * f (b + 3)

/-- Bits [32w + 31 : 32w] of a data store. -/
def Pkg.dataWord (s : Pkg) (bp w : Nat) : Nat :=
  (s.fab.data.range (bp * 2048 + 32 * w) (bp * 2048 + 32 * w + 32)).foldl (fun n e => n + e.2 * 2 ^ (e.1 % 32)) 0

/-- Word of a die's boot ROM as a load sees it: an enabled patch unit's data (R429), else contents the spec does not give. -/
def Pkg.romWord (s : Pkg) (d off : Nat) : Nat × Pkg :=
  match (List.range 16).find? fun u => s.b .DBG_PATCH_CTL_EN (d * 16 + u) && s.g .DBG_PATCH_CTL_BLOCK (d * 16 + u) == off / 64 with
  | some u => (s.g .DBG_PATCH_DATA ((d * 16 + u) * 16 + off % 64 / 4), s)
  | none => s.draw 32

/-- The offset lies in a region whose contents are undefined since its domain was switched on (R389); its caves hold free values of their
own, and the unused bytes of a route record's stride read 0 (R86). -/
def Pkg.undefinedAt (s : Pkg) (w : Win) (d off : Nat) : Bool :=
  match w, winRegion w off with
  | .cave, _ => false
  | .route, some g => s.fab.junk.at (d * 64 + g) == 1 && decide (off % 0x500000 % 0x1400 < 0x12C0)
  | _, some g => s.fab.junk.at (d * 64 + g) == 1
  | _, none => false

/-- A word of a window of die `d`. -/
def Pkg.winRead (s : Pkg) (w : Win) (d off : Nat) : Nat × Pkg :=
  if s.undefinedAt w d off then s.draw (if w = .wuStore ∧ off % 8 ≠ 0 then 16 else 32)
  else match w with
  | .data => (s.dataWord (d * 131072 + off / 256) (off % 256 / 4), s)
  | .cave => (s.caveWord (d * 1024 + off / 0x8000) (off % 0x8000 / 2) + 65536 * s.caveWord (d * 1024 + off / 0x8000) (off % 0x8000 / 2 + 1), s)
  | .wuState => (wuRead (s.wunit (d * 2048 + off / 4096)) (off % 4096), s)
  | .wuStore =>
    let v := s.fab.wstore.at ((d * 2048 + off / 8192) * 1024 + off % 8192 / 8)
    (if off % 8 = 0 then v % 2 ^ 32 else bits v 32 16, s)
  | .route =>
    (if off < 0x14000000 then
      let t := off % 0x500000 / 0x1400
      if t < 1024 then word4 (regionByte s.fab (recKey (d * 64 + off / 0x500000) t 0)) (off % 0x500000 % 0x1400) else 0
    else
      let o := off - 0x14000000
      if o < 0x800000 then word4 (dieByte s.fab (recKey d (o / 0x2000) 0)) (o % 0x2000) else 0, s)
  | .tier =>
    let bp := off / 8192
    let v := s.fab.instr.at (slotKey (d * 64 + bp / 2048) (off % 8192 / 8) + bp % 2048)
    (if off % 8 = 0 then v % 2 ^ 32 else v / 2 ^ 32, s)
  | .sram => (leNat (readBytes s.sram (d * 2 ^ 20 + off) 4), s)
  | .rom => s.romWord d off

/-! ## Writes -/

/-- Write a word of a window of die `d` under byte enables. -/
def Pkg.winWrite (s : Pkg) (w : Win) (d off v be : Nat) : Pkg :=
  let m := mergeWord (s.winRead w d off).1 v be
  match w with
  | .data =>
    let k := (d * 131072 + off / 256) * 2048 + off % 256 / 4 * 32
    { s with fab.data := (List.range 32).foldl (fun st b => st.put (k + b) (b2n (bit m b))) s.fab.data }
  | .cave =>
    let b := d * 1024 + off / 0x8000
    (s.setCaveWord b (off % 0x8000 / 2) (m % 65536)).setCaveWord b (off % 0x8000 / 2 + 1) (m / 65536)
  | .wuState => s.setWunit (d * 2048 + off / 4096) (wuWrite (s.wunit (d * 2048 + off / 4096)) (off % 4096) m)
  | .sram => { s with sram := writeBytes s.sram (d * 2 ^ 20 + off) (leBytes m 4) }
  | _ => s

/-! ## Refusals -/

/-- Run-state rule of R62 for a region's instance. -/
def Pkg.stateRefuse (s : Pkg) (r : Nat) (write : Bool) : Option Nat :=
  match s.regionOwner r with
  | none => some 4
  | some i => match s.runState i with
    | .loaded | .paused | .frozen => none
    | .running | .faulted => if write then some 4 else none
    | _ => some 4

/-- Rule of R136 for a cave bank. -/
def Pkg.caveRefuse (s : Pkg) (b d init : Nat) (write : Bool) : Option Nat :=
  match s.bankOwn b with
  | .inst i =>
    if !(isMp init || isDebug init || isHost init) then some 4
    else match s.runState i with
      | .loaded | .paused | .frozen => none
      | .faulted => if write then some 4 else none
      | _ => some 4
  | o => if ownerIs o d init && s.cav.oldOwn.at b == 0 then none else some 4

/-- On-chip mailbox rings in the SRAM of die 0 (R333): 16 mailboxes of 0x3000 bytes, the command ring in the first 0x2000. -/
def sramRing (d off : Nat) : Bool := d == 0 && decide (0xD0000 ≤ off) && decide (off < 0x100000)

/-- A word of a window is refused, with the cause of Table 161; `v` is the word as merged for a write. -/
def Pkg.winRefuse (s : Pkg) (w : Win) (d off init : Nat) (write : Bool) (v be : Nat) : Option Nat :=
  let off_ := match winRegion w off with
    | some g => decide (g < 64) && s.powerState d g != 0
    | none => false
  if off_ then some 4
  else match w with
    | .data => s.stateRefuse (d * 64 + off / 0x80000) write
    | .cave => s.caveRefuse (d * 1024 + off / 0x8000) d init write
    | .wuState =>
      match s.stateRefuse (d * 64 + off / 0x20000) write with
      | some c => some c
      | none =>
        let u := s.wunit (d * 2048 + off / 4096)
        if write then wuRefuse u (off % 4096) (mergeWord (wuRead u (off % 4096)) v be) else none
    | .wuStore | .route | .tier | .rom => if write then some 3 else none
    | .sram =>
      if isHost init then
        if !sramRing d off then some 4
        else if write ∧ 0x2000 ≤ (off - 0xD0000) % 0x3000 then some 4
        else none
      else none

/-! ## Cave registers (R133, R137, R141) -/

/-- A write of CAV_OWN (R133, Table 67): a cause of refusal, or the handover. One that finds a handover of the bank waiting takes its place,
and the ring accesses of the old owner are waited for again (DESIGN CHOICE: R133 does not say what a second write does). -/
def Pkg.ownWrite (s : Pkg) (b init kind inst : Nat) : Pkg × Option Nat :=
  let d := b / 1024
  if !(init == d || init == 0) then (s, some 4)
  else if kind = 0 ∧ s.regionOwner (b / 16) ≠ some inst then (s, some 5)
  else
    let old := s.bankOwn b
    match old with
    | .inst i => if s.runs i then (s, some 4) else ((s.dropTaken b).setBankOwn b kind inst, none)
    | o =>
      let code := match o with | .whey => 2 | .hostDma => 3 | _ => 1
      let flag := if kind = 0 ∧ s.runs inst then 256 else 0
      ({ s with cav.oldOwn := s.cav.oldOwn.put b (16 * code + 64 + flag) }.ps
        [(.CAV_OWN_KIND, b, kind), (.CAV_OWN_INST, b, inst), (.CAV_OWN_PEND, b, 1)], none)

/-- The old owner's ring accesses of bank `b` have completed: the handover takes effect, or waits for the boundary of a RUNNING new
owner (Table 67), also where it was written to one that has since stopped mid-cycle (R133). -/
def Pkg.handover (s : Pkg) (b : Nat) : Pkg :=
  if s.b .CAV_OWN_PEND b then
    let i := s.g .CAV_OWN_INST b
    let v := s.cav.oldOwn.at b
    if s.g .CAV_OWN_KIND b = 0 ∧ (s.runs i ∨ (bit v 8 ∧ s.b .ARY_RUN_STAT_MID_CYCLE i)) then
      { s with cav.oldOwn := s.cav.oldOwn.put b (if bit v 7 then v else v + 128) }
    else s.handoverDone b
  else s

/-- CAV_ATOM_CMD (R137): a cause of refusal, or the atomic. -/
def Pkg.atomWrite (s : Pkg) (b init addr op opnd : Nat) : Pkg × Option Nat :=
  let d := b / 1024
  if op < 2 then (s, some 5)
  else if s.powerState d (b / 16 % 64) ≠ 0 then (s, some 4)
  else if ownerIs (s.bankOwn b) d init && s.cav.oldOwn.at b == 0 then
    let old := s.caveWord b addr
    let s := s.setCaveWord b addr (if op = 2 then old + opnd else opnd)
    (s.ps [(.CAV_ATOM_RES_OLD, b, old), (.CAV_ATOM_RES_DONE, b, 1)], none)
  else (s, some 4)

/-- CAV_MARCH_CTL.START on region `r` (R141): a cause of refusal, or the march runs. -/
def Pkg.marchStart (s : Pkg) (r mode set : Nat) : Pkg × Option Nat :=
  if s.b .CAV_MARCH_STAT_BUSY r ∨ s.powerState (r / 64) (r % 64) ≠ 0 then (s, some 4)
  else if (banksIn r set).any fun b => s.bankOwn b != .firmware || s.b .CAV_OWN_PEND b then (s, some 4)
  else ({ s with cav.march := s.cav.march.put r (2 ^ 17 + 65536 * (mode % 2) + set % 65536) }.p .CAV_MARCH_STAT_BUSY r 1, none)

/-- What a march found in a bank: the failing reads, in the order found, as word and differing bits. -/
abbrev MarchFail := List (Nat × Nat)

/-- End of a march of banks `set` of region `r` in a mode (R139, R141): results, CAV_AVAIL, and the contents left. A word found faulty holds
a free value. -/
def Pkg.marchEnd (s : Pkg) (r mode set : Nat) (fails : List (Nat × MarchFail)) : Pkg :=
  let s := s.each (banksIn r set) fun s b =>
    let f := ((fails.find? fun e => e.1 == b % 16).map (·.2)).getD []
    let s := if mode = 0 then { s with cav.mem := s.cav.mem.drop fun k => k / 16384 == b } else s
    let s := s.each f fun s e =>
      let (v, s) := s.draw 16
      s.setCaveWord b (e.1 % 16384) v
    let bad := !f.isEmpty
    let first := f.headD (0, 0)
    ((s.ps [(.CAV_MARCH_RES_FIRST_ADDR, b, first.1), (.CAV_MARCH_RES_FAIL, b, b2n bad), (.CAV_MARCH_RES_TESTED, b, 1),
      (.CAV_MARCH_RES_FAIL_BITS, b, first.2), (.CAV_MARCH_CNT, b, f.length)]).pbit .CAV_AVAIL r (b % 16) (!bad)).pbit
      .CAV_MARCH_STAT_FAILED r (b % 16) bad
  s.ps [(.CAV_MARCH_STAT_BUSY, r, 0), (.CAV_MARCH_STAT_DONE, r, 1)]

/-- MARCH_DONE: the march running in region `r` ends. What accesses, atomics and handovers of its banks did meanwhile they did to the contents
from before the march; the march's outcome then replaces them, whoever owns the bank (DESIGN CHOICE: R141 does not say). -/
def Pkg.marchDone (s : Pkg) (r : Nat) (fails : List (Nat × MarchFail)) : Pkg :=
  match s.cav.march.at r with
  | 0 => s
  | v => { s with cav.march := s.cav.march.put r 0 }.marchEnd r (v / 65536 % 2) (v % 65536) fails

end Sys2Proof.Machine
end

