-- ==== Sys2Proof/Machine/Frames.lean ====
section
/-!
DEFINITION. Configuration frames (R187, R188, Table 101): their addresses, the stored bit each frame bit is, and the CRC-32C
syndrome of an error (R209). Physical frames belong to package regions die*64 + g.
-/
namespace Sys2Proof.Machine

/-- Frame classes of Table 101, with their codes. -/
inductive FClass where
  | itr | rtf | rrr | drr | wst | ivd | ivw | dsc
deriving DecidableEq, Repr

/-- A frame address taken apart. `region`, `cluster`, `bp` and `port` are 0 where the class has no such field. -/
structure FAddr where
  cls     : FClass
  die     : Nat
  region  : Nat := 0
  cluster : Nat := 0
  bp      : Nat := 0
  port    : Nat := 0
  frame   : Nat
deriving DecidableEq, Repr

/-- CLASS code of a frame address. -/
def FClass.ofCode (n : Nat) : Option FClass :=
  match n with
  | 1 => some .itr | 2 => some .rtf | 3 => some .rrr | 4 => some .drr | 5 => some .wst | 6 => some .ivd | 7 => some .ivw | 8 => some .dsc
  | _ => none

/-- Bits of an address that its class does not use, as (low bit, width): they must be 0. -/
def FClass.unused (c : FClass) : Nat × Nat :=
  match c with
  | .itr => (4, 3) | .rtf => (7, 6) | .rrr => (14, 4) | .drr => (14, 10) | .wst => (4, 9) | .ivd => (5, 8) | .ivw => (3, 10) | .dsc => (1, 14)

/-- Width of the FRAME or PAIR field. -/
def FClass.frameBits (c : FClass) : Nat :=
  match c with
  | .itr => 4 | .rtf => 7 | .rrr => 14 | .drr => 14 | .wst => 4 | .ivd => 5 | .ivw => 3 | .dsc => 1

/-- Take a frame address apart; none for a reserved class or an unused bit that is set. -/
def faddr (a : Nat) : Option FAddr :=
  match FClass.ofCode (bits a 27 5) with
  | none => none
  | some c =>
    if bits a c.unused.1 c.unused.2 ≠ 0 ∨ 2 ^ 32 ≤ a then none
    else
      let hasR := c != .drr
      let hasC := c == .itr || c == .rtf || c == .wst || c == .ivd || c == .ivw
      some { cls := c, die := bits a 24 3, region := if hasR then bits a 18 6 else 0, cluster := if hasC then bits a 13 5 else 0,
             bp := if c == .itr then bits a 7 6 else 0, port := if c == .dsc then bits a 15 3 else 0, frame := bits a 0 c.frameBits }

/-- Put a frame address together. -/
def FAddr.code (f : FAddr) : Nat :=
  (f.cls.ctorIdx + 1) * 2 ^ 27 + f.die * 2 ^ 24 + f.region * 2 ^ 18 + f.cluster * 2 ^ 13 + f.bp * 2 ^ 7 + f.port * 2 ^ 15 + f.frame

/-- Bytes of a die route record, in the stream of a COMPAT section (R177) or elsewhere. -/
def dieRecBytes (compat : Bool) : Nat := if compat then 7168 else 7680

/-- Frames a unit has, and for the slot-based classes only those that hold a slot below `d` (R188). -/
def FClass.limit (c : FClass) (d : Nat) (compat : Bool) : Nat :=
  match c with
  | .itr => (d + 63) / 64
  | .rtf => (d + 7) / 8
  | .rrr => (4800 * d + 511) / 512
  | .drr => (dieRecBytes compat * d + 511) / 512
  | .wst => if compat then 16 else 12
  | .ivd => 32
  | .ivw => 5
  | .dsc => 2

/-- Package region of a frame. -/
def FAddr.reg (f : FAddr) : Nat := f.die * 64 + f.region
/-- Word unit of a frame. -/
def FAddr.unit (f : FAddr) : Nat := f.reg * 32 + f.cluster

/-! ## Record fields -/

/-- Byte offset of a position of the region record (Table 36). -/
def regOff (pos : Nat) : Nat := if pos < 2080 then 2 * pos else 4160 + (pos - 2080)
/-- Position, first byte and width in bytes of the field that byte `o` of a region record lies in. -/
def regPosOf (o : Nat) : Nat := if o < 4160 then o / 2 else 2080 + (o - 4160)

/-- Physical frames that hold a region field and a die field of slot `t`. -/
def regFrame (r t pos : Nat) : Nat := (FAddr.mk .rrr (r / 64) (r % 64) 0 0 0 ((t * 4800 + regOff pos) / 512)).code
@[inherit_doc regFrame] def dieFrame (d t pos : Nat) : Nat := (FAddr.mk .drr d 0 0 0 0 ((t * 7680 + 2 * pos) / 512)).code

/-! ## One stored bit -/

/-- Invert bit `b` of a number. -/
def flipBit (v b : Nat) : Nat := if bit v b then v - 2 ^ b else v + 2 ^ b
/-- Invert bit `b` of a stored number. -/
def NStore.flip (m : NStore) (k b : Nat) : NStore := m.put k (flipBit (m.at k) b)

/-- Invert frame bit `b` (0 to 4,095) of a physical frame where it is stored. -/
def Pkg.flipFrameBit (s : Pkg) (f : FAddr) (b : Nat) : Pkg :=
  match f.cls with
  | .itr => { s with fab.instr := s.fab.instr.flip (slotKey f.reg (64 * f.frame + b / 64) + f.cluster * 64 + f.bp) (b % 64) }
  | .rtf => { s with fab.route := s.fab.route.flip (slotKey f.reg (8 * f.frame + b / 512) + f.cluster * 64 + b % 512 / 8) (b % 8) }
  | .rrr =>
    let o := 512 * f.frame + b / 8
    let p := regPosOf (o % 4800)
    let k := recKey f.reg (o / 4800) p
    { s with fab.regRec := s.fab.regRec.flip k (8 * (o % 4800 - regOff p) + b % 8) }
  | .drr =>
    let o := 512 * f.frame + b / 8
    { s with fab.dieRec := s.fab.dieRec.flip (recKey f.die (o / 7680) (o % 7680 / 2)) (8 * (o % 2) + b % 8) }
  | .wst =>
    let x := 4096 * f.frame + b
    { s with fab.wstore := s.fab.wstore.flip (f.unit * 1024 + x / 48) (x % 48) }
  | .ivd =>
    let bp := f.unit * 64 + 2 * f.frame + b / 2048
    { s with fab.dataInit := s.fab.dataInit.flip (bp * 2048 + b % 2048) 0 }
  | .ivw =>
    let u := Store.get {} s.fab.wuInit f.unit
    if f.frame < 4 then
      let a := 256 * f.frame + b / 16
      { s with fab.wuInit := Store.set {} s.fab.wuInit f.unit { u with mem := u.mem.flip a (b % 16) } }
    else if b < 704 then
      let o := 0x800 + b / 32 * 4
      { s with fab.wuInit := Store.set {} s.fab.wuInit f.unit (wuWrite u o (flipBit (wuRead u o) (b % 32))) }
    else s
  | .dsc => { s with que.desc := s.que.desc.flip (((f.reg * 8 + f.port) * 64 + 32 * f.frame + b / 128) * 2 + b % 128 / 64) (b % 64) }

/-! ## CRC-32C syndromes (R187, R209) -/

/-- One step of the reflected CRC-32C register (Castagnoli polynomial 0x1EDC6F41). -/
def crcStep (r : Nat) : Nat := if r % 2 = 1 then Nat.xor (r / 2) 0x82F63B78 else r / 2

/-- Syndromes of the last `n` bits of a message, the last bit first. -/
def crcTail : Nat → Nat → List Nat
  | 0, _ => []
  | n + 1, r => r :: crcTail n (crcStep r)

/-- Syndromes of the 4,096 data bits (last first) and then of the 32 address bits (last first): the message is the 4-byte address
followed by the 512 bytes, each byte from its least significant bit. -/
def syndromes : List Nat := crcTail 4128 0x82F63B78

/-- Syndrome of an error in a set of bits of the codeword: data bits 0 to 4,095 and check bits 4,096 to 4,127. -/
def syndrome (l : List Nat) : Nat :=
  l.foldl (fun x b => Nat.xor x (if b < 4096 then syndromes.getD (4095 - b) 0 else 2 ^ (b - 4096))) 0

/-- Classes of a syndrome (R209). -/
inductive SynClass where
  | clean
  | data (b : Nat)
  | check (b : Nat)
  | addr
  | multi
deriving DecidableEq, Repr

/-- Classify a syndrome by the first row of the table that fits. -/
def classify (x : Nat) : SynClass :=
  if x = 0 then .clean
  else match syndromes.idxOf? x with
    | some n => if n < 4096 then .data (4095 - n) else
        match (List.range 32).find? fun b => x == 2 ^ b with
        | some b => .check b
        | none => .addr
    | none =>
      match (List.range 32).find? fun b => x == 2 ^ b with
      | some b => .check b
      | none => .multi

/-- Bits in error after `l` more have flipped. -/
def flipSet (e l : List Nat) : List Nat := l.foldl (fun e b => if e.contains b then e.filter (· != b) else (b :: e)) e

end Sys2Proof.Machine
end

