-- ==== Sys2Proof/Machine/VMap.lean ====
section
/-!
DEFINITION. The placement of an instance as ARY_VMAP records it (R168-R170, Table 91): virtual regions and clusters to physical ones and
back.
-/
namespace Sys2Proof.Machine

/-- Index of the ARY_VMAP entry of virtual region `r` of virtual die `v`. -/
def vkey (i v r : Nat) : Nat := i * 512 + v * 64 + r

/-- Physical die of a virtual die. -/
def Pkg.physDie (s : Pkg) (i v : Nat) : Option Nat := (s.inst i).desc.dies[v]?

/-- Package region of a virtual region. -/
def Pkg.physRegion (s : Pkg) (i v r : Nat) : Option Nat :=
  let k := vkey i v r
  if v < 8 ∧ r < 64 ∧ s.g .ARY_VMAP_REG_VALID k = 1 then some (s.g .ARY_VMAP_REG_DIE k * 64 + s.g .ARY_VMAP_REG_REGION k) else none

/-- Physical cluster of a used virtual cluster. -/
def Pkg.physCluster (s : Pkg) (i v r c : Nat) : Option Nat :=
  let k := vkey i v r
  if (s.physRegion i v r).isSome ∧ c < 32 ∧ bit (s.g .ARY_VMAP_USE k) c then some (s.g .ARY_VMAP_CL (k * 36 + c)) else none

/-- Placed virtual regions of an instance, as (virtual die, virtual region, package region). -/
def Pkg.placed (s : Pkg) (i : Nat) : List (Nat × Nat × Nat) :=
  (List.range 8).flatMap fun v => (List.range 64).filterMap fun r => (s.physRegion i v r).map fun p => (v, r, p)

/-- Virtual die and region of a package region. -/
def Pkg.virtRegion (s : Pkg) (i p : Nat) : Option (Nat × Nat) := ((s.placed i).find? fun e => e.2.2 == p).map fun e => (e.1, e.2.1)

/-- Virtual cluster of a physical one. -/
def Pkg.virtCluster (s : Pkg) (i v r c : Nat) : Option Nat := (List.range 32).find? fun x => s.physCluster i v r x == some c

/-- Used physical clusters of package region `p`, ascending. -/
def Pkg.usedClusters (s : Pkg) (i p : Nat) : List Nat :=
  match s.virtRegion i p with
  | some (v, r) => (List.range 32).filter fun c => (s.virtCluster i v r c).isSome
  | none => []

/-- Virtual address of a physical frame of instance `i` (R214). -/
def Pkg.virtFrame (s : Pkg) (i : Nat) (f : FAddr) : Nat :=
  match f.cls with
  | .drr => ({ f with die := (s.inst i).desc.dies.idxOf f.die }).code
  | _ =>
    match s.virtRegion i f.reg with
    | some (v, r) =>
      match f.cls with
      | .rrr | .dsc => ({ f with die := v, region := r }).code
      | _ => ({ f with die := v, region := r, cluster := (s.virtCluster i v r f.cluster).getD 0 }).code
    | none => 0

/-- Die on which instance `i` owns a region, a bridge or through block, a port or an I/O bank (R83, R212). -/
def Pkg.onDie (s : Pkg) (i d : Nat) : Bool :=
  (s.regionsOf i).any (fun r => r / 64 == d) ||
  ((List.range 32).any fun n => s.brgOwner d (n / 8) (n % 8) == some i) || ((List.range 8).any fun j => s.thrOwner d j == some i) ||
  ((List.range 4).any fun p => s.portOwner (d * 4 + p) == some i || s.bankOwner (d * 4 + p) == some i)

end Sys2Proof.Machine
end

