-- ==== Sys2Proof/Machine/TurnerOps.lean ====
section
/-!
DEFINITION. Turner (R207-R217): which frames an engine scans, a frame check with its classification and correction, bad frames and
their effect on instances.
-/
namespace Sys2Proof.Machine

/-- Content that a design runs on, unlike the initial-value copies (R212). -/
def FClass.running (c : FClass) : Bool := c != .ivd && c != .ivw

/-- Instances that a frame belongs to: the owner of its region, or every instance present on the die of a DRR frame. -/
def Pkg.frameInsts (s : Pkg) (f : FAddr) : List Nat :=
  match f.cls with
  | .drr => (List.range 16).filter fun i => s.onDie i f.die
  | _ => match s.regionOwner f.reg with
    | some i => [i]
    | none => []

/-- The instance's frames are scanned: it is neither UNLOADED nor LOADING. -/
def Pkg.settled (s : Pkg) (i : Nat) : Bool := s.runState i != .unloaded && s.runState i != .loading

/-- An instance on die `d` is settled: the engines of the die scan the die records. -/
def Pkg.dieScanned (s : Pkg) (d : Nat) : Bool := (List.range 16).any fun i => s.onDie i d && s.settled i

/-- Classes in the order an engine takes them (Table 108). -/
def scanOrder : List FClass := [.itr, .rtf, .rrr, .wst, .ivd, .ivw, .dsc, .drr]

/-- Place of a frame in that order: class, then ascending physical address (R208). -/
def FAddr.rank (f : FAddr) : Nat := scanOrder.idxOf f.cls * 2 ^ 32 + f.code

/-- Frames of a class that engine `g` of die `d` scans, ascending (R207, Table 108). -/
def Pkg.classScan (s : Pkg) (d g : Nat) (c : FClass) : List FAddr :=
  match c with
  | .drr => if s.dieScanned d then (List.range 240).map fun n => { cls := .drr, die := d, frame := g + 64 * n } else []
  | _ =>
    match s.regionOwner (d * 64 + g) with
    | none => []
    | some i =>
      if !s.settled i then [] else
      let f : FAddr := { cls := c, die := d, region := g, frame := 0 }
      let fr := List.range (c.limit (s.depth i) false)
      let used := s.usedClusters i (d * 64 + g)
      match c with
      | .itr => used.flatMap fun cl => (List.range 64).flatMap fun p => fr.map fun n => { f with cluster := cl, bp := p, frame := n }
      | .rtf => (List.range 32).flatMap fun cl => fr.map fun n => { f with cluster := cl, frame := n }
      | .rrr => fr.map fun n => { f with frame := n }
      | .dsc => (List.range 8).flatMap fun p => fr.map fun n => { f with port := p, frame := n }
      | _ => used.flatMap fun cl => fr.map fun n => { f with cluster := cl, frame := n }

/-- Every frame that engine `g` of die `d` scans, in its order. -/
def Pkg.scanList (s : Pkg) (d g : Nat) : List FAddr := scanOrder.flatMap (s.classScan d g)

/-- The frame that engine `g` of die `d` reads next: the first beyond its place in the pass; past the last, the first again. -/
def Pkg.nextFrame (s : Pkg) (d g : Nat) : Option FAddr :=
  let l := s.scanList d g
  match l.find? fun f => decide (s.trn.pos.at (d * 64 + g) ≤ f.rank) with
  | some f => some f
  | none => l.head?

/-- Bad frames of instance `i`, of running content or of the initial-value copies. -/
def Pkg.badOf (s : Pkg) (i : Nat) (running : Bool) : Nat :=
  (s.trn.bad.filter fun e => match faddr e.1 with
    | some f => f.cls.running == running && (s.frameInsts f).contains i
    | none => false).length

/-- BAD and INIT_BAD of every instance, and the die and engine summaries, as the list of bad frames gives them (R212, R214, R217). -/
def Pkg.trnRefresh (s : Pkg) : Pkg :=
  let s := s.each (List.range 16) fun s i =>
    s.ps [(.TRN_INST_STAT_BAD, i, min 1023 (s.badOf i true)), (.TRN_INST_STAT_INIT_BAD, i, b2n (s.badOf i false != 0))]
  let l := s.trn.bad.filterMap fun e => (faddr e.1).map fun f => (f, e.1, e.2)
  s.each (List.range s.part.model.dies) fun s d =>
    let mine := l.filter fun e => e.1.die == d
    let s := s.pb .TRN_DRR_BAD d (mine.any fun e => e.1.cls == .drr)
    let regs := mine.filter fun e => e.1.cls != .drr
    let s := s.p .TRN_BAD_SUM d ((List.range 64).foldl (fun n g => if regs.any fun e => e.1.region == g then n + 2 ^ g else n) 0)
    s.each (List.range 64) fun s g =>
      match regs.find? fun e => e.1.region == g with
      | some e => s.ps [(.TRN_UE_ADDR, d * 64 + g, e.2.1), (.TRN_UE_INFO_KIND, d * 64 + g, e.2.2), (.TRN_UE_INFO_VALID, d * 64 + g, 1)]
      | none => s.p .TRN_UE_INFO_VALID (d * 64 + g) 0

/-- Frames are rewritten with new check words: they hold no error and are no longer bad (R214). -/
def Pkg.rewritten (s : Pkg) (p : Nat → Bool) : Pkg :=
  ({ s with trn.errs := s.trn.errs.drop p, trn.bad := s.trn.bad.filter fun e => !p e.1 }).trnRefresh

/-- Every frame of a package region. -/
def inRegion (r a : Nat) : Bool :=
  match faddr a with
  | some f => f.cls != .drr && f.reg == r
  | none => false

/-- A bad frame reaches an instance (R212, R213). -/
def Pkg.turnerStop (s : Pkg) (i : Nat) : Pkg :=
  if s.runs i then s.turnerFreeze i ((s.inst i).row == 0 && (s.inst i).step != 0) else s

/-- Abandon a relocation of instance `i` before its switch (R173): its command ends, the instance stays as it was. -/
def Pkg.relocAbandon (s : Pkg) (i : Nat) : Pkg :=
  match Store.get none s.reloc i with
  | some r => ({ s with reloc := Store.set none s.reloc i none }).failCmd r.cmd.1 r.cmd.2 .abandoned
  | none => s

/-- A frame is found uncorrectable with a KIND (1 MULTI, 2 ADDR, 3 VERIFY). The first bad frame of an instance is the one found while it has none
(DESIGN CHOICE: after a patch has mended every bad frame, R212 does not say whether the next is recorded). -/
def Pkg.frameBad (s : Pkg) (d g : Nat) (f : FAddr) (kind : Nat) : Pkg :=
  let k := d * 64 + g
  let s := (s.inc .TRN_UE k).p .TRN_STAT_UE k 1
  if s.trn.bad.any fun e => e.1 == f.code then s
  else
    let l := s.frameInsts f
    let s := s.each l fun s i =>
      if s.g .TRN_INST_STAT_BAD i = 0 ∧ s.g .TRN_INST_STAT_INIT_BAD i = 0 then
        s.ps [(.TRN_INST_UE_ADDR, i, f.code), (.TRN_INST_UE_CYC, i, s.g .ARY_MCC i)]
      else s
    let s := ({ s with trn.bad := s.trn.bad ++ [(f.code, kind)] }.trnRefresh).notify d .turner f.code
    if f.cls.running then (s.each l Pkg.turnerStop).each l Pkg.relocAbandon else s.each l Pkg.relocAbandon

/-- The bits in error of a frame change to `e`. -/
def Pkg.setErrs (s : Pkg) (a : Nat) (e : List Nat) : Pkg := { s with trn.errs := Store.set [] s.trn.errs a e }

/-- Frame bits flip in the tier. -/
def Pkg.upset (s : Pkg) (f : FAddr) (l : List Nat) : Pkg :=
  let s := s.each (l.filter (· < 4096)) fun s b => s.flipFrameBit f b
  s.setErrs f.code (flipSet (Store.get [] s.trn.errs f.code) l)

/-- A single-bit error is corrected and the frame read again (R210); `stuck` tells that the bit does not take the correction. -/
def Pkg.correct (s : Pkg) (d g : Nat) (f : FAddr) (b : Nat) (stuck : Bool) : Pkg :=
  let k := d * 64 + g
  if stuck then s.frameBad d g f 3
  else
    let s := s.upset f [b]
    let s := (s.inc .TRN_CE k).ps [(.TRN_STAT_CE, k, 1), (.TRN_CE_ADDR, k, f.code), (.TRN_CE_BIT, k, b)]
    s.each (s.frameInsts f) fun s i => s.incSat .TRN_INST_CE_CNT i

/-- Upsets of stored frames (R215), as frame address and codeword bits. -/
def Pkg.upsets (s : Pkg) (l : List (Nat × List Nat)) : Pkg :=
  s.each l fun s e => match faddr e.1 with
    | some f => s.upset f (e.2.filter (· < 4128))
    | none => s

/-- A frame as an engine classifies it and what follows (R209, R210, R212). -/
def Pkg.classified (s : Pkg) (d g : Nat) (f : FAddr) (stuck : Bool) : Pkg :=
  let k := d * 64 + g
  match classify (syndrome (Store.get [] s.trn.errs f.code)) with
  | .clean => s.inc .TRN_CLEAN k
  | .data b => s.correct d g f b stuck
  | .check b => s.correct d g f (4096 + b) stuck
  | .addr => s.frameBad d g f 2
  | .multi => s.frameBad d g f 1

/-- The engine moves on beyond frame `f`; after the last frame of its order the pass ends, having taken `us` microseconds (R208). -/
def Pkg.passOn (s : Pkg) (d g us : Nat) (f : FAddr) : Pkg :=
  let k := d * 64 + g
  if (s.scanList d g).any fun x => decide (f.rank < x.rank) then { s with trn.pos := s.trn.pos.put k (f.rank + 1) }
  else ({ s with trn.pos := s.trn.pos.put k 0 }.inc .TRN_PASS_CNT k).p .TRN_PASS_US k us

/-- TURNER_FRAME_CHECK: engine `g` of die `d` reads frame `a`, if that is its next (R208). `flips` are codeword bits upset since its last visit, `stuck` tells that a
corrected bit reads back wrong, `us` how long the pass has lasted. -/
def Pkg.frameCheck (s : Pkg) (d g a : Nat) (flips : List Nat) (stuck : Bool) (us : Nat) : Pkg :=
  if !s.b .TRN_CTRL_EN (d * 64 + g) then s
  else match s.nextFrame d g with
    | none => s
    | some f =>
      if f.code % 2 ^ 32 ≠ a then s
      else
        let s := (s.upset f (flips.filter (· < 4128))).inc .TRN_CHECKED (d * 64 + g)
        (s.classified d g f stuck).passOn d g us f

end Sys2Proof.Machine
end

