-- ==== Sys2Proof/Machine/InstLife.lean ====
section
/-!
DEFINITION. The life of an instance (R356, Table 179): what a load claims and clears, what a reset restores, and what an unload or a
load failure releases.
-/
namespace Sys2Proof.Machine

/-- Return fields of a set of indices to their reset values. -/
def Pkg.clearFlds (s : Pkg) (l : List Fld) (q : Nat → Bool) : Pkg :=
  { s with flds := s.flds.drop fun k => (l.any fun f => f.ctorIdx == k % 1024) && q (k / 1024) }
/-- Return the captured values of fields to their reset values. -/
def Pkg.clearSnaps (s : Pkg) (l : List Fld) (q : Nat → Bool) : Pkg :=
  { s with snaps := s.snaps.drop fun k => (l.any fun f => f.ctorIdx == k % 1024) && q (k / 1024) }
/-- The same index. -/
def only (i n : Nat) : Bool := n == i

/-! ## Fields of an instance -/

/-- Fields of Tables 59 and 61 of one word unit (R121). -/
def wuUnitFields : List Fld :=
  [.WU_EXC_FLAGS_OVF, .WU_EXC_FLAGS_SAT, .WU_EXC_FLAGS_DVF, .WU_EXC_FLAGS_VALID, .WU_EXC_FLAGS_MULTI, .WU_EXC_POS_STEP_IDX,
   .WU_EXC_POS_WADDR, .WU_EXC_POS_KIND, .WU_EXC_POS_DEST, .WU_EXC_POS_MODE, .WU_EXC_CYC, .WU_EXC_LOOPA_LC0, .WU_EXC_LOOPA_LC1,
   .WU_EXC_LOOPB_LC2, .WU_EXC_LOOPB_LC3, .WU_EXC_LOOPB_DEPTH, .WU_EXC_CNT]
/-- Fields of one instance that load and instance reset clear: Tables 22, 59, 71, 210 and XBR_NOCAP_CNT, XBR_GDL_VAL. -/
def instClearFields : List Fld :=
  [.ARY_MCC, .ARY_TOTAL, .ARY_EXEC, .ARY_STALL_LNK, .ARY_STALL_QUE, .ARY_STALL_CALL, .ARY_HOLD_FLOW, .ARY_STALLED_MC, .ARY_STOP_POS,
   .WU_INST_EXC_PEND, .WU_INST_EXC_FRZ_REQ, .WU_INST_EXC_FIRST_DIE, .WU_INST_EXC_FIRST_REGION, .WU_INST_EXC_FIRST_CLUSTER,
   .WU_INST_EXC_FIRST_VALID, .WU_INST_EXC_CNT, .WU_INST_EXC_CYC, .CAV_INST_BUSY_CNT, .CAV_INST_DROP_CNT, .CAV_INST_SKIP_CNT,
   .XBR_NOCAP_CNT, .XBR_GDL_VAL, .DBG_INST_STEPN, .DBG_INST_STAT_HOLD, .DBG_INST_STAT_FRZ_PEND, .DBG_INST_STAT_STEPPING,
   .DBG_INST_STAT_STEP_REFUSED, .DBG_INST_LEFT]
/-- Flags of ARY_RUN_STAT that a stop clears. -/
def runFlagFields : List Fld :=
  [.ARY_RUN_STAT_MID_CYCLE, .ARY_RUN_STAT_STALLING, .ARY_RUN_STAT_STALL_CAUSE, .ARY_RUN_STAT_HOLDING, .ARY_RUN_STAT_PAUSE_PEND,
   .ARY_RUN_STAT_FREEZE_PEND]
/-- Fields of one flow (Table 189). -/
def flowFields : List Fld :=
  [.SCH_FLOW_CFG_CALL, .SCH_FLOW_CFG_VDIE, .SCH_FLOW_CFG_VREGION, .SCH_FLOW_CFG_VCLUSTER, .SCH_FLOW_CFG_DEPTHM1, .SCH_FLOW_CFG_PRIO,
   .SCH_FLOW_CFG_NREG, .SCH_FLOW_CFG_NBIT, .SCH_FLOW_BUF_BASE, .SCH_FLOW_BUF_LEN, .SCH_FLOW_STAT_STATE, .SCH_FLOW_STAT_DIR,
   .SCH_FLOW_STAT_SEQ_ERR, .SCH_FLOW_STAT_DMA_ERR, .SCH_FLOW_STAT_OWNER, .SCH_FLOW_STAT_OWNED, .SCH_FLOW_STAT_LEN_ERR, .SCH_FLOW_HOST,
   .SCH_FLOW_DEV, .SCH_FLOW_TAKEN, .SCH_FLOW_REL, .SCH_FLOW_PURGED, .SCH_FLOW_ANS_LO, .SCH_FLOW_HOLD, .SCH_FLOW_LAT_MAX,
   .SCH_FLOW_RING, .SCH_FLOW_RINGCFG_LOG2N, .SCH_FLOW_RINGCFG_ENTRY_BYTES, .SCH_FLOW_SNAPLVL]
/-- Fields of one ARY_VMAP entry but for its clusters (Table 91). -/
def vmapFields : List Fld :=
  [.ARY_VMAP_REG_REGION, .ARY_VMAP_REG_DIE, .ARY_VMAP_REG_USED, .ARY_VMAP_REG_VALID, .ARY_VMAP_USE, .ARY_VMAP_BANK]
/-- Fields of XBR_GDL_CFG. -/
def gdlFields : List Fld :=
  [.XBR_GDL_CFG_MODE, .XBR_GDL_CFG_DIE, .XBR_GDL_CFG_REGION, .XBR_GDL_CFG_CLUSTER, .XBR_GDL_CFG_BP, .XBR_GDL_CFG_ADDR]
/-- Fields of ARY_CFG_INFO. -/
def cfgInfoFields : List Fld :=
  [.ARY_CFG_INFO_DEPTH, .ARY_CFG_INFO_COMPAT, .ARY_CFG_INFO_CASCADE, .ARY_CFG_INFO_MASTER, .ARY_CFG_INFO_EDGE_LEN]
/-- Fields of TRN_INST (Table 111). -/
def trnInstFields : List Fld :=
  [.TRN_INST_STAT_BAD, .TRN_INST_STAT_INIT_BAD, .TRN_INST_STAT_FRZ_REQ, .TRN_INST_UE_CYC, .TRN_INST_UE_ADDR, .TRN_INST_CE_CNT]
/-- Fields of the instance block of the scheduler (Table 187). -/
def schInstFields : List Fld :=
  [.SCH_INST_RST_PHASE, .SCH_INST_RST_OVERRUN, .SCH_INST_OUT, .SCH_INST_RST_US, .SCH_INST_RST_CNT, .SCH_INST_PURGED]
/-- Fields of IOC_CELL_CFG, which unload returns to reset (Table 120). -/
def cellFields : List Fld :=
  [.IOC_CELL_CFG_MODE, .IOC_CELL_CFG_SLEW, .IOC_CELL_CFG_DRIVE, .IOC_CELL_CFG_KEEPER, .IOC_CELL_CFG_PULL, .IOC_CELL_CFG_INIT,
   .IOC_CELL_CFG_INIT_EN]

/-- Every field of Table 154. -/
def rennetFields : List Fld := regsRNT.flatMap fun r => r.fields.filterMap fun f => f.fld

/-! ## Clearing -/

/-- The stage registers of instance `i` are not valid: load and instance reset clear every flag (R65, R75). -/
def Pkg.clearStages (s : Pkg) (i : Nat) : Pkg :=
  let r := fun (n k : Nat) => s.regionOwner (k / n) == some i
  let brg := fun (k : Nat) => s.brgOwner (k / 1024) (k / 256 % 4) (k % 256 / 32) == some i
  let prt := fun (k : Nat) => s.portOwner (k / 64) == some i
  let cel := fun (k : Nat) => s.cellOwner k == some i
  { s with
    fab.exp := s.fab.exp.drop (r 512), fab.egr := s.fab.egr.drop (r 32), fab.ing := s.fab.ing.drop (r 32),
    fab.bln := s.fab.bln.drop brg, fab.arr := s.fab.arr.drop brg,
    fab.thr := s.fab.thr.drop (fun k => s.thrOwner (k / 1024) (k / 4 % 256 / 32) == some i),
    fab.ptx := s.fab.ptx.drop prt, fab.prx := s.fab.prx.drop prt, fab.ocv := s.fab.ocv.drop cel, fab.oce := s.fab.oce.drop cel,
    fab.ibNow := s.fab.ibNow.drop cel, fab.ibPrev := s.fab.ibPrev.drop cel }

/-- Read lines of the banks of instance `i`'s regions are not valid (R126, R135), and its accesses in flight are gone. -/
def Pkg.clearLines (s : Pkg) (i : Nat) : Pkg :=
  { s with cav.lines := s.cav.lines.drop (fun k => s.regionOwner (k / 32) == some i), cav.pipe := s.cav.pipe.filter fun a => a.inst != i }

/-- The counters and records of instance `i` that load and instance reset clear, with its word units' exception records. -/
def Pkg.clearInst (s : Pkg) (i : Nat) : Pkg :=
  let s := ((s.clearFlds instClearFields (only i)).clearSnaps instClearFields (only i)).clearFlds runFlagFields (only i)
  (s.clearFlds wuUnitFields fun u => s.regionOwner (u / 32) == some i).clearLines i

/-- Everything the tier and the stores hold of package region `r` becomes unused content (R191). -/
def Pkg.wipeRegion (s : Pkg) (r : Nat) : Pkg :=
  let per := fun (n k : Nat) => k / n == r
  { s with
    fab.junk := s.fab.junk.put r 0, fab.instr := s.fab.instr.drop (per (1024 * 2048)), fab.route := s.fab.route.drop (per (1024 * 2048)),
    fab.regRec := s.fab.regRec.drop (per (1024 * 4096)), fab.data := s.fab.data.drop (per (2048 * 2048)),
    fab.dataInit := s.fab.dataInit.drop (per (2048 * 2048)), fab.wstore := s.fab.wstore.drop (per (32 * 1024)),
    fab.wu := s.fab.wu.drop (per 32), fab.wuInit := s.fab.wuInit.drop (per 32),
    que.desc := s.que.desc.drop (per (8 * 64 * 2)), que.init := s.que.init.drop (per (8 * 64)), que.port := s.que.port.drop (per 8) }

/-- Owner of the destination at position `pos` of die `d` (R83). -/
def Pkg.dieDestOwner (s : Pkg) (d pos : Nat) : Option Nat := (List.range 16).find? fun i => s.dieDest i d pos

/-- Fields of die `d` whose destination no instance owns become disabled (R85, R191). -/
def Pkg.wipeUnowned (s : Pkg) (d : Nat) : Pkg :=
  { s with fab.dieRec := s.fab.dieRec.drop fun k => k / (1024 * 4096) == d && (s.dieDestOwner d (k % 4096)).isNone }

/-! ## Initial contents -/

/-- Data stores, word units and caves of the copies are copied into place for keys that satisfy `p` of the copy `c`. -/
def copyIn (m c : NStore) (p : Nat → Bool) : NStore := Store.setAll 0 (m.drop p) (c.filter fun e => p e.1).reverse

/-- Data stores and word units of instance `i` take their initial values (R57, R92): divide holds clear, sequencers restart. -/
def Pkg.restoreArray (s : Pkg) (i : Nat) : Pkg :=
  let rs := s.regionsOf i
  let s := { s with fab.data := copyIn s.fab.data s.fab.dataInit fun k => rs.contains (k / (2048 * 2048)) }
  s.each rs fun s r => s.each (List.range 32) fun s c =>
    let u : WordUnit := Store.get {} s.fab.wuInit (r * 32 + c)
    s.setWunit (r * 32 + c) { u with dh0 := false, dh1 := false, wpc := 0, stack := [] }

/-- Banks that instance `i` owns now. -/
def Pkg.banksOf (s : Pkg) (i : Nat) : List Nat :=
  ((s.regionsOf i).flatMap fun r => (List.range 16).map fun b => r * 16 + b).filter fun b => s.bankOwn b == .inst i

/-- Banks take their initial contents (R135). -/
def Pkg.restoreBanks (s : Pkg) (l : List Nat) : Pkg :=
  { s with cav.mem := copyIn s.cav.mem s.cav.init fun k => l.contains (k / 16384) }

/-- Handovers to instance `i` that wait are cancelled: each bank stays with its previous owner (R133). -/
def Pkg.cancelHandovers (s : Pkg) (i : Nat) : Pkg :=
  s.each (((s.cav.oldOwn.map (·.1)).filter fun b => s.g .CAV_OWN_KIND b == 0 && s.g .CAV_OWN_INST b == i)) fun s b =>
    s.setBankOwn b (s.cav.oldOwn.at b / 16 % 4) 0

/-! ## Segments (R144, R145, R294) -/

/-- Free segments, stack*144 + segment, of stack `j` in ascending order; a stack that failed training has none (Table 215). -/
def Pkg.freeSegs (s : Pkg) (j : Nat) : List Nat :=
  ((List.range 144).map fun m => j * 144 + m).filter fun k => s.g .QUE_SEG_OWN_KIND k == 0 && !reservedSeg k && !s.boot.bad.contains j

/-- Take `n` free segments, one from each stack in turn from stack `j` on; stacks that have none left are passed over. `fuel` bounds the
turns. -/
def Pkg.spread (s : Pkg) (free : Nat → List Nat) (nst j n : Nat) : Nat → List Nat
  | 0 => []
  | fuel + 1 =>
    if n = 0 then []
    else match free j with
      | [] => s.spread free nst ((j + 1) % nst) n fuel
      | k :: l => k :: s.spread (fun x => if x = j then l else free x) nst ((j + 1) % nst) (n - 1) fuel

/-- Assign a slice of `n` segments to instance `i`, from the stack of die `d` on (R145); none when too few are free. -/
def Pkg.assignSlice (s : Pkg) (i n d : Nat) : Option Pkg :=
  let st := s.part.model.stacks
  let l := s.spread s.freeSegs st (s.part.model.stackOf d) n (st * 145 + n * st + 1)
  if l.length < n then none
  else
    let s := s.each l.zipIdx fun s (k, n) =>
      let s := s.segOwnSet k 1 i
      let s := { s with que.hbm := Store.drop s.que.hbm fun a => a / segBytes == k }
      s.ps [(.QUE_SEG_MAP_SEGMENT, i * 568 + n, k % 144), (.QUE_SEG_MAP_STACK, i * 568 + n, k / 144), (.QUE_SEG_MAP_VALID, i * 568 + n, 1)]
    some (s.p .QUE_INST_CFG i n)

/-- Segments whose owner satisfies `p` (KIND and INST) become free; their contents stay. -/
def Pkg.freeSegsOf (s : Pkg) (p : Nat → Nat → Bool) : Pkg :=
  s.each ((List.range (s.part.model.stacks * 144)).filter fun k => p (s.g .QUE_SEG_OWN_KIND k) (s.g .QUE_SEG_OWN_INST k)) fun s k =>
    s.segOwnSet k 0 0

/-! ## Release (R135, R145, R193, R373) -/

/-- Trace is released: segments are free, staging banks revert to the firmware (Table 149). -/
def Pkg.releaseTrace (s : Pkg) (i : Nat) : Pkg :=
  if s.traced = some i ∨ (s.inst i).desc.traced then
    let s := s.freeSegsOf fun k _ => k == 2
    let s := s.each ((List.range (s.part.model.dies * 1024)).filter fun b => s.bankOwn b == .whey) fun s b => s.setBankOwn b 1 0
    let s := s.clearFlds [.WHY_SINK_CFG_SINK, .WHY_SINK_CFG_RING_MODE, .WHY_SINK_CFG_PORT, .WHY_SINK_CFG_RING_SEGS,
      .WHY_SINK_CFG_STAGE_BANKS, .WHY_SINK_CFG_OWNED, .WHY_PROBE_CNT, .WHY_RING_SEG_SEGMENT, .WHY_RING_SEG_STACK, .WHY_RING_SEG_VALID]
      fun _ => true
    { s with trc.probe := [], trc.pin := [], trc.pendArm := false, trc.deferArm := false, trc.pendStop := false, trc.frzReq := false }.ps [(.WHY_CAP_STAT_OWNED, 0, 0), (.WHY_CAP_STAT_OWNER, 0, 0)]
  else s

/-- Bridge and through blocks of instance `i` lose their owner. -/
def Pkg.releaseBlocks (s : Pkg) (i : Nat) : Pkg :=
  s.each (List.range s.part.model.dies) fun s d =>
    let s := s.each (List.range 32) fun s n =>
      if s.brgOwner d (n / 8) (n % 8) = some i then (s.p .XBR_OWN_BRG (d * 32 + n) 0).pbit .XBR_OWN_VALID (d * 4 + n / 8) (n % 8) false else s
    s.each (List.range 8) fun s j =>
      if s.thrOwner d j = some i then (s.p .XBR_OWN_THR (d * 8 + j) 0).pbit .XBR_OWN_VALID_THR d j false else s

/-- I/O banks of instance `i` lose their owner; their cells are disabled. -/
def Pkg.releaseBanks (s : Pkg) (i : Nat) : Pkg :=
  s.each ((List.range (s.part.model.dies * 4)).filter fun b => s.bankOwner b == some i) fun s b =>
    (s.clearFlds [.IOC_BANK_CFG_VIO, .IOC_BANK_CFG_OWNER, .IOC_BANK_CFG_OWNED, .IOC_BANK_STAT_VOK, .IOC_BANK_STAT_ENABLED] (only b)).clearFlds
      cellFields fun c => c / 32 == b

/-- Everything instance `i` owns is released: what an unload and a load failure have in common. -/
def Pkg.release (s : Pkg) (i : Nat) : Pkg :=
  let d := (s.inst i).desc
  let s := (s.dropPend i).cancelHandovers i
  let mine := s.regionsOf i
  let dies := s.part.model.dies
  let s := s.each ((List.range (dies * 1024)).filter fun b => s.bankOwn b == .inst i) Pkg.revertBank
  let s := s.clearFlds [.CAV_PORT_CFG_WIDTH_A, .CAV_PORT_CFG_BUSY15_A, .CAV_PORT_CFG_WIDTH_B, .CAV_PORT_CFG_BUSY15_B] fun b => mine.contains (b / 16)
  let s := (s.clearStages i).clearLines i
  let s := s.releaseTrace i
  let s := s.freeSegsOf fun k n => k == 1 && n == i
  let s := (s.releaseBlocks i).releaseBanks i
  let s := s.each (s.portsOf i) Pkg.portOff
  let s := { s with que.port := s.que.port.drop (fun k => mine.contains (k / 8)), que.init := s.que.init.drop (fun k => mine.contains (k / 512)),
                    fab.edge := s.fab.edge.drop (fun k => k / 4096 == i), cav.init := s.cav.init.drop (fun k => mine.contains (k / (16 * 16384))),
                    sch.flows := s.sch.flows.drop (fun f => decide (d.flowBase ≤ f) && decide (f < d.flowBase + d.flowCount)) }
  let fl := fun (f : Nat) => decide (d.flowBase ≤ f) && decide (f < d.flowBase + d.flowCount)
  let s := (s.clearFlds flowFields fl).clearSnaps flowFields fl
  let s := (s.clearFlds [.QUE_SEG_MAP_SEGMENT, .QUE_SEG_MAP_STACK, .QUE_SEG_MAP_VALID] fun k => k / 568 == i).clearFlds [.QUE_INST_CFG] (only i)
  let s := (s.clearFlds vmapFields fun k => k / 512 == i).clearFlds [.ARY_VMAP_CL] fun k => k / (512 * 36) == i
  let s := (s.clearFlds gdlFields fun k => k / 16 == i).clearFlds (cfgInfoFields ++ trnInstFields ++ runFlagFields ++ [.XBR_GDL_VAL]) (only i)
  let s := { s with fab.regOwn := s.fab.regOwn.drop fun r => mine.contains r }
  let s := s.rewritten fun a => mine.any fun r => inRegion r a
  let s := s.rewritten fun a => match faddr a with
    | some f => f.cls == .drr && !((List.range 16).any fun j => s.onDie j f.die)
    | none => false
  { s.setInst i {} with reloc := Store.set none s.reloc i none, cas.peers := s.cas.peers.filter fun e => e.2 != i }

/-- An instance becomes UNLOADED. -/
def Pkg.toUnloaded (s : Pkg) (i : Nat) : Pkg :=
  let s := if s.traced = some i then
      { s with trc.halves := [], trc.running := [], trc.phase := 0, trc.prev := none, trc.autoDue := false }.clearFlds rennetFields fun _ => true
    else s
  (s.release i).setRun i .unloaded

end Sys2Proof.Machine
end

