-- ==== Sys2Proof/Machine/Flows.lean ====
section
/-!
DEFINITION. The scheduler's engines (R365-R368, R374, R376) and the life of a flow: binding, entry writes, fetches, answers, purge
(R357-R363, R375).
-/
namespace Sys2Proof.Machine

/-! ## Engines (R366, R367) -/

/-- The part has engine `e` (Table 183), and a DMA engine is not on a die that failed to boot (R443). -/
def Pkg.engPresent (s : Pkg) (e : Nat) : Bool :=
  if e < 8 then decide (e < s.part.model.dies) else decide (e < 8 + s.part.model.dmas) && s.dieOk ((e - 8) / 4)

/-- Engine `e` can take an item: in service, an MP that is READY and not halted (R421) with fewer than 4 items, or a DMA engine with none. -/
def Pkg.engRoom (s : Pkg) (e : Nat) : Bool :=
  s.engPresent e && !s.b .SCH_ENG_STAT_FAULT e &&
  if e < 8 then s.mpActs e && decide ((s.onEngine e).length < 4) else (s.onEngine e).isEmpty

/-- Place of the staged entry `q` of flow `f` among those ahead of it. -/
def Pkg.outPos (s : Pkg) (f q : Nat) : Option Nat := (s.flow f).out.findIdx? fun e => e.fseq == q

/-- Its slot is free: fewer than N entries lie between the pointers and ahead of it (R361). -/
def Pkg.slotFree (s : Pkg) (f q : Nat) : Bool :=
  match s.outPos f q with
  | some n => decide (dist16 (s.g .SCH_FLOW_DEV f) (s.g .SCH_FLOW_HOST f) + n < s.flowN f)
  | none => false

/-- A ready item that engine `e` may run (R367). -/
def Pkg.eligible (s : Pkg) (e : Nat) (x : Item) : Bool :=
  x.engine.isNone &&
  match x.ref with
  | .cmd m q => decide (e < 8) && match s.job m q with
    | some j => j.die == e && s.turn j
    | none => false
  | .move _ _ _ => decide (8 ≤ e)
  | .pkg _ => decide (8 ≤ e)
  | .out f q => decide (8 ≤ e) && s.flowBound f && s.slotFree f q
  | .inb f => decide (8 ≤ e) && s.flowBound f

/-- Deadline of an item, ns (R367). -/
def Pkg.deadline (s : Pkg) (x : Item) : Nat := x.arr + max 1 (s.g .SCH_DL x.prio) * 1000

/-- Signed 64-bit comparison of two times: `a` lies before `b`. -/
def before64 (a b : Nat) : Bool := decide (2 ^ 63 ≤ (a % 2 ^ 64 + 2 ^ 64 - b % 2 ^ 64) % 2 ^ 64)

/-- `x` goes before `y` in the order of R367. -/
def Pkg.goesBefore (s : Pkg) (x y : Item) : Bool :=
  let byPrio := decide (y.prio < x.prio) ||
    (x.prio == y.prio && (decide (x.arr < y.arr) || (x.arr == y.arr && decide (x.num < y.num))))
  if s.part.edf then before64 (s.deadline x) (s.deadline y) || (!before64 (s.deadline y) (s.deadline x) && byPrio) else byPrio

/-- The first eligible item of engine `e`. -/
def Pkg.selectItem (s : Pkg) (e : Nat) : Option Item :=
  (s.sch.items.filter (s.eligible e)).foldl (fun b x => match b with
    | none => some x
    | some y => if s.goesBefore x y then some x else some y) none

/-- Bin of SCH_WAIT_HIST of a wait in ns. -/
def waitBin (w : Nat) : Nat := ([1000, 4000, 16000, 64000, 256000, 1000000, 4000000].filter fun n => n ≤ w).length

/-- Put item `x` on engine `e`; a management processor's CTX follows it (R420). -/
def Pkg.dispatch (s : Pkg) (e : Nat) (x : Item) : Pkg :=
  let s := if before64 (s.deadline x) s.sch.now then s.incSat .SCH_LATE x.ref.code else s
  let s := s.incSat .SCH_WAIT_HIST (x.ref.code * 8 + waitBin (s.sch.now - x.arr))
  let s := if e < 8 then s else s.inc .SCH_DMA_ISSUED 0
  let s := if (s.onEngine e).isEmpty then { s with sch.since := s.sch.since.put e (s.sch.now + 1) } else s
  let s := if e < 8 then s.ps [(.DBG_MP_CTX_INST, e, x.inst.getD 0), (.DBG_MP_CTX_VALID, e, b2n x.inst.isSome)] else s
  { s with sch.items := s.sch.items.map fun y => if y.num = x.num then { y with engine := some e } else y }

/-- Time passes as a command tells it, ns. -/
def Pkg.pass (s : Pkg) (ns : Nat) : Pkg := { s with sch.now := s.sch.now + ns }

/-- WORK_ITEM_DISPATCH: engine `e` takes its first eligible item. -/
def Pkg.dispatchTo (s : Pkg) (e : Nat) : Pkg :=
  if s.engRoom e then
    match s.selectItem e with
    | some x => s.dispatch e x
    | none => s
  else s

/-- The management processor that carries command `j` out acts, and has its item or takes it now: it has room, and the item is the first of its
order (R366, R367). -/
def Pkg.mpTakes (s : Pkg) (m seq : Nat) (j : Msg) : Bool :=
  s.mpActs j.die && match s.sch.items.find? fun x => x.ref == .cmd m seq with
    | some x => x.engine.isSome || (s.engRoom j.die && (s.selectItem j.die).any fun y => y.num == x.num)
    | none => true

/-- The management processor takes a command it is about to perform, if its item still waits. -/
def Pkg.dispatchCmd (s : Pkg) (m seq : Nat) : Pkg :=
  match s.sch.items.find? fun x => x.ref == .cmd m seq && x.engine.isNone, s.job m seq with
  | some x, some j => s.dispatch j.die x
  | _, _ => s

/-! ## Transfers of a command (R365, R366, R368) -/

/-- The item that the transfer of a command has out. -/
def Pkg.moveItem (s : Pkg) (m seq : Nat) : Option Item := s.sch.items.find? fun x => x.ref.moves m seq

/-- The first free DMA engine that would take item `x`. -/
def Pkg.dmaFor (s : Pkg) (x : Item) : Option Nat :=
  (List.range 40).find? fun e => decide (8 ≤ e) && s.engRoom e && (s.selectItem e).any fun y => y.num == x.num

/-- The next item of a command's transfer: created when the pool has a place, given to a DMA engine that is free for it, and completed unless that
engine is out of service. -/
def Pkg.moveOne (s : Pkg) (m seq : Nat) (trc : Bool) (j : Msg) : Pkg × Bool :=
  let s := if (s.moveItem m seq).isSome || s.g .SCH_POOL 0 == 0 then s
    else s.newItem (.move m seq trc) j.prio (if namesInst j.op then some j.inst else none)
  let s := match s.moveItem m seq with
    | some x => if x.engine.isSome then s else match s.dmaFor x with
      | some e => s.dispatch e x
      | none => s
    | none => s
  match s.moveItem m seq with
  | some x => match x.engine with
    | some e => if s.b .SCH_ENG_STAT_FAULT e then (s, false) else ((s.inc .SCH_DMA_DONE 0).itemDone x, true)
    | none => (s, false)
  | none => (s, false)

/-- A command makes its transfer of `n` more items, one at a time (DESIGN CHOICE), and then does `k`; where an item must wait for the pool or for
an engine, the command waits with it, and goes on when it is performed again. -/
def Pkg.transfer (s : Pkg) (m seq : Nat) (trc : Bool) (j : Msg) (k : Pkg → Pkg) : Nat → Pkg
  | 0 => k s
  | n + 1 => match s.moveOne m seq trc j with
    | (s, true) => s.transfer m seq trc j k n
    | (s, false) => s.waitsXfer m seq (n + 1)

/-- Items that a transfer of `len` bytes takes, or still takes: at most 64 KiB each (R365), up to the one that fails after `fail` bytes. -/
def Msg.items (j : Msg) (len : Nat) (fail : Option Nat) : Nat :=
  j.xfer.getD (((match fail with | some k => min len (k + 1) | none => len) + 65535) / 65536)

/-! ## Purge (R371, R375) -/

/-- Entries of flow `f` that a DMA engine is writing. -/
def Pkg.inEngine (s : Pkg) (f : Nat) (e : FlowEnt) : Bool := s.sch.items.any fun x => x.ref == .out f e.fseq && x.engine.isSome

/-- The flow has an item on an engine. -/
def Pkg.flowBusy (s : Pkg) (f : Nat) : Bool :=
  s.sch.items.any fun x => x.engine.isSome && match x.ref with
    | .out g _ => g == f
    | .inb g => g == f
    | _ => false

/-- Ready items of flow `f`. -/
def Pkg.flowReady (s : Pkg) (f : Nat) : List Item :=
  s.sch.items.filter fun x => x.engine.isNone && match x.ref with
    | .out g _ => g == f
    | .inb g => g == f
    | _ => false

/-- A bound flow enters PURGE: ready items and staged entries not in a DMA engine are purged, calls are discarded. -/
def Pkg.flowPurge (s : Pkg) (f : Nat) : Pkg :=
  let x := s.flow f
  let keep := x.out.filter (s.inEngine f)
  let gone := x.out.length - keep.length + x.inb.length
  let s := s.each (s.flowReady f) Pkg.itemPurge
  ((s.setFlow f { x with out := keep, inb := [], calls := [] }).inc .SCH_FLOW_PURGED f gone).p .SCH_FLOW_STAT_STATE f 2

/-- A flow that FLOW_UNBIND put in PURGE becomes UNBOUND when nothing of it is on an engine. -/
def Pkg.unbindEnd (s : Pkg) (f : Nat) : Pkg :=
  match (s.flow f).unbind with
  | some (m, seq) =>
    if s.flowBusy f then s
    else
      let s := (s.setFlow f { s.flow f with unbind := none, halt := false }).p .SCH_FLOW_STAT_STATE f 0
      s.done m seq
  | none => s

/-! ## Binding (R357, R358) -/

/-- Owner of a flow. -/
def Pkg.flowOwner (s : Pkg) (f : Nat) : Option Nat := if s.b .SCH_FLOW_STAT_OWNED f then some (s.g .SCH_FLOW_STAT_OWNER f) else none

/-- Flow unit that the flow's configuration names. -/
def Pkg.flowUnit (s : Pkg) (i f : Nat) : Option Nat :=
  let v := s.g .SCH_FLOW_CFG_VDIE f
  let r := s.g .SCH_FLOW_CFG_VREGION f
  match s.physRegion i v r, s.physCluster i v r (s.g .SCH_FLOW_CFG_VCLUSTER f) with
  | some p, some c => some (p * 32 + c)
  | _, _ => none

/-- Flows that are not UNBOUND. -/
def Pkg.boundFlows (s : Pkg) : List Nat :=
  (s.flds.filter fun e => e.1 % 1024 == Fld.SCH_FLOW_STAT_STATE.ctorIdx && e.2 != 0).map fun e => e.1 / 1024

/-- Flow-buffer bytes that the bound flows of die `d` use. -/
def Pkg.bufUsed (s : Pkg) (d : Nat) : Nat :=
  (s.boundFlows.filter fun f => (s.flow f).unit / 2048 == d).foldl (fun n f => n + s.flowDepth f * s.g .SCH_FLOW_RINGCFG_ENTRY_BYTES f) 0

/-- Why a FLOW_BIND is rejected, or the flow unit it binds to. -/
def Pkg.bindCheck (s : Pkg) (f dir log2n eb : Nat) : Reason ⊕ (Nat × Nat) :=
  if 4096 ≤ f ∨ 2 ≤ dir ∨ log2n < 4 ∨ 12 < log2n ∨ !([64, 128, 256, 512, 1024, 2048, 4096].contains eb) then .inl .badArgs
  else match s.flowOwner f with
    | none => .inl .notOwner
    | some i =>
      if s.g .SCH_FLOW_STAT_STATE f ≠ 0 ∨ s.runState i = .loading ∨ s.resetting i ∨ s.relocating i ∨ s.patching i then .inl .instState
      else
        let len := s.flowLen f
        if len = 0 ∨ eb < 16 + 2 * len ∨ 1024 < s.g .SCH_FLOW_BUF_BASE f + len ∨ 16 < s.g .SCH_FLOW_CFG_NREG f then .inl .badArgs
        else match s.flowUnit i f with
          | none => .inl .badArgs
          | some u => if 2 ^ 22 < s.bufUsed (u / 2048) + s.flowDepth f * eb then .inl .badArgs else .inr (i, u)

/-- FLOW_BIND starts the flow afresh (R357). -/
def Pkg.flowBind (s : Pkg) (f u dir log2n eb ring : Nat) : Pkg :=
  let s := s.each [.SCH_FLOW_TAKEN, .SCH_FLOW_REL, .SCH_FLOW_PURGED, .SCH_FLOW_HOLD, .SCH_FLOW_LAT_MAX, .SCH_FLOW_SNAPLVL] fun s x =>
    (s.p x f 0).psnap x f 0
  let s := s.ps [(.SCH_FLOW_STAT_STATE, f, 1), (.SCH_FLOW_STAT_DIR, f, dir), (.SCH_FLOW_RINGCFG_LOG2N, f, log2n),
    (.SCH_FLOW_RINGCFG_ENTRY_BYTES, f, eb), (.SCH_FLOW_RING, f, ring), (.SCH_FLOW_HOST, f, 0), (.SCH_FLOW_DEV, f, 0)]
  (s.setFlow f { unit := u }).statusLine f

/-- FLOW_UNBIND (R357, R375): none when it is accepted. -/
def Pkg.unbindCheck (s : Pkg) (f : Nat) : Option Reason :=
  if 4096 ≤ f then some .badArgs
  else match s.flowOwner f with
    | none => some .notOwner
    | some i => if s.g .SCH_FLOW_STAT_STATE f ≠ 1 ∨ s.resetting i ∨ s.relocating i then some .instState else none

/-! ## DMA of entries (R361, R363) -/

/-- The device pointer advances by one and the status line shows it (R359). -/
def Pkg.devStep (s : Pkg) (f : Nat) : Pkg := (s.inc .SCH_FLOW_DEV f).statusLine f

/-- Header of Table 180 and payload of an outbound entry. -/
def entryBytes (len : Nat) (e : FlowEnt) : List Byte :=
  leBytes e.fseq 4 ++ leBytes len 2 ++ leBytes e.inst 1 ++ leBytes (b2n e.call) 1 ++ leBytes e.mcc 8 ++ e.words.flatMap fun w => leBytes w 2

/-- An entry reaches its slot in the host ring. -/
def Pkg.slotWrite (s : Pkg) (f : Nat) (e : FlowEnt) : Pkg :=
  { s with host := writeBytes s.host (s.g .SCH_FLOW_RING f + e.slot * s.g .SCH_FLOW_RINGCFG_ENTRY_BYTES f) (entryBytes e.words.length e) }

/-- Release every entry at the front whose write has completed. `fuel` bounds the entries. -/
def Pkg.releaseFlow (s : Pkg) (f : Nat) : Nat → Pkg
  | 0 => s
  | fuel + 1 =>
    let x := s.flow f
    match x.out with
    | e :: rest =>
      if e.written then
        let calls := x.calls.map fun c => if c.1 = e.fseq then (c.1, true) else c
        let s := ((s.setFlow f { x with out := rest, calls := calls }).devStep f).inc .SCH_FLOW_REL f
        let lat := min sat32 (s.sch.now - e.taken)
        (if s.g .SCH_FLOW_LAT_MAX f < lat then s.p .SCH_FLOW_LAT_MAX f lat else s).releaseFlow f fuel
      else s
    | [] => s

/-- OUTBOUND_ENTRY_WRITE_DONE: the entry write on engine `e` completes. In a flow under purge the write goes into the sink, and whether
its slot was written is not defined (R371). -/
def Pkg.outDone (s : Pkg) (e : Nat) : Pkg :=
  match (s.onEngine e).find? fun x => match x.ref with | .out _ _ => true | _ => false with
  | none => s
  | some x =>
    match x.ref with
    | .out f q =>
      let fl := s.flow f
      match fl.out.find? fun y => y.fseq == q with
      | none => s
      | some ent =>
        if s.flowBound f then
          let s := (((s.slotWrite f ent).setFlow f { fl with out := fl.out.map fun y => if y.fseq = q then { y with written := true } else y }).inc
            .SCH_DMA_DONE 0).itemDone x
          s.releaseFlow f 64
        else
          let (hit, s) := s.draw 1
          let s := if hit = 1 then s.slotWrite f ent else s
          let s := (s.setFlow f { fl with out := fl.out.filter fun y => y.fseq != q }).inc .SCH_FLOW_PURGED f
          ((s.inc .SCH_DMA_DISCARD 0).itemPurge x).unbindEnd f
    | _ => s

/-- INBOUND_FETCH_DONE: the fetch on engine `e` brings an entry with header fields `fseq` and `len` and payload `words` (R363). -/
def Pkg.inbDone (s : Pkg) (e fseq len : Nat) (words : List Nat) : Pkg :=
  match (s.onEngine e).find? fun x => match x.ref with | .inb _ => true | _ => false with
  | none => s
  | some x =>
    match x.ref with
    | .inb f =>
      if s.flowBound f then
        let s := (s.inc .SCH_DMA_DONE 0).itemDone x
        let fl := s.flow f
        if fseq % 2 ^ 32 ≠ s.g .SCH_FLOW_TAKEN f then (s.setFlow f { fl with halt := true }).p .SCH_FLOW_STAT_SEQ_ERR f 1
        else if len = 0 ∨ 1024 < len ∨ (s.g .SCH_FLOW_RINGCFG_ENTRY_BYTES f - 16) / 2 < len then
          (s.setFlow f { fl with halt := true }).p .SCH_FLOW_STAT_LEN_ERR f 1
        else
          let ws := (List.range len).map fun n => words.getD n 0 % 2 ^ 16
          (((s.setFlow f { fl with inb := fl.inb ++ [ws] }).devStep f).inc .SCH_FLOW_TAKEN f).inbItem f
      else
        let s := ((s.devStep f).inc .SCH_FLOW_TAKEN f).inc .SCH_FLOW_PURGED f
        ((s.inc .SCH_DMA_DISCARD 0).itemPurge x).unbindEnd f
    | _ => s

/-- DMA_RETRY: the transfer on engine `e` failed and is tried again (R368). -/
def Pkg.dmaRetry (s : Pkg) (e : Nat) : Pkg :=
  match (s.onEngine e).head? with
  | some x =>
    match x.ref with
    | .out f _ => (s.incSat .SCH_DMA_RETRY 0).p .SCH_FLOW_STAT_DMA_ERR f 1
    | .inb f => (s.incSat .SCH_DMA_RETRY 0).p .SCH_FLOW_STAT_DMA_ERR f 1
    | _ => s
  | none => s

/-! ## Host side (R359, R362) -/

/-- A write of the host pointer: the cause of its refusal, or the new state. -/
def Pkg.hostPtr (s : Pkg) (f v : Nat) : Nat ⊕ Pkg :=
  let gap := if s.g .SCH_FLOW_STAT_DIR f = 0 then dist16 (s.g .SCH_FLOW_DEV f) v else dist16 v (s.g .SCH_FLOW_DEV f)
  if s.g .SCH_FLOW_STAT_STATE f = 0 ∨ s.flowN f < gap then .inl 5 else .inr ((s.p .SCH_FLOW_HOST f v).inbItem f)

/-- A write of SCH_FLOW_ANS_HI, with the low word where the write carries both: it answers the oldest call. -/
def Pkg.callAnswer (s : Pkg) (f : Nat) (lo : Option Nat) (hi : Nat) : Nat ⊕ Pkg :=
  let x := s.flow f
  match x.calls with
  | (_, true) :: rest =>
    let s := match lo with
      | some v => s.p .SCH_FLOW_ANS_LO f v
      | none => s
    .inr (s.setFlow f { x with calls := rest, word := s.g .SCH_FLOW_ANS_LO f + hi % 2 ^ 32 * 2 ^ 32 })
  | _ => .inl 4

/-! ## Snapshot (R374, R376) -/

/-- Copy the live values of whole register arrays into the snapshot. -/
def Pkg.snapAll (s : Pkg) (l : List Fld) : Pkg :=
  let here := fun (k : Nat) => l.any fun f => f.ctorIdx == k % 1024
  { s with snaps := Store.setAll 0 (s.snaps.drop here) (s.flds.filter fun e => here e.1).reverse }

/-- SCH_CTRL.SNAP. -/
def Pkg.schSnap (s : Pkg) : Pkg :=
  let s := s.snapAll [.SCH_CREATED, .SCH_DONE, .SCH_PURGED, .SCH_DMA_ISSUED, .SCH_DMA_DONE, .SCH_DMA_DISCARD, .SCH_FLOW_TAKEN,
    .SCH_FLOW_REL, .SCH_FLOW_PURGED, .SCH_FLOW_SNAPLVL]
  let s := s.each (List.range 4) fun s t =>
    let l := s.sch.items.filter fun x => x.ref.code == t
    (s.psnap .SCH_READY t (l.filter fun x => x.engine.isNone).length).psnap .SCH_RUN t (l.filter fun x => x.engine.isSome).length
  let s := s.psnap .SCH_DMA_ACTIVE 0 (s.sch.items.filter fun x => x.engine.any fun e => decide (8 ≤ e)).length
  s.each s.sch.flows fun s e => s.psnap .SCH_FLOW_SNAPLVL e.1 (e.2.out.length + e.2.inb.length)

/-- SCH_ENG_CTRL.RETURN. -/
def Pkg.engReturn (s : Pkg) (e : Nat) : Pkg := s.p .SCH_ENG_STAT_FAULT e 0

end Sys2Proof.Machine
end

