-- ==== Sys2Proof/Machine/InstReset.lean ====
section
/-!
DEFINITION. Instance reset and unload (R370-R373): the phases of Table 185, the outstanding count, the overrun.
-/
namespace Sys2Proof.Machine

/-- The reset or unload of instance `i` under way. -/
def Pkg.resetOf (s : Pkg) (i : Nat) : Option Reset := Store.get none s.sch.resets i
/-- Replace it. -/
def Pkg.setReset (s : Pkg) (i : Nat) (r : Option Reset) : Pkg := { s with sch.resets := Store.set none s.sch.resets i r }

/-- Dies whose cave restore of instance `i`'s reset has not ended (R371). -/
def Pkg.restoring (s : Pkg) (i : Nat) : List Nat :=
  match s.resetOf i with
  | some r => ((r.caveOwn.map (· / 1024)).eraseDups)
  | none => []

/-- What a reset or unload waits for but for cave restores: transfer and flow items, queue requests, ports that flush, Whey FIFOs that hold bytes.
The CMD item of the INST_RESET itself is none of them. -/
def Pkg.draining (s : Pkg) (i : Nat) : Nat :=
  let items := (s.sch.items.filter fun x => x.inst == some i && x.ref.code != 0).length
  let reqs := (s.queuesOf i).foldl (fun n k => n + (s.qport k).held.length + (s.qport k).fly.length) 0
  let ports := ((s.portsOf i).filter fun q => (s.port q).flush).length
  let fifos := if s.traced = some i then (s.wheyDies.filter fun d => s.hasStream d && s.g .WHY_FIFO_LEVEL d != 0).length else 0
  items + reqs + ports + fifos

/-- SCH_INST_OUT (R371). -/
def Pkg.outstanding (s : Pkg) (i : Nat) : Nat := s.draining i + (s.restoring i).length

/-- Nothing that must end first holds up a reset or unload: no relocation or patch, no command that names the instance and has
begun, no flow being unbound (R344, R370). A RUN_CTL whose launch entry still waits does not hold it up: the entry is discarded (R410). -/
def Pkg.resetReady (s : Pkg) (i : Nat) : Bool :=
  !s.relocating i && !s.patching i && !(s.allJobs.any fun e => e.2.started && e.2.names.contains i && !s.lqHolds e.1 e.2.seq) &&
  !((s.flowsOf i).any fun f => (s.flow f).unbind.isSome)

/-- Commands that name instance `i` and have not begun are turned away, the one that resets it excepted, and their items purged (R344, R375,
Table 173). -/
def Pkg.rejectNamed (s : Pkg) (i : Nat) (own : Option (Nat × Nat)) : Pkg :=
  s.each (s.allJobs.filter fun e => e.2.names.contains i && !e.2.started && some (e.1, e.2.seq) != own) fun s e =>
    (s.cmdItemPurge e.1 e.2.seq).reject e.1 e.2.seq .instReset

/-- STOP: a stall or hold is abandoned and what waited for a boundary is discarded. -/
def Pkg.resetStop (s : Pkg) (i : Nat) : Pkg :=
  let s := s.updInst i fun x => { desc := x.desc, step := x.step, row := x.row, begun := x.begun, launched := x.launched }
  let s := if s.traced = some i then { s with trc.frzReq := false } else s
  s.clearFlds [.ARY_RUN_STAT_STALLING, .ARY_RUN_STAT_STALL_CAUSE, .ARY_RUN_STAT_HOLDING, .ARY_RUN_STAT_PAUSE_PEND,
    .ARY_RUN_STAT_FREEZE_PEND, .WU_INST_EXC_FRZ_REQ, .TRN_INST_STAT_FRZ_REQ, .DBG_INST_STAT_FRZ_PEND, .DBG_INST_STAT_STEPPING,
    .DBG_INST_LEFT] (only i)

/-- A port's SCH flush for a reset (R264): entries are discarded, and an UP port asks its partner to discard and awaits the answer. -/
def Pkg.resetFlush (s : Pkg) (i q : Nat) : Pkg :=
  let s := (s.flushSch q).updPort q fun x => { x with txSch := [] }
  if s.portSt q = .up then
    (s.updPort q fun x => { x with flush := true }).sendCtl q { src := s.part.pkgId, inst := i, body := .flush false }
  else s

/-- Rennet is disarmed and its counters and timers are 0 (Table 149); a STOP that waited has nothing left to stop. -/
def Pkg.rennetZero (s : Pkg) : Pkg :=
  let s := s.each (List.range 8) fun s n => s.p .RNT_CNT_VAL n 0
  { s with trc.halves := [], trc.running := [], trc.pendStop := false }.p .RNT_STAT_ARMED 0 0

/-- Phases 1 to 3 up to the drain (Table 185). -/
def Pkg.resetBegin (s : Pkg) (i : Nat) (r : Reset) : Pkg :=
  let owed := (s.inst i).owed
  let s := (s.resetStop i).lqDiscard (fun x => x.ctl && x.inst == i) .rejected .instReset
  let s := if r.unload then s else s.rejectNamed i r.mbx
  let s := s.each ((s.flowsOf i).filter s.flowBound) Pkg.flowPurge
  let s := s.each (s.queuesOf i) Pkg.purgePort
  let s := s.cancelHandovers i
  let banks := s.banksOf i ++ owed
  let s := s.each banks Pkg.revertBank
  let s := s.each (s.portsOf i) fun s q => s.resetFlush i q
  let s := s.traceEnd i (if r.unload then 6 else 5)
  let s := if s.traced = some i then s.rennetZero else s
  let s := (s.clearStages i).clearLines i
  let s := s.restoreArray i
  let s := if r.unload then s else
    (s.each (s.queuesOf i) Pkg.restoreEntries).cellsInit i
  (s.setReset i (some { r with caveOwn := if r.unload then [] else banks, since := s.sch.now })).p .SCH_INST_RST_PHASE i 3

/-- A pending ARM applies when the instance reaches LOADED (R308). -/
def Pkg.armAtLoaded (s : Pkg) (i : Nat) : Pkg :=
  if s.traced = some i ∧ s.trc.pendArm then ({ s with trc.pendArm := false }).armOrPend else s

/-- The cave restores end: banks that the firmware has kept take their initial contents and are the instance's again (R135). -/
def Pkg.restoreCaves (s : Pkg) (i : Nat) (r : Reset) : Pkg :=
  let l := r.caveOwn.filter fun b => s.bankOwn b == .firmware
  (s.restoreBanks l).each l fun s b => s.setBankOwn b 0 i

/-- DONE: every restore has ended, the instance is LOADED, its flows are BOUND again, buffered writes apply. -/
def Pkg.resetDone (s : Pkg) (i : Nat) (r : Reset) : Pkg :=
  let s := (s.restoreCaves i r).each (s.queuesOf i) Pkg.zeroQueue
  let s := (s.clearInst i).setInst i { desc := (s.inst i).desc }
  let s := (s.p .ARY_RUN_STAT_STOP_CAUSE i 0).setRun i .loaded
  let s := s.each ((s.flowsOf i).filter fun f => s.g .SCH_FLOW_STAT_STATE f == 2) fun s f => (s.p .SCH_FLOW_STAT_STATE f 1).inbItem f
  let s := (s.applyAllPend i).armAtLoaded i
  let s := (s.incSat .SCH_INST_RST_CNT i).ps [(.SCH_INST_RST_US, i, (s.sch.now - r.since) / 1000), (.SCH_INST_RST_PHASE, i, 4)]
  s.setReset i none

/-- The end of an unload (R373): every resource is released. -/
def Pkg.unloadDone (s : Pkg) (i : Nat) : Pkg := ((s.p .SCH_INST_RST_PHASE i 0).toUnloaded i).setReset i none

/-- The command that asked for the reset or unload completes. -/
def Pkg.resetAnswer (s : Pkg) (r : Reset) (ok : Bool) : Pkg :=
  match r.mbx with
  | some (m, seq) => if ok then s.done m seq else s.failCmd m seq .engineFault
  | none => s

/-- RESET_DRAIN_COMPLETE: nothing of instance `i` drains any more, and the management processors of its caves' dies act and end their restores. -/
def Pkg.drainComplete (s : Pkg) (i : Nat) : Pkg :=
  match s.resetOf i with
  | some r =>
    if s.resetting i ∧ s.draining i = 0 ∧ (s.restoring i).all s.mpActs then (if r.unload then s.unloadDone i else s.resetDone i r).resetAnswer r true else s
  | none => s

/-- RESET_OVERRUN: 2 ms have passed and the drain has not ended (R372). -/
def Pkg.resetOverrun (s : Pkg) (i : Nat) : Pkg :=
  match s.resetOf i with
  | some r =>
    if s.resetting i ∧ s.outstanding i ≠ 0 then
      let engs := (s.sch.items.filter fun x => x.inst == some i && x.ref.code != 0).filterMap (·.engine)
      let s := s.each engs fun s e => s.p .SCH_ENG_STAT_FAULT e 1
      let s := s.ps [(.SCH_INST_RST_PHASE, i, 0), (.SCH_INST_RST_OVERRUN, i, 1), (.SCH_STAT_ENGINE_FAULT, 0, 1),
        (.SCH_INST_RST_US, i, (s.sch.now - r.since) / 1000)]
      let s := s.enterStop i .faulted .engineFault ((s.inst i).row == 0 && (s.inst i).step != 0)
      ((s.updInst i fun x => { x with owed := r.caveOwn }).setReset i none).resetAnswer r false
    else s
  | none => s

/-- What a traced instance's FIFOs hold goes to their sinks (Table 149): into the ring, or acknowledged on the link. What a STREAM ring has no
room for is counted lost. -/
def Pkg.drainTrace (s : Pkg) (i : Nat) : Pkg :=
  if s.traced = some i then
    s.each (s.wheyDies.filter s.hasStream) fun s d =>
      let s := if s.g .WHY_SINK_CFG_SINK d = 0 then s.drainRing d (s.whey d).fifo.length else s.inc .WHY_BYTES_WR d (s.g .WHY_FIFO_LEVEL d)
      let n := if s.g .WHY_SINK_CFG_SINK d = 0 then s.g .WHY_FIFO_LEVEL d else 0
      let w := s.whey d
      ((s.setWhey d { w with fifo := [], unack := 0 }).inc .WHY_BYTES_LOST d n).inc .WHY_LOST_PEND d n |>.p .WHY_FIFO_LEVEL d 0
  else s

/-- The drain of instance `i` ends at once: items and requests still out are purged, and its trace is written. -/
def Pkg.drainNow (s : Pkg) (i : Nat) : Pkg :=
  let s := s.each (s.sch.items.filter fun x => x.inst == some i && x.ref.code != 0) fun s x => (s.inc .SCH_DMA_DISCARD 0).itemPurge x
  let s := s.drainTrace i
  s.each (s.queuesOf i) fun s k =>
    let q := s.qport k
    let s := s.each (q.fly.mergeSort fun a b => decide (a.num ≤ b.num)) fun s r =>
      ((s.useAccess ((s.sliceAddr r.inst r.addr).getD 0) .que).memPerform r).2.inc .QUE_PURGED k
    s.setQport k { s.qport k with fly := [], held := [] }

/-- A load that replaces an instance, and anything else that unloads one within its own command: a relocation is abandoned and a reset in
progress ends first, then phases 1 to 3 with the drain waited for, then the release (R173, R189, R373). -/
def Pkg.unloadNow (s : Pkg) (i : Nat) : Pkg :=
  let s := s.relocAbandon i
  let s := match s.resetOf i with
    | some r =>
      let s := s.drainNow i
      (if r.unload then s.unloadDone i else s.resetDone i r).resetAnswer r true
    | none => s
  if s.runState i = .unloaded then s else ((s.resetBegin i { unload := true }).drainNow i).unloadDone i

end Sys2Proof.Machine
end

