-- ==== Sys2Proof/Machine/Crypto.lean ====
section
/-!
DEFINITION. AES-256 and its Galois counter mode, by which the stream header and its chunks are authenticated and encrypted and a key's check
value is formed (R180, R181, R199). A block is a 128-bit number whose most significant byte is the block's first.
PRESUMED: the spec names the cipher and its mode and gives neither; they are the published standards (FIPS 197, NIST SP 800-38D).
-/
namespace Sys2Proof.Machine

/-! ## AES-256 -/

/-- The substitution box, entry x in bits [8x + 7 : 8x]. -/
def sboxBits : Nat :=
  0x16bb54b00f2d99416842e6bf0d89a18cdf2855cee9871e9b948ed9691198f8e19e1dc186b95735610ef6034866b53e708a8bbd4b1f74dde8c6b4a61c2e2578ba08ae7a65eaf4566ca94ed58d6d37c8e779e4959162acd3c25c2406490a3a32e0db0b5ede14b8ee4688902a22dc4f816073195d643d7ea7c41744975fec130ccdd2f3ff1021dab6bcf5389d928f40a351a89f3c507f02f94585334d43fbaaefd0cf584c4a39becb6a5bb1fc20ed00d153842fe329b3d63b52a05a6e1b1a2c830975b227ebe28012079a059618c323c7041531d871f1e5a534ccf73f362693fdb7c072a49cafa2d4adf04759fa7dc982ca76abd7fe2b670130c56f6bf27b777c63
/-- One byte through the substitution box. -/
def aesSub (b : Nat) : Nat := (sboxBits >>> (8 * b)) % 256

/-- Four bytes of a word through it. -/
def subWord (w : Nat) : Nat := (List.range 4).foldl (fun n k => n + aesSub ((w >>> (8 * k)) % 256) * 256 ^ k) 0

/-- The next word of the key schedule; `ws` are the words so far, the latest first. -/
def nextKeyWord (ws : List Nat) (i : Nat) : Nat :=
  let t := ws.headD 0
  let t := if i % 8 = 0 then subWord ((t <<< 8 ||| t >>> 24) % 2 ^ 32) ^^^ (2 ^ (i / 8 - 1) * 2 ^ 24)
    else if i % 8 = 4 then subWord t else t
  ws.getD 7 0 ^^^ t

/-- Words i up to 59 of the key schedule, before those in `ws`. -/
def keyWords : Nat → Nat → List Nat → List Nat
  | 0, _, ws => ws
  | n + 1, i, ws => keyWords n (i + 1) (nextKeyWord ws i :: ws)

/-- Number whose most significant byte stands first in the list. -/
def beOf (l : List Nat) : Nat := l.foldl (fun n b => n * 256 + b % 256) 0
/-- The `n` bytes of a number, the most significant first. -/
def beVals (v n : Nat) : List Nat := (leVals v n).reverse

/-- Fifteen round keys from four words each. -/
def roundKeysOf : Nat → List Nat → List Nat
  | n + 1, a :: b :: c :: d :: l => (((a * 2 ^ 32 + b) * 2 ^ 32 + c) * 2 ^ 32 + d) :: roundKeysOf n l
  | _, _ => []

/-- Round keys of a 256-bit key given by its 32 bytes. -/
def roundKeys (key : List Nat) : List Nat :=
  let ws := (List.range 8).map fun k => beOf ((key.drop (4 * k)).take 4)
  roundKeysOf 15 (keyWords 52 8 ws.reverse).reverse

/-- Byte `i` of a block, 0 first. -/
def blockByte (n i : Nat) : Nat := (n >>> (8 * (15 - i))) % 256

/-- SubBytes and ShiftRows. -/
def subShift (n : Nat) : Nat := (List.range 16).foldl (fun m i => m * 256 + aesSub (blockByte n ((i + 4 * (i % 4)) % 16))) 0

/-- Multiply by x in the field of AES. -/
def xtime (b : Nat) : Nat := if b < 128 then 2 * b else (2 * b) ^^^ 0x11B

/-- MixColumns. -/
def mixColumns (n : Nat) : Nat :=
  (List.range 16).foldl (fun m i =>
    let at4 := fun k => blockByte n (i / 4 * 4 + (i + k) % 4)
    m * 256 + (xtime (at4 0) ^^^ xtime (at4 1) ^^^ at4 1 ^^^ at4 2 ^^^ at4 3)) 0

/-- The rounds after the first key addition. -/
def aesRounds : List Nat → Nat → Nat
  | [], n => n
  | [k], n => subShift n ^^^ k
  | k :: l, n => aesRounds l (mixColumns (subShift n) ^^^ k)

/-- AES-256 of one block under the round keys. -/
def aesBlock (rk : List Nat) (n : Nat) : Nat := aesRounds rk.tail (n ^^^ rk.headD 0)

/-! ## GCM -/

/-- One step of the field product: partial sum and multiple. -/
def gmulBit (y b : Nat) (zv : Nat × Nat) : Nat × Nat :=
  (if y.testBit b then zv.1 ^^^ zv.2 else zv.1, if zv.2 % 2 = 1 then zv.2 / 2 ^^^ 0xE1 * 2 ^ 120 else zv.2 / 2)

/-- Product in the field of GCM, over the bits of `y` below `n`, the most significant first. -/
def gmulFrom (y : Nat) : Nat → Nat × Nat → Nat
  | 0, zv => zv.1
  | n + 1, zv => gmulFrom y n (gmulBit y n zv)

/-- Bytes as blocks, the last padded with zeros. -/
def blocks (l : List Nat) : List Nat := (List.range ((l.length + 15) / 16)).map fun k =>
  let b := (l.drop (16 * k)).take 16
  beOf b * 256 ^ (16 - b.length)

/-- GHASH under the subkey `h`. -/
def ghash (h : Nat) (l : List Nat) : Nat := l.foldl (fun y b => gmulFrom (y ^^^ b) 128 (0, h)) 0

/-- Counter block `n` of an initialization vector of 12 bytes. -/
def counterBlock (iv : List Nat) (n : Nat) : Nat := beOf iv * 2 ^ 32 + n % 2 ^ 32

/-- The GCM tag over additional data and ciphertext. -/
def gcmTag (rk iv aad data : List Nat) : List Nat :=
  let len := 8 * aad.length * 2 ^ 64 + 8 * data.length
  beVals (ghash (aesBlock rk 0) (blocks aad ++ blocks data ++ [len]) ^^^ aesBlock rk (counterBlock iv 1)) 16

/-- Decryption, or encryption, in counter mode. -/
def gcmCrypt (rk iv data : List Nat) : List Nat :=
  (List.range ((data.length + 15) / 16)).flatMap fun k =>
    List.zipWith (· ^^^ ·) ((data.drop (16 * k)).take 16) (beVals (aesBlock rk (counterBlock iv (k + 2))) 16)

/-! ## What the package makes of them -/

/-- The bytes of a key: byte 0 is the least significant of the number that holds it. -/
def keyBytes (key : Nat) : List Nat := leVals key 32

/-- Key-check value of a key (R199): the first four bytes of AES-256 of the all-zero block under it. DEDUCED: the first byte is the value's
least significant, as data is little-endian throughout (R179). -/
def kcvOf (key : Nat) : Nat := ((beVals (aesBlock (roundKeys (keyBytes key)) 0) 16).take 4).foldr (fun b n => b + 256 * n) 0

/-- The initialization vector of a chunk, or of the header (R181). -/
def streamIv (nonce pkg counter : Nat) : List Nat := leVals nonce 7 ++ [pkg % 256] ++ leVals counter 4

end Sys2Proof.Machine
end

