-- ==== Sys2Proof/Machine/Placement.lean ====
section
/-!
DEFINITION. Placing an instance on the part (R8, R11, R12, R138, R168): dies, regions, clusters, and the ARY_VMAP entries that say so.
-/
namespace Sys2Proof.Machine

/-- Bridge hops between two dies of a grid of `c` columns. -/
def hops (c a b : Nat) : Nat := (max (a / c) (b / c) - min (a / c) (b / c)) + (max (a % c) (b % c) - min (a % c) (b % c))

/-- Bits set in a mask of `n` bits. -/
def popcount (n m : Nat) : Nat := ((List.range n).filter (bit m)).length

/-- Region `p` is the target of a relocation that has not switched yet. -/
def Pkg.relocTarget (s : Pkg) (p : Nat) : Bool := s.reloc.any fun e => match e.2 with
  | some r => r.moves.any fun m => m.2.2 == p
  | none => false

/-- Region `p` of the package is free, on a die that booted (R443). -/
def Pkg.regionFree (s : Pkg) (p : Nat) : Bool := (s.regionOwner p).isNone && s.dieOk (p / 64) && !s.relocTarget p

/-- Free regions of a die. -/
def Pkg.freeRegions (s : Pkg) (d : Nat) : List Nat := ((List.range 64).map fun g => d * 64 + g).filter s.regionFree

/-- Good clusters of a region, ascending (R7). -/
def Pkg.goodClusters (s : Pkg) (p : Nat) : List Nat := (List.range 32).filter fun c => !s.part.bad.contains (p * 32 + c)

/-- Region `p` meets the region condition of R168 for a virtual region that uses `use` and `banks`. -/
def Pkg.regionFits (s : Pkg) (p use banks : Nat) : Bool :=
  s.regionFree p && decide (popcount 32 use ≤ (s.goodClusters p).length) &&
  (List.range 16).all fun b => !bit banks b || bit (s.g .CAV_AVAIL p) b

/-- Virtual dies of a descriptor. -/
def ImgDesc.dies (x : ImgDesc) : Nat := x.vrows * x.vcols
/-- Virtual regions of virtual die `v`. -/
def ImgDesc.on (x : ImgDesc) (v : Nat) : List (Nat × Nat × Nat × Nat) := x.regions.filter fun e => e.1 == v

/-- Virtual die `v` may lie on physical die `d` when the lower ones lie on `got` (R12). -/
def Pkg.dieFits (s : Pkg) (x : ImgDesc) (got : List Nat) (v d : Nat) : Bool :=
  !got.contains d && (x.pin.getD v 0xFF == 0xFF || x.pin.getD v 0xFF == d) && decide ((x.on v).length ≤ (s.freeRegions d).length) &&
  x.pairs.all fun (a, b, n) =>
    if a = v ∧ b < v then hops s.part.model.cols d (got.getD b 0) == n
    else if b = v ∧ a < v then hops s.part.model.cols d (got.getD a 0) == n
    else if a = v ∧ b = v then n == 0
    else true

/-- Stage 1: the first mapping in ascending order of the physical dies. -/
def Pkg.mapDies (s : Pkg) (x : ImgDesc) (got : List Nat) : List Nat → Option (List Nat)
  | [] => some got
  | v :: rest => (List.range s.part.model.dies).findSome? fun d => if s.dieFits x got v d then s.mapDies x (got ++ [d]) rest else none

/-- Goes before in stage 2: more used clusters, then the lower number. -/
def vregBefore (a b : Nat × Nat × Nat × Nat) : Bool :=
  decide (popcount 32 b.2.2.1 < popcount 32 a.2.2.1) || (popcount 32 b.2.2.1 == popcount 32 a.2.2.1 && decide (a.2.1 ≤ b.2.1))

/-- Stage 2 on one die: the first assignment, each virtual region in turn taking the lowest free region that fits. -/
def Pkg.assign (s : Pkg) (d : Nat) (got : List (Nat × Nat)) : List (Nat × Nat × Nat × Nat) → Option (List (Nat × Nat))
  | [] => some got
  | (_, r, use, banks) :: rest =>
    (s.freeRegions d).findSome? fun p =>
      if !(got.any fun e => e.2 == p) && s.regionFits p use banks then s.assign d (got ++ [(r, p)]) rest else none

/-- A placement: physical dies, and for every virtual region (die, region, USE, BANKS) its package region. -/
structure Placed where
  dies : List Nat
  regs : List (Nat × Nat × Nat × Nat × Nat)
deriving DecidableEq, Repr

/-- Stages 1 and 2 of R168; none when no placement exists. -/
def Pkg.place (s : Pkg) (x : ImgDesc) : Option Placed :=
  match s.mapDies x [] (List.range x.dies) with
  | none => none
  | some dies =>
    let per := (List.range x.dies).map fun v => s.assign (dies.getD v 0) [] ((x.on v).mergeSort vregBefore)
    if per.all Option.isSome then
      some { dies := dies
             regs := x.regions.map fun (v, r, use, banks) =>
               (v, r, use, banks, ((((per.getD v none).getD []).find? fun e => e.1 == r).map (·.2)).getD 0) }
    else none

/-- Stage 3: the ARY_VMAP entry of virtual region `r` of virtual die `v` on package region `p`. -/
def Pkg.setVmap (s : Pkg) (i v r use banks p : Nat) : Pkg :=
  let k := vkey i v r
  let used := (List.range 32).filter (bit use)
  let s := s.ps [(.ARY_VMAP_REG_REGION, k, p % 64), (.ARY_VMAP_REG_DIE, k, p / 64), (.ARY_VMAP_REG_USED, k, used.length),
    (.ARY_VMAP_REG_VALID, k, 1), (.ARY_VMAP_USE, k, use), (.ARY_VMAP_BANK, k, banks)]
  let s := s.clearFlds [.ARY_VMAP_CL] fun n => n / 36 == k
  s.each (used.zip (s.goodClusters p)) fun s (c, pc) => s.p .ARY_VMAP_CL (k * 36 + c) pc

end Sys2Proof.Machine
end

