-- ==== Sys2Proof/Machine/Checks.lean ====
section
/-!
DEFINITION. The checks of Table 85 on schedule content: BP words (R60, Table 30), routes (R90, Table 46), word programs (R117, Table 56),
queue descriptors (R158, Table 80), bridge alignment (R79). Content that has no physical place is listed in the load engine with the
reason it is refused for.
-/
namespace Sys2Proof.Machine

/-- The entry with the smallest key. -/
def minKey (l : List (Nat × Nat)) : Option (Nat × Nat) :=
  l.foldl (fun b e => match b with
    | some x => if e.1 < x.1 then some e else some x
    | none => some e) none

/-- Regions of instance `i` on die `d`, ascending. -/
def Pkg.regionsOn (s : Pkg) (i d : Nat) : List Nat := (s.regionsOf i).filter fun r => r / 64 == d

/-! ## BP words (Table 30) -/

/-- A must-be-0 field of a QISSUE or WAIT is not 0 (Tables 27, 28). -/
def mustZero (w : Nat) : Bool :=
  (bpClass w == 7 && (bit w 63 || bits w 4 44 != 0)) ||
  (bpClass w == 6 && (if bit w 63 then bits w 60 3 != 0 || bits w 4 38 != 0 else bits w 4 44 != 0))

/-- A SEL_D encoding that Table 26 reserves. -/
def selDReserved (n : Nat) : Bool := !(decide (n < 64) || (decide (256 ≤ n) && decide (n < 272)))

/-- CLASS of BP `b` of the cluster whose words of the slot start at key `k`. -/
def Pkg.classAt (s : Pkg) (k b : Nat) : Nat := bpClass (s.fab.instr.at (k + b))

/-- A CSTART or CCONT. -/
def isCarry (c : Nat) : Bool := c == 3 || c == 4

/-- Reason of Table 30 for word `w` of BP `b` of instance `i`; `k` is the key of BP 0 of its cluster in the slot, `dup` tells that an
earlier BP of the region issues to the same port. -/
def Pkg.bpReason (s : Pkg) (i k b w : Nat) (dup : Bool) : Nat :=
  let c := bpClass w
  let x := (s.inst i).desc
  let flow := bits w 48 12
  if 8 ≤ c then 1
  else if isCarry c && s.b .ARY_CFG_INFO_COMPAT i then 2
  else if c = 4 ∧ b = 0 then 3
  else if c = 4 ∧ !isCarry (s.classAt k (b - 1)) then 4
  else if c = 4 ∧ 8 ≤ b ∧ isCarry (s.classAt k (b - 8)) ∧ (List.range 7).all (fun n => s.classAt k (b - 1 - n) == 4) then 5
  else if c = 2 ∧ selDReserved (bpSelD w) then 6
  else if c = 7 ∧ dup then 7
  else if mustZero w then 8
  else if c = 6 ∧ bit w 63 ∧ !(decide (x.flowBase ≤ flow) && decide (flow < x.flowBase + x.flowCount)) then 9
  else 0

/-- Words of region `r` in executed slots: offset from the region's first word, word. -/
def Pkg.executed (s : Pkg) (i r : Nat) : List (Nat × Nat) :=
  (s.fab.instr.range (slotKey r 0) (slotKey r (s.depth i))).map fun e => (e.1 - slotKey r 0, e.2)

/-- First BP refusal of instance `i` on die `d`: order key (region, cluster, slot, BP) and reason. -/
def Pkg.bpRefusal (s : Pkg) (i d : Nat) : Option (Nat × Nat) :=
  minKey ((s.regionsOn i d).flatMap fun r =>
    let l := s.executed i r
    l.filterMap fun e =>
      let t := e.1 / 2048
      let c := e.1 % 2048 / 64
      let dup := l.any fun x => x.1 / 2048 == t && decide (x.1 < e.1) && bpClass x.2 == 7 && bits x.2 60 3 == bits e.2 60 3
      match s.bpReason i (slotKey r t + c * 64) (e.1 % 64) e.2 dup with
      | 0 => none
      | n => some (((r % 64 * 32 + c) * 1024 + t) * 64 + e.1 % 64, n))

/-! ## Routes (Table 46) -/

/-- Bank `b` of package region `r` is in the BANKS mask of the virtual region placed there. -/
def Pkg.bankNamed (s : Pkg) (i r b : Nat) : Bool :=
  match s.virtRegion i r with
  | some (v, q) => bit (s.g .ARY_VMAP_BANK (vkey i v q)) b
  | none => false

/-- Reasons 2, 3 and 4 for a region field at position `pos`; they do not depend on the placement. -/
def regStatic (pos f : Nat) : Nat :=
  if pos < posEXS then
    if (!bit f 15 && f != 0) || bits f 11 4 != 0 then 2
    else if bit f 15 ∧ 0x620 ≤ bits f 0 11 then 3
    else if bit f 15 ∧ posDEG ≤ pos ∧ 0x600 ≤ bits f 0 11 then 4
    else 0
  else if pos < posPGS then (if (!bit f 7 && f != 0) || bit f 6 then 2 else 0)
  else if (!bit f 7 && f != 0) || bits f 5 2 != 0 then 2
  else 0

/-- Reason of Table 46 for a region field of instance `i` as placed. -/
def Pkg.regReason (s : Pkg) (i r pos f : Nat) : Nat :=
  match regStatic pos f with
  | 0 =>
    let src := bits f 0 11
    if pos < posEXS ∧ bit f 15 ∧ 0x400 ≤ src ∧ src < 0x600 ∧ !s.bankNamed i r ((src - 0x400) / 32) then 5
    else if posPGS ≤ pos ∧ pos < posPGS + 64 ∧ f ≠ 0 ∧ !s.bankNamed i r ((pos - posPGS) / 4) then 5
    else 0
  | n => n

/-- Source kinds of Table 40: 0 region egress, 1 bridge arrival, 2 through output, 3 port receive, 4 input broadcast. -/
def srcKind (src : Nat) : Option Nat :=
  if src < 0x800 then some 0
  else if src < 0xC00 then some 1
  else if src < 0xD00 then some 2
  else if src < 0xE00 then some 3
  else if 0x1000 ≤ src ∧ src < 0x1400 then some 4
  else none

/-- Table 41: the sources a destination permits. -/
def permitted (pos kind : Nat) : Bool :=
  if pos < posBLN then true
  else if pos < posTHR then kind == 0 || kind == 2
  else if pos < posPTX then kind == 1 || kind == 3
  else if pos < posOCV then kind == 0 || kind == 2
  else kind == 0

/-- Reasons 2, 3 and 4 for a die field, and whether it is free of 2 and 3. -/
def dieStatic (pos f : Nat) : Nat :=
  if (!bit f 15 && f != 0) || bits f 13 2 != 0 then 2
  else if !bit f 15 then 0
  else match srcKind (bits f 0 13) with
    | none => 3
    | some k => if permitted pos k then 0 else 4

/-- Lines a port uses per step, W of Table 135. -/
def Pkg.linkW (s : Pkg) (q : Nat) : Nat := [64, 64, 32, 16].getD (s.g .LNK_PORT_STAT_MODE q) 64

/-- Instance `i` owns the source line (R83, R265). -/
def Pkg.ownsSource (s : Pkg) (i d src : Nat) : Bool :=
  match srcKind src with
  | some 0 => s.regionOwner (d * 64 + src / 32) == some i
  | some 1 =>
    match s.part.model.neighbour d ((src - 0x800) / 256) with
    | some e => s.brgOwner e (oppSide ((src - 0x800) / 256)) (src % 256 / 32) == some i
    | none => false
  | some 2 => s.thrOwner d ((src - 0xC00) / 32) == some i
  | some 3 => s.portOwner (d * 4 + (src - 0xD00) / 64) == some i && decide (src % 64 < s.linkW (d * 4 + (src - 0xD00) / 64))
  | some 4 => s.bankOwner ((src - 0x1000) / 32) == some i
  | _ => false

/-- Reason of Table 46 for a die field of instance `i` as placed: 1, 2, 3, 6, 4, 5 in that order. -/
def Pkg.dieReason (s : Pkg) (i d pos f : Nat) : Nat :=
  let src := bits f 0 13
  match dieStatic pos f with
  | 2 => 2
  | 3 => 3
  | n =>
    let noDest := decide (posBLN ≤ pos) && decide (pos < posTHR) && (s.part.model.neighbour d ((pos - posBLN) / 256)).isNone
    let noSrc := bit f 15 && srcKind src == some 1 && (s.part.model.neighbour d ((src - 0x800) / 256)).isNone
    if f ≠ 0 ∧ (noDest || noSrc) then 6
    else if n = 4 then 4
    else if bit f 15 ∧ !s.ownsSource i d src then 5
    else if f ≠ 0 ∧ posPTX ≤ pos ∧ pos < posOCV ∧ s.linkW (d * 4 + (pos - posPTX) / 64) ≤ (pos - posPTX) % 64 then 5
    else 0

/-- Order of route refusals (R90): die records by slot and position, region records by region, slot and position, cluster fields by
region, cluster, slot and BP. -/
def dieOrder (t pos : Nat) : Nat := t * 4096 + pos
@[inherit_doc dieOrder] def regOrder (g t pos : Nat) : Nat := 2 ^ 40 + (g * 1024 + t) * 4096 + pos
@[inherit_doc dieOrder] def cluOrder (g c t b : Nat) : Nat := 2 ^ 44 + ((g * 32 + c) * 1024 + t) * 64 + b

/-- Nonzero reason, with its order key. -/
def refusal (k n : Nat) : Option (Nat × Nat) := if n = 0 then none else some (k, n)

/-- First route refusal of instance `i` on die `d`. -/
def Pkg.routeRefusal (s : Pkg) (i d : Nat) : Option (Nat × Nat) :=
  let n := s.depth i
  let die := ((s.fab.dieRec.range (recKey d 0 0) (recKey d n 0)).filter fun e => s.dieDest i d (e.1 % 4096)).filterMap fun e =>
    refusal (dieOrder (e.1 / 4096 % 1024) (e.1 % 4096)) (s.dieReason i d (e.1 % 4096) e.2)
  let oddDie := (s.load.oddDie.filter fun e => e.1 / (4096 * 1024) == i * 8 + d).filterMap fun e =>
    refusal (dieOrder (e.2.1 / 4096 % 1024) (e.2.1 % 4096)) e.2.2
  let regs := s.regionsOn i d
  let reg := regs.flatMap fun r => (s.fab.regRec.range (recKey r 0 0) (recKey r n 0)).filterMap fun e =>
    refusal (regOrder (r % 64) (e.1 / 4096 % 1024) (e.1 % 4096)) (s.regReason i r (e.1 % 4096) e.2)
  let oddReg := (s.load.oddReg.filter fun e => regs.contains (e.1 / (4096 * 1024))).filterMap fun e =>
    refusal (regOrder (e.1 / (4096 * 1024) % 64) (e.2.1 / 4096 % 1024) (e.2.1 % 4096)) e.2.2
  let clu := regs.flatMap fun r => (s.fab.route.range (slotKey r 0) (slotKey r n)).filterMap fun e =>
    let k := e.1 - slotKey r 0
    refusal (cluOrder (r % 64) (k % 2048 / 64) (k / 2048) (k % 64)) (if e.2 < 128 ∧ e.2 ≠ 0 then 1 else 0)
  minKey (die ++ oddDie ++ reg ++ oddReg ++ clu)

/-! ## Word programs (Table 56) -/

/-- A memory code that steps its index: the buffer. -/
def stepsBuf (c : Nat) : Option Nat := if 0x1C ≤ c ∧ c ≤ 0x23 then some (c % 4) else none

/-- The predicate fields are as R94 asks. -/
def predOk (x : WIns) : Bool :=
  match x.pred with
  | 0 => x.psel == 0
  | 3 => decide (x.psel < 16)
  | _ => true

/-- Fields an instruction does not use are 0 (R94). -/
def fieldsOk (x : WIns) (w : Nat) : Bool :=
  if x.opc = 0 then w % 2 ^ 42 == 0
  else if x.opc = 1 then bits w 10 22 == 0
  else if x.opc = 0x18 then bits w 36 4 == 0 && bits w 24 2 == 0 && bits w 10 6 == 0 && predOk x
  else
    let a := usesA x.opc || isCplx x.opc || isFtap x.opc
    let b := usesB x.opc || isCplx x.opc || isFtap x.opc
    let shift := decide (0x34 ≤ x.opc) && decide (x.opc ≤ 0x37)
    let imm := if shift then decide (x.imm < 64) else (a && x.sa == 0x13) || (b && x.sb == 0x13) || x.imm == 0
    predOk x && (a || x.sa == 0) && (b || x.sb == 0) && (usesD x.opc || (x.opc == 0x19 && decide (x.dst < 4)) || x.dst == 0) && imm

/-- Codes are ones Table 50 and R102 allow, an FTAP's SB apart. -/
def codesAllowed (x : WIns) : Bool :=
  if x.opc ≤ 1 ∨ x.opc = 0x18 then true
  else if isCplx x.opc then cplxOk x.sa && cplxOk x.sb
  else if isFtap x.opc then srcOk x.sa && srcOk x.sb
  else (!usesA x.opc || srcOk x.sa) && (!usesB x.opc || srcOk x.sb) && (!usesD x.opc || dstOk x.dst)

/-- WMEM reads of an instruction (R101). -/
def memReads (x : WIns) : Nat :=
  let m := fun (c : Nat) => b2n (isMem c)
  if isCplx x.opc then 2 * m x.sa + 2 * m x.sb
  else if isFtap x.opc then m x.sa + 1
  else (if usesA x.opc then m x.sa else 0) + (if usesB x.opc then m x.sb else 0)

/-- Buffers stepped, one entry for each field that steps one. -/
def steppedBy (x : WIns) : List Nat :=
  let a := if usesA x.opc || isCplx x.opc || isFtap x.opc then (stepsBuf x.sa).toList else []
  let b := if usesB x.opc || isCplx x.opc || isFtap x.opc then (stepsBuf x.sb).toList else []
  let d := if x.opc = 0x19 then [x.dst % 4] else if usesD x.opc then (stepsBuf x.dst).toList else []
  a ++ b ++ d

/-- Reason of Table 56 for the word `w` at address `a`, with the loop stack as it stands; 0 if none. A word that breaks several checks takes the
first of 1, 2, 3, then 7, 8 for a REP and 4, 5, 6, 10 for another (DESIGN CHOICE: R117 gives no order). -/
def wordReason (w a : Nat) (stack : List (Nat × Nat × Nat)) : Nat :=
  let x := wIns w
  if !opcOk x.opc then 1
  else if !codesAllowed x then 2
  else if !fieldsOk x w then 3
  else if x.opc ≤ 1 ∨ x.opc = 0x18 then
    if x.opc = 1 then
      let en := bits w 0 10
      if decide (en ≤ a) || (match stack with | (_, e, _) :: _ => decide (e ≤ en) | [] => false) then 7
      else if 4 ≤ stack.length then 8 else 0
    else 0
  else if 2 < memReads x then 4
  else if !decide (steppedBy x).Nodup then 5
  else if isFtap x.opc ∧ !(decide (0x20 ≤ x.sb) && decide (x.sb ≤ 0x23)) then 6
  else if 0x34 ≤ x.opc ∧ x.opc ≤ 0x37 ∧ 39 < x.imm % 64 then 10
  else 0

/-- First refusal in the program of unit `k`: word address and reason. `fuel` counts the steps left of D. -/
def Pkg.wordWalk (s : Pkg) (k : Nat) (u : WordUnit) : Nat → Option (Nat × Nat)
  | 0 => none
  | fuel + 1 =>
    let a := u.wpc
    let w := s.fab.wstore.at (k * 1024 + a)
    let n := wordReason w a u.stack
    let n := if s.load.oddWord.contains (k * 1024 + a) ∧ n ≠ 1 ∧ n ≠ 2 then 3 else n
    if n ≠ 0 then some (a, n)
    else
      let u' := u.advance (bits w 42 6 == 1) w a u.stack
      if a = 1023 ∧ u'.wpc = 0 ∧ fuel ≠ 0 then some (1023, 9) else s.wordWalk k u' fuel

/-- First word refusal of instance `i` on die `d`: unit, word address, reason. -/
def Pkg.wordRefusal (s : Pkg) (i d : Nat) : Option (Nat × Nat × Nat) :=
  (s.regionsOn i d).findSome? fun r => (s.usedClusters i r).findSome? fun c =>
    (s.wordWalk (r * 32 + c) {} (s.depth i)).map fun e => (r * 32 + c, e.1, e.2)

/-! ## Descriptors (Table 80) -/

/-- Reason of Table 80 for a descriptor, the first of 1 to 4 (DESIGN CHOICE: R158 gives no order). -/
def descReason (w0 w1 : Nat) (odd : Bool) : Nat :=
  let kind := bits w0 51 2
  if bits w0 53 11 ≠ 0 ∨ bits w1 21 43 ≠ 0 ∨ (!bit w0 39 ∧ bits w0 40 5 ≠ 0) ∨ (!bit w0 45 ∧ bits w0 46 5 ≠ 0) ∨
      (!bit w1 20 ∧ bits w1 0 20 ≠ 0) then 1
  else if kind = 3 then 2
  else if bit w1 20 ≠ (kind != 0) then 3
  else if odd then 4
  else 0

/-- First descriptor refusal of instance `i` on die `d`: descriptor key (region*8+port)*64 + n and reason. -/
def Pkg.descRefusal (s : Pkg) (i d : Nat) : Option (Nat × Nat) :=
  minKey ((s.regionsOn i d).flatMap fun r =>
    (((s.executed i r).filter fun e => bpClass e.2 == 7).map fun e => (r * 8 + bits e.2 60 3) * 64 + bits e.2 48 6).filterMap fun k =>
      refusal k (descReason (s.que.desc.at (2 * k)) (s.que.desc.at (2 * k + 1)) (s.load.oddDesc.contains k)))

/-! ## The check pass -/

/-- Clear the refusal registers of a die (R61, R89, R118, R158). -/
def Pkg.clearRefusals (s : Pkg) (d : Nat) : Pkg :=
  s.clearFlds [.ARY_BP_REFUSE_BP, .ARY_BP_REFUSE_CLUSTER, .ARY_BP_REFUSE_REASON, .ARY_BP_REFUSE_REGION, .ARY_BP_REFUSE_SLOT,
    .ARY_BP_REFUSE_VALID, .XBR_ROUTE_REFUSE0_FIELD, .XBR_ROUTE_REFUSE0_LEVEL, .XBR_ROUTE_REFUSE0_REGION, .XBR_ROUTE_REFUSE0_SLOT,
    .XBR_ROUTE_REFUSE0_VALID, .XBR_ROUTE_REFUSE1, .WU_REFUSE_CLUSTER, .WU_REFUSE_REASON, .WU_REFUSE_REGION, .WU_REFUSE_VALID,
    .WU_REFUSE_WADDR, .QUE_REFUSE_DESC, .QUE_REFUSE_PORT, .QUE_REFUSE_REASON, .QUE_REFUSE_REGION, .QUE_REFUSE_VALID] (only d)

/-- Record the first refusal of each source on die `d`, unless one is recorded already. -/
def Pkg.recordRefusals (s o : Pkg) (i d : Nat) : Pkg :=
  let s := match o.bpRefusal i d with
    | some (k, n) => if s.b .ARY_BP_REFUSE_VALID d then s else
      s.ps [(.ARY_BP_REFUSE_REGION, d, k / (64 * 1024 * 32)), (.ARY_BP_REFUSE_CLUSTER, d, k / (64 * 1024) % 32), (.ARY_BP_REFUSE_BP, d, k % 64),
        (.ARY_BP_REFUSE_SLOT, d, k / 64 % 1024), (.ARY_BP_REFUSE_REASON, d, n), (.ARY_BP_REFUSE_VALID, d, 1)]
    | none => s
  let s := match o.routeRefusal i d with
    | some (k, n) =>
      if s.b .XBR_ROUTE_REFUSE0_VALID d then s
      else
        let (level, region, slot, field) :=
          if k < 2 ^ 40 then (2, 0, k / 4096, k % 4096)
          else if k < 2 ^ 44 then (1, (k - 2 ^ 40) / (4096 * 1024), (k - 2 ^ 40) / 4096 % 1024, k % 4096)
          else (0, (k - 2 ^ 44) / (64 * 1024 * 32), (k - 2 ^ 44) / 64 % 1024, (k - 2 ^ 44) / (64 * 1024) % 32 * 64 + k % 64)
        s.ps [(.XBR_ROUTE_REFUSE0_SLOT, d, slot), (.XBR_ROUTE_REFUSE0_FIELD, d, field), (.XBR_ROUTE_REFUSE0_REGION, d, region),
          (.XBR_ROUTE_REFUSE0_LEVEL, d, level), (.XBR_ROUTE_REFUSE0_VALID, d, 1), (.XBR_ROUTE_REFUSE1, d, n)]
    | none => s
  let s := match o.wordRefusal i d with
    | some (u, a, n) => if s.b .WU_REFUSE_VALID d then s else
      s.ps [(.WU_REFUSE_REGION, d, u / 32 % 64), (.WU_REFUSE_CLUSTER, d, u % 32), (.WU_REFUSE_WADDR, d, a), (.WU_REFUSE_REASON, d, n),
        (.WU_REFUSE_VALID, d, 1)]
    | none => s
  match o.descRefusal i d with
  | some (k, n) => if s.b .QUE_REFUSE_VALID d then s else
    s.ps [(.QUE_REFUSE_REGION, d, k / 512 % 64), (.QUE_REFUSE_PORT, d, k / 64 % 8), (.QUE_REFUSE_DESC, d, k % 64),
      (.QUE_REFUSE_REASON, d, n), (.QUE_REFUSE_VALID, d, 1)]
  | none => s

/-- The schedule content of instance `i` on die `d` passes every check. -/
def Pkg.passes (s : Pkg) (i d : Nat) : Bool :=
  (s.bpRefusal i d).isNone && (s.routeRefusal i d).isNone && (s.wordRefusal i d).isNone && (s.descRefusal i d).isNone

/-- Every bridge whose lines instance `i` needs is aligned (R79). -/
def Pkg.bridgesAligned (s : Pkg) (i : Nat) : Bool :=
  (List.range s.part.model.dies).all fun d => (List.range 32).all fun n =>
    s.brgOwner d (n / 8) (n % 8) != some i || bit (s.g .XBR_BRG_STAT_ALIGNED d) (n / 8)

end Sys2Proof.Machine
end

