-- ==== Sys2Proof/Machine/LoadWrite.lean ====
section
/-!
DEFINITION. What a record's content becomes in the part: frames with their virtual numbers rewritten (R169, R187, R188, Table 101),
Series 1 conversion (R175-R177), and caves, queue entries, slice bytes, edges and global lines (Table 99).
-/
namespace Sys2Proof.Machine

/-! ## Series 1 (R175-R177) -/

/-- Converted data-store address. -/
def s1Addr (x : Nat) : Nat := if x < 512 then x else x + 512

/-- A Series 1 BP word in the format of Table 24 (Table 93). -/
def s1BP (w : Nat) : Nat :=
  let a := s1Addr (bits w 30 10) * 2 ^ 37
  let b := s1Addr (bits w 20 10) * 2 ^ 26
  let tt := bits w 40 8 * 2 ^ 48
  let c := bits w 10 10
  match bits w 0 3 with
  | 0 => 0
  | 1 => tt + a + b + s1Addr c * 2 ^ 15 + 1
  | 2 =>
    let d := if c < 64 then c else if c / 256 = 1 ∧ c % 256 < 16 then 256 + c % 16 else 0x7FF
    tt + a + b + d * 16 + 2
  | 3 => a + 5
  | 4 =>
    if bit w 47 then 2 ^ 63 + bits w 35 12 * 2 ^ 48 + bits w 29 6 * 2 ^ 42 + 6
    else bits w 44 3 * 2 ^ 60 + bits w 38 6 * 2 ^ 54 + bits w 32 6 * 2 ^ 48 + 6
  | 5 => bits w 44 3 * 2 ^ 60 + bits w 38 6 * 2 ^ 54 + bits w 32 6 * 2 ^ 48 + 7
  | _ => 15

/-- A Series 1 word instruction in the format of Tables 49 and 51 (Table 94). -/
def s1Word (w : Nat) : Nat :=
  let opc := bits w 42 6
  let opc' := if 0x2A ≤ opc ∧ opc ≤ 0x2F then 0x3F else opc
  if opc = 1 ∨ opc = 0x18 then w % 2 ^ 48
  else opc' * 2 ^ 42 + bits w 37 5 * 2 ^ 36 + bits w 32 5 * 2 ^ 30 + bits w 27 5 * 2 ^ 24 + bits w 25 2 * 2 ^ 22 + bits w 19 6 * 2 ^ 16 +
    bits w 0 16

/-- It has a must-be-0 bit of its own format set. -/
def s1Odd (w : Nat) : Bool :=
  let opc := bits w 42 6
  if opc = 1 then false else if opc = 0x18 then bits w 16 8 != 0 else bits w 16 3 != 0

/-- A Series 1 die field position, and its field with the source renumbered (R177). -/
def s1DiePos (pos : Nat) : Nat := if pos < posTHR then pos else pos + 256
@[inherit_doc s1DiePos] def s1DieField (f : Nat) : Nat :=
  let src := bits f 0 13
  if !bit f 15 then f
  else if 0xC00 ≤ src ∧ src < 0xD00 then f + 0x100
  else if 0xD00 ≤ src ∧ src < 0x1000 then f - src + 0x1FFF
  else f

/-! ## Frame addresses (R188) -/

/-- Physical frame of a virtual one of instance `i`; none where the address names nothing the image may write. -/
def Pkg.frameTarget (s : Pkg) (i a : Nat) (compat : Bool) : Option FAddr :=
  match faddr a with
  | none => none
  | some f =>
    if f.cls.limit (s.depth i) compat ≤ f.frame then none
    else match f.cls with
      | .drr => (s.physDie i f.die).map fun d => { f with die := d }
      | .rrr | .dsc => (s.physRegion i f.die f.region).map fun p => { f with die := p / 64, region := p % 64 }
      | _ =>
        match s.physRegion i f.die f.region, s.physCluster i f.die f.region f.cluster with
        | some p, some c => some { f with die := p / 64, region := p % 64, cluster := c }
        | _, _ => none

/-! ## Route records -/

/-- Fields of a region-record frame: slot, position, field. -/
def regFieldsOf (frame c : Nat) : List (Nat × Nat × Nat) :=
  (List.range 512).filterMap fun n =>
    let o := 512 * frame + n
    let off := o % 4800
    if off < 4160 then (if off % 2 = 0 then some (o / 4800, off / 2, bits c (8 * n) 16) else none)
    else some (o / 4800, regPosOf off, bits c (8 * n) 8)

/-- Fields of a die-record frame in the native numbering: slot, position, field. -/
def dieFieldsOf (compat : Bool) (frame c : Nat) : List (Nat × Nat × Nat) :=
  (List.range 256).map fun n =>
    let o := 512 * frame + 2 * n
    let b := dieRecBytes compat
    let f := bits c (16 * n) 16
    if compat then (o / b, s1DiePos (o % b / 2), s1DieField f) else (o / b, o % b / 2, f)

/-- Where a region field goes: physical position (none: an unused virtual cluster) and rewritten field (none: it selects one). -/
def Pkg.regRewrite (s : Pkg) (i v r pos f : Nat) : Option Nat × Option Nat :=
  let cl := s.physCluster i v r
  let dest :=
    if pos < posDEG then (cl (pos / 64)).map fun c => c * 64 + pos % 64
    else if pos < posEXS then some pos
    else if pos < posPGS then (cl ((pos - posEXS) / 16)).map fun c => posEXS + c * 16 + (pos - posEXS) % 16
    else if pos < posPGS + 64 then some pos
    else (cl ((pos - posPGS - 64) / 2)).map fun c => posPGS + 64 + c * 2 + (pos - posPGS) % 2
  let src := bits f 0 11
  let fld :=
    if pos < posEXS ∧ bit f 15 ∧ src < 0x400 then
      (cl (src / 16 % 32)).map fun c => f - src + (src / 512 * 512 + c * 16 + src % 16)
    else if posPGS ≤ pos ∧ bit f 7 then (cl (f % 32)).map fun c => f - f % 32 + c
    else some f
  (dest, fld)

/-- Put one region field of slot `t` on package region `p` (R90, R169). A field refused for the cluster its source names is reported at its
physical position, one refused for the cluster of its destination, which has none, at its virtual one (DESIGN CHOICE: R90 does not say). -/
def Pkg.regPut (s : Pkg) (i v r p t pos f : Nat) : Pkg :=
  let vk := recKey p t pos
  let s := { s with load.oddReg := s.load.oddReg.filter fun e => e.1 != vk }
  match s.regRewrite i v r pos f with
  | (some pos', some f') => { s with fab.regRec := s.fab.regRec.put (recKey p t pos') f' }
  | (dest, _) =>
    if f = 0 then s
    else
      let reason := if regStatic pos f = 0 then 5 else regStatic pos f
      let s := match dest with
        | some pos' => { s with fab.regRec := s.fab.regRec.put (recKey p t pos') 0 }
        | none => s
      { s with load.oddReg := s.load.oddReg ++ [(vk, recKey p t (dest.getD pos), reason)] }

/-- The virtual die on side `k` of virtual die `v` of a grid of `cols` columns and `n` dies. -/
def vNeighbour (cols n v k : Nat) : Option Nat :=
  match k with
  | 0 => if cols ≤ v then some (v - cols) else none
  | 1 => if v % cols + 1 < cols then some (v + 1) else none
  | 2 => if v + cols < n then some (v + cols) else none
  | _ => if v % cols = 0 then none else some (v - 1)

/-- Physical side of the virtual side `k` of virtual die `v` of instance `i` (R84): none, no virtual neighbour; `some none`, the
neighbour is not across a physical bridge. -/
def Pkg.sideOf (s : Pkg) (i v k : Nat) : Option (Option Nat) :=
  let x := (s.inst i).desc
  (vNeighbour x.vcols x.dies.length v k).map fun w =>
    (List.range 4).find? fun k' => s.part.model.neighbour (x.dies.getD v 0) k' == x.dies[w]? && (x.dies[w]?).isSome

/-- Where a die field goes: position and field as for `regRewrite`; 4 in the third place marks a side that faces no virtual neighbour
(reason 6), 9 a route that follows no physical bridge (a mapping error). -/
def Pkg.dieRewrite (s : Pkg) (i v pos f : Nat) : Option Nat × Option Nat × Nat :=
  let side := fun (k : Nat) => s.sideOf i v k
  let mark := fun (x : Option (Option Nat)) => match x with | none => 4 | some none => 9 | _ => 0
  let (dest, m1) :=
    if pos < posBLN then ((s.physRegion i v (pos / 32)).map fun p => p % 64 * 32 + pos % 32, 0)
    else if pos < posTHR then
      let x := side ((pos - posBLN) / 256)
      (x.join.map fun k => posBLN + k * 256 + pos % 256, if bit f 15 then mark x else 0)
    else (some pos, 0)
  let src := bits f 0 13
  let (fld, m2) :=
    if bit f 15 ∧ src < 0x800 then ((s.physRegion i v (src / 32)).map fun p => f - src + (p % 64 * 32 + src % 32), 0)
    else if bit f 15 ∧ src < 0xC00 then
      let x := side ((src - 0x800) / 256)
      (x.join.map fun k => f - src + (0x800 + k * 256 + src % 256), mark x)
    else (some f, 0)
  (dest, fld, max m1 m2)

/-- An enabled field claims the bridge or through block of its destination for instance `i` when nobody owns it (R83). -/
def Pkg.claimBlock (s : Pkg) (i d pos : Nat) : Pkg :=
  if posBLN ≤ pos ∧ pos < posTHR then
    let k := (pos - posBLN) / 256
    let j := pos % 256 / 32
    if (s.brgOwner d k j).isNone ∧ (s.part.model.neighbour d k).isSome then
      (s.p .XBR_OWN_BRG ((d * 4 + k) * 8 + j) i).pbit .XBR_OWN_VALID (d * 4 + k) j true
    else s
  else if posTHR ≤ pos ∧ pos < posPTX then
    let j := (pos - posTHR) / 32
    if (s.thrOwner d j).isNone then (s.p .XBR_OWN_THR (d * 8 + j) i).pbit .XBR_OWN_VALID_THR d j true else s
  else s

/-- Put one die field of slot `t` on physical die `d` (R90, R169). A patch claims no block. -/
def Pkg.diePut (s : Pkg) (i v d : Nat) (patch : Bool) (t pos f : Nat) : Pkg :=
  let vk := recKey (i * 8 + d) t pos
  let s := { s with load.oddDie := s.load.oddDie.filter fun e => e.1 != vk }
  let (dest, fld, m) := s.dieRewrite i v pos f
  let reason := match dieStatic pos f with
    | 2 => 2
    | 3 => 3
    | n => if m = 4 then 6 else if n = 4 then 4 else 5
  let odd := fun (s : Pkg) (k : Nat) => { s with load.oddDie := s.load.oddDie ++ [(vk, recKey d t k, reason)] }
  match dest with
  | none => if f = 0 then s else odd s pos
  | some pos' =>
    let s := if bit f 15 && !patch then s.claimBlock i d pos' else s
    if s.dieDest i d pos' then
      match fld with
      | some f' => { s with fab.dieRec := s.fab.dieRec.put (recKey d t pos') f' }
      | none => odd { s with fab.dieRec := s.fab.dieRec.put (recKey d t pos') 0 } pos'
    else if f = 0 then s
    else odd s pos'

/-! ## Words, initial values, descriptors -/

/-- Replace `n` bits at `lo`. -/
def putBits (old lo n v : Nat) : Nat := old - bits old lo n * 2 ^ lo + v % 2 ^ n * 2 ^ lo

/-- Put the part of word `a` of unit `u` that lies in frame `f` of its store. -/
def Pkg.wstPut (s : Pkg) (u f c a : Nat) : Pkg :=
  let lo := max (48 * a) (4096 * f)
  let hi := min (48 * a + 48) (4096 * f + 4096)
  let k := u * 1024 + a
  { s with fab.wstore := s.fab.wstore.put k (putBits (s.fab.wstore.at k) (lo - 48 * a) (hi - lo) (bits c (lo - 4096 * f) (hi - lo)))
           load.oddWord := s.load.oddWord.filter (· != k) }

/-- Word frame in a Series 1 section: 64 containers. -/
def Pkg.wstPut1 (s : Pkg) (u f c n : Nat) : Pkg :=
  let w := bits c (64 * n) 48
  let k := u * 1024 + 64 * f + n
  let l := s.load.oddWord.filter (· != k)
  { s with fab.wstore := s.fab.wstore.put k (s1Word w), load.oddWord := if s1Odd w then l ++ [k] else l }

/-- Put descriptor `n` of port key `k` (region*8 + port) with its clusters rewritten (R147, R169). -/
def Pkg.descPut (s : Pkg) (i v r k n w0 w1 : Nat) : Pkg :=
  let cl := s.physCluster i v r
  let one := fun (en : Bool) (lo : Nat) (w : Option Nat) => w.bind fun w =>
    if en then (cl (bits w lo 5)).map fun c => putBits w lo 5 c else some w
  let a := one (bit w0 45) 46 (one (bit w0 39) 40 (some w0))
  let b := [0, 5, 10, 15].foldl (fun w lo => one (bit w1 20) lo w) (some w1)
  let x := k * 64 + n
  let l := s.load.oddDesc.filter (· != x)
  let (v0, v1, l) := match a, b with
    | some a, some b => (a, b, l)
    | _, _ => (w0, w1, l ++ [x])
  { s with que.desc := (s.que.desc.put (2 * x) v0).put (2 * x + 1) v1, load.oddDesc := l }

/-- Numbers of the bits of `c` below `n` that are 1. -/
def setBits (n c : Nat) : List Nat := (List.range n).filter (bit c)

/-- Data-store addresses a converted image never names (R175). -/
def s1Hole (x : Nat) : Bool := (decide (512 ≤ x) && decide (x < 1024)) || decide (1536 ≤ x)

/-- Failure code of a frame's content before it is written: 7 for a bit that must be 0, 9 for a route that follows no bridge. -/
def Pkg.frameFault (s : Pkg) (i a c : Nat) (compat : Bool) : Nat :=
  match faddr a with
  | none => 7
  | some f =>
    match f.cls with
    | .itr | .wst => if compat && (List.range 64).any fun n => bits c (64 * n + 48) 16 != 0 then 7 else 0
    | .ivw => if f.frame = 4 ∧ c / 2 ^ 704 ≠ 0 then 7 else 0
    | .drr =>
      if (dieFieldsOf compat f.frame c).any fun e => decide (e.1 < s.depth i) && (s.dieRewrite i f.die e.2.1 e.2.2).2.2 == 9 then 9 else 0
    | _ => 0

/-- A LEN of 0 in an initial-value frame is an unset one (R92). -/
def fixLen (l : List Nat) : List Nat := l.map fun n => if n = 0 then 1024 else n

/-- Write the virtual frame `a` with content `c` to its physical frame `t`. A LEN above 1,024 or an IDX at or above LEN in an IVW frame is taken as
it stands (DESIGN CHOICE: R92 names no check of it). -/
def Pkg.frameWrite (s : Pkg) (i a c : Nat) (t : FAddr) (compat patch : Bool) : Pkg :=
  match faddr a with
  | none => s
  | some f =>
    let d := s.depth i
    match t.cls with
    | .itr => s.each ((List.range 64).filter fun n => 64 * t.frame + n < d) fun s n =>
        let w := if compat then s1BP (bits c (64 * n) 48) else bits c (64 * n) 64
        { s with fab.instr := s.fab.instr.put (slotKey t.reg (64 * t.frame + n) + t.cluster * 64 + t.bp) w }
    | .rtf => s.each ((List.range 512).filter fun n => 8 * t.frame + n / 64 < d) fun s n =>
        { s with fab.route := s.fab.route.put (slotKey t.reg (8 * t.frame + n / 64) + t.cluster * 64 + n % 64) (bits c (8 * n) 8) }
    | .rrr => s.each ((regFieldsOf f.frame c).filter fun e => e.1 < d) fun s e => s.regPut i f.die f.region t.reg e.1 e.2.1 e.2.2
    | .drr => s.each ((dieFieldsOf compat f.frame c).filter fun e => e.1 < d) fun s e => s.diePut i f.die t.die patch e.1 e.2.1 e.2.2
    | .wst =>
      if compat then s.each (List.range 64) fun s n => s.wstPut1 t.unit t.frame c n
      else s.each ((List.range 1024).filter fun n => 48 * n < 4096 * t.frame + 4096 ∧ 4096 * t.frame < 48 * n + 48) fun s n =>
        s.wstPut t.unit t.frame c n
    | .ivd =>
      let b0 := t.unit * 64 + 2 * t.frame
      let l := (setBits 4096 c).filterMap fun n => if compat && s1Hole (n % 2048) then none else some (b0 * 2048 + n, 1)
      { s with fab.dataInit := Store.setAll 0 (s.fab.dataInit.drop fun k => k / 4096 == b0 / 2) l }
    | .ivw =>
      let u : WordUnit := Store.get {} s.fab.wuInit t.unit
      let u := if t.frame < 4 then
          { u with mem := (List.range 256).foldl (fun m n => m.put (256 * t.frame + n) (bits c (16 * n) 16)) u.mem }
        else
          let u := (List.range 22).foldl (fun u n => wuWrite u (0x800 + 4 * n) (bits c (32 * n) 32)) u
          { u with len := fixLen u.len }
      { s with fab.wuInit := Store.set {} s.fab.wuInit t.unit u }
    | .dsc => s.each (List.range 32) fun s n =>
        s.descPut i f.die f.region (t.reg * 8 + t.port) (32 * t.frame + n) (bits c (128 * n) 64) (bits c (128 * n + 64) 64)

/-! ## Other content -/

/-- Bank and region that a CAVE or PORTCFG record names: the package bank (R184). -/
def Pkg.bankTarget (s : Pkg) (i v r b : Nat) : Option Nat :=
  match s.physRegion i v r with
  | some p => if b < 16 ∧ bit (s.g .ARY_VMAP_BANK (vkey i v r)) b then some (p * 16 + b) else none
  | none => none

/-- Words of a CAVE record: the copy in the reserved area, and the bank itself. -/
def Pkg.cavePut (s : Pkg) (b first : Nat) (words : List Nat) : Pkg :=
  s.each words.zipIdx fun s (w, n) =>
    let k := b * 16384 + first + n
    { s with cav.init := s.cav.init.put k (w % 2 ^ 16), cav.mem := s.cav.mem.put k (w % 2 ^ 16) }

/-- CAV_PORT_CFG of a PORTCFG record. -/
def Pkg.portCfgPut (s : Pkg) (b v : Nat) : Pkg :=
  s.ps [(.CAV_PORT_CFG_WIDTH_A, b, bits v 0 3), (.CAV_PORT_CFG_BUSY15_A, b, bits v 3 1), (.CAV_PORT_CFG_WIDTH_B, b, bits v 4 3),
    (.CAV_PORT_CFG_BUSY15_B, b, bits v 7 1)]

/-- A queue entry loads DONE with its word (R146). -/
def Pkg.qentryPut (s : Pkg) (k e w : Nat) : Pkg :=
  ({ s with que.init := s.que.init.put (k * 64 + e) (w % 2 ^ 64 + 2 ^ 64) }.setQport k ((s.qport k).doneWith e (w % 2 ^ 64)))

/-- A QENTRY of a patch first supersedes what the entry holds (R204). -/
def Pkg.qentryPatch (s : Pkg) (k e w : Nat) : Pkg := (s.supersede k e).qentryPut k e w

/-- A GDL word that names a placed source, rewritten; none where a NET source has no place. -/
def Pkg.gdlPut (s : Pkg) (i g w : Nat) : Option Pkg :=
  let mode := bits w 0 2
  let v := bits w 2 3
  let r := bits w 5 6
  match s.physRegion i v r, s.physCluster i v r (bits w 11 5) with
  | some p, some c =>
    if 2 ≤ mode ∧ s.depth i ≤ bits w 22 10 then none
    else some (s.ps [(.XBR_GDL_CFG_MODE, i * 16 + g, mode), (.XBR_GDL_CFG_DIE, i * 16 + g, p / 64), (.XBR_GDL_CFG_REGION, i * 16 + g, p % 64),
      (.XBR_GDL_CFG_CLUSTER, i * 16 + g, c), (.XBR_GDL_CFG_BP, i * 16 + g, bits w 16 6), (.XBR_GDL_CFG_ADDR, i * 16 + g, bits w 22 10)])
  | _, _ => if 2 ≤ mode then none else some (s.clearFlds gdlFields (only (i * 16 + g)) |>.p .XBR_GDL_CFG_MODE (i * 16 + g) mode)

end Sys2Proof.Machine
end

