-- ==== Sys2Proof/Machine/Regs.lean ====
section
/-!
DEFINITION. Finding a register in the map and reading or setting its fields as one word (R317, R324).
-/
namespace Sys2Proof.Machine

/-- Index of an offset within a register's repeats, and what is left of it. -/
def dimIndex : List (Nat × Nat) → Nat → Nat → Option (Nat × Nat)
  | [], idx, rem => some (idx, rem)
  | (st, n) :: l, idx, rem => if rem / st < n then dimIndex l (idx * n + rem / st) (rem % st) else none

/-- Index of the register instance at slot offset `o`, and whether `o` is the high half of a pair. `start` is the die, for a register that every
die has. -/
def RegSpec.at (r : RegSpec) (o : Nat) (start : Nat := 0) : Option (Nat × Bool) :=
  if o < r.off then none
  else match dimIndex r.dims start (o - r.off) with
    | some (i, 0) => some (i, false)
    | some (i, 4) => if r.wide then some (i, true) else none
    | _ => none

/-- The register of a list at slot offset `o` of a slot kind. -/
def findReg (l : List RegSpec) (p : Slot → Bool) (o : Nat) (start : Nat := 0) : Option (RegSpec × Nat × Bool) :=
  l.findSome? fun r => if p r.slot then (r.at o start).map fun x => (r, x.1, x.2) else none

/-- Index of a field of register instance `idx`. -/
def FieldSpec.index (f : FieldSpec) (idx : Nat) : Nat := idx * f.n + f.sub

/-- Set every field of register instance `idx` that holds a value, from a whole word, whatever its access type. -/
def Pkg.setReg (s : Pkg) (r : RegSpec) (idx v : Nat) : Pkg :=
  s.each r.fields fun s f => match f.fld with
    | some x => s.p x (f.index idx) (bits v f.lo (f.hi - f.lo + 1))
    | none => s

/-- A bit of word `v` that no field of the register covers is set. -/
def RegSpec.keepSet (r : RegSpec) (v : Nat) : Bool :=
  (List.range 32).any fun b => bit v b && !(r.fields.any fun f => decide (f.lo ≤ b) && decide (b ≤ f.hi))

end Sys2Proof.Machine
end

