-- ==== Sys2Proof/Machine/LoadTrace.lean ====
section
/-!
DEFINITION. The configuration records of boundary I/O, links and trace (R230, R284, R286-R289, R310), and the trace resources a load takes
(R294). A record answers its failure code (Table 103) or the new state.
-/
namespace Sys2Proof.Machine

/-! ## IOCFG and LINKCFG -/

/-- An IOC_CELL_CFG word that R220 and R230 accept. -/
def cellCfgOk (w : Nat) : Bool :=
  decide (w < 4096) && decide (bits w 0 3 ≤ 5) && !(bit w 7 && bits w 8 2 != 0) && bits w 8 2 != 3

/-- Fields of one IOC_CELL_CFG word. -/
def Pkg.cellCfg (s : Pkg) (c w : Nat) : Pkg :=
  s.ps [(.IOC_CELL_CFG_MODE, c, bits w 0 3), (.IOC_CELL_CFG_SLEW, c, bits w 3 2), (.IOC_CELL_CFG_DRIVE, c, bits w 5 2),
    (.IOC_CELL_CFG_KEEPER, c, bits w 7 1), (.IOC_CELL_CFG_PULL, c, bits w 8 2), (.IOC_CELL_CFG_INIT, c, bits w 10 1),
    (.IOC_CELL_CFG_INIT_EN, c, bits w 11 1)]

/-- An IOCFG record for bank `k` of die `d` (R230). -/
def Pkg.iocfg (s : Pkg) (i d k vio rsv : Nat) (cells : List Nat) : Nat ⊕ Pkg :=
  let b := d * 4 + k
  if rsv ≠ 0 ∨ 8 ≤ d ∨ 4 ≤ k ∨ s.bankOwner b ≠ some i ∨ vio = 0 ∨ 6 ≤ vio ∨ cells.length ≠ 32 ∨ !cells.all cellCfgOk then .inl 7
  else .inr (((s.p .IOC_BANK_CFG_VIO b vio).p .IOC_BANK_STAT_VOK b 0).each cells.zipIdx fun s e => s.cellCfg (b * 32 + e.2) e.1)

/-- A LINKCFG record for package port `q` (R284). -/
def Pkg.linkcfg (s : Pkg) (i q mode roles pkg port rsv : Nat) : Nat ⊕ Pkg :=
  let up := bit roles 1
  let other := s.ports.any fun e => e.1 != q && e.2.ctlUp
  if rsv ≠ 0 ∨ 32 ≤ q ∨ s.portOwner q ≠ some i ∨ 8 ≤ roles ∨ 4 ≤ mode ∨ s.strapped q ≠ (mode == 3) ∨ 64 ≤ pkg ∨ 32 ≤ port ∨
      (up && (s.isMaster || other)) then .inl 7
  else
    let s := s.updPort q fun x => { x with cfgd := true, sched := bit roles 0, ctlUp := up, ctlDown := bit roles 2, peerPkg := pkg, peerPort := port }
    let s := s.p .LNK_PORT_STAT_MODE q mode
    .inr (if up then s.ps [(.LNK_CAS_STAT_UP_PORT, 0, q), (.LNK_CAS_STAT_UP_VALID, 0, 1)] else s)

/-! ## TRACECFG (R310, Table 151) -/

/-- The instance owns a region or an I/O bank on die `d`: its Whey engine would be the instance's (R286). -/
def Pkg.wheyDie (s : Pkg) (i d : Nat) : Bool :=
  (s.regionsOn i d != []) || (List.range 4).any fun k => s.bankOwner (d * 4 + k) == some i

/-- A probe slot word whose must-be-0 bits are 0 and whose register exists (Table 145). -/
def slotOk (w : Nat) : Bool :=
  bits w 17 13 == 0 && (!bit w 30 || (bits w 9 8 == 0 && decide (bits w 4 5 ≤ 16)))

/-- PROBES: the slots of one virtual region. -/
def Pkg.tracePROBES (s : Pkg) (i v r : Nat) (slots : List Nat) : Nat ⊕ Pkg :=
  match s.physRegion i v r with
  | none => .inl 7
  | some p =>
    let bad := slots.zipIdx.any fun (w, n) => !slotOk w || (bit w 31 && (s.physCluster i v r (n / 32)).isNone)
    if bad then .inl 7
    else .inr (s.each slots.zipIdx fun s (w, n) =>
      match s.physCluster i v r (n / 32) with
      | some c => { s with trc.probe := s.trc.probe.put ((p * 32 + c) * 32 + n % 32) w }
      | none => s)

/-- CAPTURE: what is captured and how. -/
def Pkg.traceCAPTURE (s : Pkg) (post cfg : Nat) : Nat ⊕ Pkg :=
  if 2 ^ 19 ≤ cfg then .inl 7
  else .inr (s.ps [(.WHY_POST, 0, post), (.WHY_CAP_CFG_SYNC_PERIOD, 0, bits cfg 0 17), (.WHY_CAP_CFG_DONE_FRZ, 0, bits cfg 17 1),
    (.WHY_CAP_CFG_ARM_ON_START, 0, bits cfg 18 1)])

/-- SINK: the sink of one virtual die. -/
def Pkg.traceSINK (s : Pkg) (i v cfg : Nat) : Nat ⊕ Pkg :=
  match s.physDie i v with
  | none => .inl 7
  | some d =>
    let sink := bits cfg 0 2
    let port := bits cfg 4 5
    if bits cfg 9 7 ≠ 0 ∨ bit cfg 31 ∨ sink = 3 ∨ bits cfg 2 2 = 3 ∨ 144 < bits cfg 16 8 ∨ 64 < bits cfg 24 7 ∨ !s.wheyDie i d ∨
        (sink ≠ 0 ∧ s.portOwner port ≠ some i) then .inl 7
    else .inr (s.ps [(.WHY_SINK_CFG_SINK, d, sink), (.WHY_SINK_CFG_RING_MODE, d, bits cfg 2 2), (.WHY_SINK_CFG_PORT, d, port),
      (.WHY_SINK_CFG_RING_SEGS, d, bits cfg 16 8), (.WHY_SINK_CFG_STAGE_BANKS, d, bits cfg 24 7)])

/-- PINS: the pin slots of one physical die. -/
def Pkg.tracePINS (s : Pkg) (i d : Nat) (l : List Nat) : Nat ⊕ Pkg :=
  if !(l.all fun n => n < 16) ∨ !s.wheyDie i d then .inl 7
  else .inr { s with trc.pin := l.zipIdx.foldl (fun m e =>
    (m.put ((d * 128 + e.2) * 2) (e.1 % 4)).put ((d * 128 + e.2) * 2 + 1) (e.1 / 4)) s.trc.pin }

/-- A comparator of the image is in the range of R300: on a cluster probe its virtual die holds a region of the instance, on a pin probe its
physical die has a Whey engine that the instance takes. -/
def Pkg.cmpOk (s : Pkg) (i w : Nat) : Bool :=
  let pos := bits w 0 17
  let die := bits w 17 3
  let range := if bit w 20 then pos % 16 == 0 && decide (pos ≤ 65776) else decide (pos < 65792)
  let place := if pos < 65536 then (s.physDie i die).any fun d => s.regionsOn i d != [] else s.wheyDie i die
  range && place

/-- DIE and BITPOS of a comparator on a cluster probe become physical. DESIGN CHOICE: where the image does not use the virtual region or cluster,
DIE alone is rewritten. -/
def Pkg.cmpRewrite (s : Pkg) (i w : Nat) : Nat :=
  let pos := bits w 0 17
  if 65536 ≤ pos then w
  else
    let top := w - w % 2 ^ 20 + (s.physDie i (bits w 17 3)).getD 0 * 2 ^ 17
    match s.physRegion i (bits w 17 3) (pos / 1024), s.physCluster i (bits w 17 3) (pos / 1024) (pos / 32 % 32) with
    | some p, some c => top + ((p % 64 * 32 + c) * 32 + pos % 32)
    | _, _ => top + pos

/-- RENNET: the image of registers 0x000 to 0xE07, as 898 words. -/
def Pkg.traceRENNET (s : Pkg) (i : Nat) (words : List Nat) : Nat ⊕ Pkg :=
  let cmps := (List.range 64).map fun c => words.getD (4 * c) 0
  let keep := words.zipIdx.any fun (w, n) => match findReg regsRNT (fun _ => true) (4 * n) with
    | some (r, _, hi) => if r.wide then hi && decide (2 ^ 16 ≤ w) else r.keepSet w
    | none => w != 0
  if keep ∨ !cmps.all (s.cmpOk i) then .inl 7
  else
    let o := s
    .inr (s.each words.zipIdx fun s (w, n) =>
      match findReg regsRNT (fun _ => true) (4 * n) with
      | some (r, idx, false) =>
        if r.fields.any fun f => f.acc == .RWB then
          let w := if r.reg = .RNT_CMP_SRC then o.cmpRewrite i w else if r.wide then w + 2 ^ 32 * words.getD (n + 1) 0 else w
          s.setReg r idx w
        else s
      | _ => s)

/-- A record by its KIND, with the length and the ADDR bits Table 151 gives it; the kinds 5 to 15 are none. -/
def Pkg.traceKind (s : Pkg) (i addr : Nat) (words : List Nat) : Nat ⊕ Pkg :=
  let v := bits addr 4 3
  let w := fun n => words.getD n 0
  match addr % 16 with
  | 0 => if 2 ^ 4 ≤ addr ∨ words.length ≠ 4 ∨ w 2 ≠ 0 ∨ w 3 ≠ 0 then .inl 7 else s.traceCAPTURE (w 0) (w 1)
  | 1 => if 2 ^ 13 ≤ addr ∨ words.length ≠ 1024 then .inl 7 else s.tracePROBES i v (bits addr 7 6) words
  | 2 => if 2 ^ 7 ≤ addr ∨ words.length ≠ 4 ∨ w 1 ≠ 0 ∨ w 2 ≠ 0 ∨ w 3 ≠ 0 then .inl 7 else s.traceSINK i v (w 0)
  | 3 => if 2 ^ 7 ≤ addr ∨ words.length ≠ 32 then .inl 7 else s.tracePINS i v (words.flatMap fun x => leVals x 4)
  | 4 => if 2 ^ 4 ≤ addr ∨ words.length ≠ 898 then .inl 7 else s.traceRENNET i words
  | _ => .inl 7

/-- A TRACECFG record of instance `i`: RESOURCE when another instance is or will be traced (R286). -/
def Pkg.tracecfg (s : Pkg) (i addr : Nat) (words : List Nat) : Nat ⊕ Pkg :=
  let other := s.traced.isSome || s.load.secs.any fun x => x.traced && x.inst != i
  if other then .inl 10
  else
    match s.traceKind i addr words with
    | .inl c => .inl c
    | .inr s => .inr ((s.updInst i fun x => { x with desc := { x.desc with traced := true } }) |> fun s =>
        { s with load.secs := s.load.secs.map fun x => if x.inst = i then { x with traced := true } else x })

/-- A pin selection that the mode of its cell permits (R288). -/
def pinAllowed (mode sel : Nat) : Bool :=
  match sel with
  | 0 => true
  | 1 => mode == 1 || mode == 2 || mode == 4 || mode == 5
  | 2 => mode == 2 || mode == 3 || mode == 4 || mode == 5
  | _ => mode == 3 || mode == 4

/-- Every pin slot of the trace configuration selects what its cell offers. -/
def Pkg.pinsOk (s : Pkg) (i : Nat) : Bool :=
  s.trc.pin.all fun e => s.cellOwned i (e.1 / 2) && pinAllowed (s.g .IOC_CELL_CFG_MODE (e.1 / 2)) e.2

/-- Segments for the ring of die `d`: those of its own stack first (R294). -/
def Pkg.ringFree (s : Pkg) (d : Nat) : List Nat :=
  let j := s.part.model.stackOf d
  s.freeSegs j ++ ((List.range s.part.model.stacks).filter (· != j)).flatMap s.freeSegs

/-- Banks of the instance's regions on die `d` that its image does not use and the firmware holds. -/
def Pkg.stageFree (s : Pkg) (i d : Nat) : List Nat :=
  ((s.regionsOn i d).flatMap fun r => ((List.range 16).filter fun b => !s.bankNamed i r b).map fun b => r * 16 + b).filter fun b =>
    s.bankOwn b == .firmware && bit (s.g .CAV_AVAIL (b / 16)) (b % 16)

/-- The ring segments and staging banks of one die. -/
def Pkg.traceTake (s : Pkg) (i d : Nat) : Option Pkg :=
  let n := s.g .WHY_SINK_CFG_RING_SEGS d
  let m := s.g .WHY_SINK_CFG_STAGE_BANKS d
  let segs := (s.ringFree d).take n
  let banks := (s.stageFree i d).take m
  if segs.length < n ∨ banks.length < m then none
  else
    let s := s.each segs.zipIdx fun s (k, x) => (s.segOwnSet k 2 0).ps [(.WHY_RING_SEG_SEGMENT, d * 144 + x, k % 144),
      (.WHY_RING_SEG_STACK, d * 144 + x, k / 144), (.WHY_RING_SEG_VALID, d * 144 + x, 1)]
    some (s.each banks fun s b => s.setBankOwn b 2 0)

/-- Dies whose Whey engine instance `i` takes. -/
def Pkg.wheyTaken (s : Pkg) (i : Nat) : List Nat := (List.range s.part.model.dies).filter fun d => s.wheyDie i d

/-- What the traced section needs is taken: code 7 for a pin slot its cell does not offer, 10 for a shortage. -/
def Pkg.traceClaim (s : Pkg) (i : Nat) : Nat ⊕ Pkg :=
  if !s.pinsOk i then .inl 7
  else (s.wheyTaken i).foldl (fun r d => match r with
    | .inl c => .inl c
    | .inr s => match s.traceTake i d with
      | some s => .inr s
      | none => .inl 10) (.inr s)

/-- The load commits: instance `i` is the traced instance (R286). -/
def Pkg.traceOwn (s : Pkg) (i : Nat) : Pkg :=
  let s := s.each (s.wheyTaken i) fun s d =>
    let n := (s.trc.probe.range (d * 65536) (d * 65536 + 65536)).filter fun e => bit e.2 31
    let m := s.trc.pin.range (d * 256) (d * 256 + 256)
    (s.p .WHY_SINK_CFG_OWNED d 1).p .WHY_PROBE_CNT d (n.length + m.length)
  s.ps [(.WHY_CAP_STAT_OWNED, 0, 1), (.WHY_CAP_STAT_OWNER, 0, i), (.WHY_CAP_STAT_STATE, 0, 0)]

end Sys2Proof.Machine
end

