-- ==== Sys2Proof/Machine/Load.lean ====
section
/-!
DEFINITION. Taking a stream in (R178-R183, R189, R190, R193-R196, R198): acceptance, header, chunks, failure, and the claim of a section.
-/
namespace Sys2Proof.Machine

/-! ## Load status and failure (R193, R196) -/

/-- CFG_LOAD_STAT as one word (Table 105). -/
def Pkg.loadStat (s : Pkg) : Nat :=
  s.g .CFG_LOAD_STAT_PHASE 0 + s.g .CFG_LOAD_STAT_FAIL 0 * 8 + s.g .CFG_LOAD_STAT_PATCH 0 * 128 + s.g .CFG_LOAD_STAT_ERR 0 * 256 +
    s.g .CFG_LOAD_STAT_DONE 0 * 512 + s.g .CFG_LOAD_STAT_PEER_MISSING 0 * 1024 + s.g .CFG_LOAD_STAT_GEN_ADV_PEND 0 * 2048 +
    s.g .CFG_LOAD_STAT_NOT_ADDRESSED 0 * 4096

/-- RESULT of a LOAD (R345): CFG_LOAD_STAT, CFG_FAIL_INFO, CFG_STREAM_ID. -/
def Pkg.loadResult (s : Pkg) : List Nat :=
  leVals s.loadStat 4 ++
    leVals (s.g .CFG_FAIL_INFO_SECTION 0 + s.g .CFG_FAIL_INFO_INST 0 * 256 + s.g .CFG_FAIL_INFO_CHUNK 0 * 4096) 4 ++ leVals (s.g .CFG_STREAM_ID 0) 8

/-- Drive or release CFG_ERR_N. -/
def Pkg.errPin (s : Pkg) (low : Bool) : Pkg := { s with pins.errN := !low }.pb .CFG_LOAD_STAT_ERR 0 low

/-- The load is over: only what outlives it stays. The LOAD command completes. -/
def Pkg.loadEnd (s : Pkg) (status : Status) (why : Reason) : Pkg :=
  let l := s.load
  let s := { s with load := { genPend := l.genPend, oddReg := l.oddReg, oddDie := l.oddDie, oddWord := l.oddWord, oddDesc := l.oddDesc } }
  match l.cmd with
  | none => s
  | some (m, seq) => s.complete m seq status why s.loadResult

/-- An instance that a failed load named and claimed becomes UNLOADED with cause LOAD_FAIL. -/
def Pkg.loadUnload (s : Pkg) (i : Nat) : Pkg := ((s.release i).p .ARY_RUN_STAT_STOP_CAUSE i Cause.loadFail.code).setRun i .unloaded

/-- The load fails with a code of Table 103 at section `sec` of instance `inst` and chunk `chunk`. A patch leaves its instances as they
were (R205). In a cascade the master is told, or tells, over ports that stay until then (R192). -/
def Pkg.loadFail (s : Pkg) (code sec inst chunk : Nat) : Pkg :=
  let multi := match s.load.hdr with
    | some h => decide (1 < h.npkg)
    | none => false
  let s := if !multi then s else if s.isMaster then s.sendDown 0 .abort else if code = 12 ∨ code = 13 then s else s.sendUp 0 (.fail code)
  let s := s.each ((s.load.secs.filter fun x => !x.patch).map (·.inst)) fun s i =>
    (s.each (s.portsOf i) fun s q => s.updPort q fun x => { x with closing := multi }).loadUnload i
  let s := s.ps [(.CFG_LOAD_STAT_FAIL, 0, code), (.CFG_LOAD_STAT_PHASE, 0, 7), (.CFG_FAIL_INFO_SECTION, 0, sec),
    (.CFG_FAIL_INFO_INST, 0, inst), (.CFG_FAIL_INFO_CHUNK, 0, chunk % 2 ^ 20)]
  let s := s.errPin true
  { s.loadEnd .rejected .loadFail with cas.ready := [] }

/-- COUNTER of the own chunk that is being taken in, or was last. -/
def Pkg.chunkNow (s : Pkg) : Nat := s.load.next - 1

/-- Place of instance `i`'s section among the sections of the package, from 0; where it has none, the place it would take. -/
def Pkg.secIdx (s : Pkg) (i : Nat) : Nat := (s.load.secs.findIdx? fun x => x.inst == i).getD s.load.secs.length

/-- The load fails for a reason that concerns the whole stream (a stall, an abort, a peer's failure, a tier error): the last section begun and
the last own chunk taken are named, while a failure of a chunk itself names section 0 and instance 0 (DESIGN CHOICE: where no section or no chunk
failed, R206 does not say what CFG_FAIL_INFO names). -/
def Pkg.streamFail (s : Pkg) (code : Nat) : Pkg :=
  match s.load.secs.getLast? with
  | some x => s.loadFail code (s.load.secs.length - 1) x.inst s.chunkNow
  | none => s.loadFail code 0 0 s.chunkNow

/-- An own chunk that fails the load counts as BAD (R198). -/
def Pkg.chunkBad (s : Pkg) : Pkg := s.p .CFG_CHUNK_BAD 0 1

/-! ## Acceptance (R178, R196, R206) -/

/-- A LOAD command is accepted. -/
def Pkg.loadAccept (s : Pkg) (m seq : Nat) (replace : Bool) : Pkg :=
  let s := s.clearFlds [.CFG_FAIL_INFO_SECTION, .CFG_FAIL_INFO_INST, .CFG_FAIL_INFO_CHUNK, .CFG_CHUNK_RX, .CFG_CHUNK_TAKEN, .CFG_CHUNK_SKIP,
    .CFG_CHUNK_BAD, .CFG_BYTES, .CFG_LOAD_STAT_FAIL, .CFG_LOAD_STAT_PATCH, .CFG_LOAD_STAT_PEER_MISSING, .CFG_LOAD_STAT_NOT_ADDRESSED] (only 0)
  let s := (s.errPin false).ps [(.CFG_LOAD_STAT_PHASE, 0, 1), (.CFG_LOAD_STAT_DONE, 0, 0)]
  { (s.started m seq) with load := { s.load with active := true, cmd := some (m, seq), replace := replace }, cas.ready := [], cas.await := [] }

/-! ## Stream header (R180, R199, R203) -/

/-- Slot of the battery-backed memory that is active (R201): the valid one with the greater sequence number. -/
def Pkg.slotActive (s : Pkg) : Option Bool :=
  let diff := (s.slotB.seq + 2 ^ 16 - s.slotA.seq % 2 ^ 16) % 2 ^ 16
  match s.slotA.ok, s.slotB.ok with
  | true, true => some (decide (0 < diff) && decide (diff < 2 ^ 15))
  | true, false => some false
  | false, true => some true
  | false, false => none

/-- The key that KEYSRC names may be used. -/
def Pkg.keyUsable (s : Pkg) (f : Fuses) (keysrc : Nat) : Bool :=
  match keysrc with
  | 0 => !f.secure
  | 1 => !f.efKeyDis && f.keyOk
  | _ => !f.bbKeyDis && s.slotActive.isSome

/-- The rest of Table 97: package table, MASTER and its strap. -/
def Pkg.tableOk (s : Pkg) (h : StreamHdr) : Bool :=
  let ids := h.pkgs.map (·.1)
  h.rsv == 0 && decide (h.gen ≤ 64) && decide (h.nonce < 2 ^ 56) && decide (1 ≤ h.npkg) && decide (h.npkg ≤ 64) && h.pkgs.length == h.npkg &&
    decide ids.Nodup && decide (h.master < 64) && ids.contains h.master && decide (h.flags < 2) &&
    (h.pkgs.all fun e => decide (e.1 < 64) && e.2.1 == 0 && decide (e.2.2.1 ≤ 16) && decide (1 ≤ e.2.2.2) && decide (e.2.2.2 < 2 ^ 32)) &&
    (h.master == s.part.pkgId) == s.part.masterSel

/-- The key that KEYSRC names; 0 for the all-zero key (R181). -/
def Pkg.keyOf (s : Pkg) (f : Fuses) (keysrc : Nat) : Nat :=
  match keysrc, s.slotActive with
  | 1, _ => f.key
  | 2, some b => if b then s.slotB.key else s.slotA.key
  | _, _ => 0

/-- The header's GCM tag checks (R180): additional data bytes 0x000 to 0x21F, no plaintext. -/
def headerTag (key : Nat) (b : List Nat) : Bool :=
  gcmTag (roundKeys (keyBytes key)) (streamIv (StreamHdr.ofBytes b).nonce 0xFF 0) (b.take 0x220) [] == (b.drop 0x220).take 16

/-- STREAM_HEADER: what the header's 560 bytes lead to. DESIGN CHOICE: the key is the one held when the header comes. -/
def Pkg.header (s : Pkg) (f : Fuses) (b : List Nat) : Pkg :=
  if !s.load.active ∨ s.load.hdr.isSome then s
  else
    let h := StreamHdr.ofBytes b
    let key := s.keyOf f h.keysrc
    let s := s.inc .CFG_BYTES 0 560
    let fail := fun (s : Pkg) (c : Nat) => ({ s with load.hdr := some h }).loadFail c 0 0 0
    if h.magic ≠ 0x59425453 ∨ (h.version ≠ 0x0200 ∧ h.version ≠ 0x0100) ∨ 3 ≤ h.keysrc then s.loadFail 1 0 0 0
    else if !s.keyUsable f h.keysrc then s.loadFail 2 0 0 0
    else if !headerTag key b then s.loadFail 3 0 0 0
    else if !s.tableOk h then fail s 1
    else match h.pkgs.find? fun e => e.1 == s.part.pkgId with
      | none => (s.ps [(.CFG_LOAD_STAT_PHASE, 0, 0), (.CFG_LOAD_STAT_NOT_ADDRESSED, 0, 1), (.CFG_LOAD_STAT_DONE, 0, 1)]).loadEnd .ok .none
      | some (_, _, n, c) =>
        if h.gen < f.gen then fail s 4
        else { s with load := { s.load with hdr := some h, key := key, sections := n, chunks := c, next := 1, die := none, last := false } }

/-! ## Chunks (R182, R183, R198) -/

/-- A chunk's tag checks under the stream's key (R181): the additional data is its header. -/
def ChunkData.tagOk (c : ChunkData) (key nonce : Nat) : Bool :=
  gcmTag (roundKeys (keyBytes key)) (streamIv nonce c.hdr.pkg c.hdr.counter) (c.head.map BitVec.toNat) (c.data.map BitVec.toNat) ==
    c.tag.map BitVec.toNat

/-- Its plaintext. -/
def ChunkData.plain (c : ChunkData) (key nonce : Nat) : List Nat :=
  gcmCrypt (roundKeys (keyBytes key)) (streamIv nonce c.hdr.pkg c.hdr.counter) (c.data.map BitVec.toNat)

/-- The header of a Zstandard frame keeps the limits of R183: window at most 8 MiB, no dictionary, content size present and equal to ULEN, a
content checksum. PRESUMED: the frame header's layout is that of RFC 8878. -/
def zstdHeadOk (b : List Nat) (ulen : Nat) : Bool :=
  let fd := b.getD 4 0
  let single := bit fd 5
  let size := [if single then 1 else 0, 2, 4, 8].getD (fd / 64) 0
  let o := if single then 5 else 6
  let w := b.getD 5 0
  let window := 2 ^ (10 + w / 8) + 2 ^ (10 + w / 8) / 8 * (w % 8)
  let content := leAt b o size + if size = 2 then 256 else 0
  leAt b 0 4 == 0xFD2FB528 && fd % 4 == 0 && !bit fd 3 && bit fd 2 && size != 0 && content == ulen && decide (o + size ≤ b.length) &&
    decide ((if single then content else window) ≤ 2 ^ 23)

/-- Record types of Table 99. -/
def recTypes : List Nat := [0x0001, 0x0002, 0x000F, 0x0010, 0x0020, 0x0021, 0x0022, 0x0030, 0x0040, 0x0041, 0x0050, 0x0051, 0x0052]

/-- Bytes are whole records of known types (R183, R184); `n` bounds their number. -/
def recsWhole : Nat → List Nat → Bool
  | _, [] => true
  | 0, _ => false
  | n + 1, b =>
    let len := leAt b 4 4
    decide (16 + len ≤ b.length) && recTypes.contains (leAt b 0 2) && len % 8 == 0 && recsWhole n (b.drop (16 + len))

/-- Why an own chunk fails the load; 0 if it does not. A stored chunk whose ULEN is not LEN breaks Table 98 (DEDUCED). -/
def Pkg.chunkCheck (s : Pkg) (nonce : Nat) (d : ChunkData) : Nat :=
  let c := d.hdr
  if c.rsv ≠ 0 ∨ (8 ≤ c.die ∧ c.die ≠ 0xFF) ∨ c.len = 0 ∨ 2 ^ 20 < c.len ∨ c.ulen < 16 ∨ 2 ^ 23 < c.ulen ∨ 4 ≤ c.flags ∨
      (!bit c.flags 1 ∧ c.ulen ≠ c.len) then 1
  else if s.load.last ∨ c.counter ≠ s.load.next ∨ bit c.flags 0 ≠ (c.counter == s.load.chunks) then 5
  else if !d.tagOk s.load.key nonce then 3
  else
    let plain := d.plain s.load.key nonce
    if bit c.flags 1 then
      match d.content with
      | none => 6
      | some l =>
        if !zstdHeadOk plain c.ulen ∨ l.length ≠ c.ulen then 6 else if recsWhole c.ulen (l.map BitVec.toNat) then 0 else 7
    else if recsWhole c.ulen plain then 0 else 7

/-- CHUNK: the package skips it, takes it, or fails with it. The first own chunk begins phase 2. -/
def Pkg.chunk (s : Pkg) (d : ChunkData) : Pkg :=
  match s.load.active, s.load.hdr with
  | true, some h =>
    let c := d.hdr
    let s := (s.inc .CFG_CHUNK_RX 0).inc .CFG_BYTES 0 (48 + c.len)
    let bad := fun (code : Nat) => (s.chunkBad).loadFail code 0 0 c.counter
    if c.magic ≠ 0x4B43 ∨ 64 ≤ c.pkg then bad 1
    else if c.pkg ≠ s.part.pkgId then { (s.inc .CFG_CHUNK_SKIP 0) with load.die := none }
    else match s.chunkCheck h.nonce d with
      | 0 =>
        let s := s.inc .CFG_CHUNK_TAKEN 0
        let s := if s.load.next = 1 then s.ps [(.CFG_LOAD_STAT_PHASE, 0, 2), (.CFG_STREAM_ID, 0, h.stream)] else s
        { s with load := { s.load with die := some c.die, next := s.load.next + 1, last := bit c.flags 0 } }
      | code => bad code
  | _, _ => s

/-- The management processors that carry a load out act (Table 163): that of die 0, and those of the dies of the sections begun. What a load does
next waits for them. -/
def Pkg.loadersAct (s : Pkg) : Bool := (0 :: s.load.secs.flatMap fun x => (s.inst x.inst).desc.dies).all s.mpActs

/-- A step of the load, once they act. -/
def Pkg.byLoaders (s : Pkg) (k : Pkg → Pkg) : Pkg := if s.loadersAct then k s else s

/-! ## Stalls and aborts (R194) -/

/-- STREAM_STALL: no stream byte for CFG_STALL_TMO while the LAST chunk is awaited. -/
def Pkg.streamStall (s : Pkg) : Pkg := if s.load.active ∧ !s.load.last then s.streamFail 11 else s

/-- CFG_CTRL.ABORT and the LOAD_ABORT command: a load in phases 1 to 5 fails. -/
def Pkg.cfgAbort (s : Pkg) : Pkg := if s.load.active then s.streamFail 14 else s

/-! ## The claim (R186, R190) -/

/-- A field of the descriptor other than DEPTH lies out of the range of Tables 89 and 100, or breaks the stream's VERSION (R188). -/
def descBad (x : ImgDesc) (version : Nat) : Bool :=
  let n := x.dies
  let grid := (x.vrows == 1 && (x.vcols == 1 || x.vcols == 2 || x.vcols == 4)) || (x.vrows == 2 && (x.vcols == 2 || x.vcols == 4))
  x.rsv != 0 || !(decide (1 ≤ x.edgeLen) && decide (x.edgeLen ≤ 4096)) || !grid || decide (16 ≤ x.flags) || decide (28 < x.pairs.length) ||
    decide (568 < x.hbmSegs) || decide (4096 < x.flowBase + x.flowCount) || x.pin.length != 8 ||
    (x.pin.any fun p => decide (8 ≤ p) && p != 0xFF) ||
    (x.pairs.any fun e => decide (n ≤ e.1) || decide (n ≤ e.2.1) || e.2.2 == 0 || decide (4 < e.2.2)) ||
    (x.regions.any fun e => decide (n ≤ e.1) || decide (64 ≤ e.2.1) || decide (2 ^ 32 ≤ e.2.2.1) || decide (2 ^ 16 ≤ e.2.2.2)) ||
    !decide (x.regions.map fun e => (e.1, e.2.1)).Nodup ||
    (bit x.flags 1 && (List.range n).any fun v => decide (63 < (x.on v).length)) ||
    (version == 0x0100 && !bit x.flags 0)

/-- D is a multiple of 8 from 80 to 1,024, at most 512 with COMPAT (R19). -/
def depthOk (d : Nat) (compat : Bool) : Bool := decide (80 ≤ d) && decide (d ≤ if compat then 512 else 1024) && d % 8 == 0

/-- Bits of a mask that are 1, below 32. -/
def maskBits (m : Nat) : List Nat := (List.range 32).filter (bit m)

/-- An I/O bank, port or flow that the descriptor names has an owner. -/
def Pkg.taken (s : Pkg) (x : ImgDesc) : Bool :=
  ((maskBits x.ioBanks).any fun b => (s.bankOwner b).isSome) || ((maskBits x.ports).any fun q => (s.portOwner q).isSome) ||
    (List.range x.flowCount).any fun n => (s.flowOwner (x.flowBase + n)).isSome

/-- It names a die the part does not have. -/
def Pkg.absentDie (s : Pkg) (x : ImgDesc) : Bool := (maskBits x.ioBanks ++ maskBits x.ports).any fun b => decide (s.part.model.dies * 4 ≤ b)

/-- A placed region whose domain is not ON is powered on, after a drain in progress has ended (R190, R390). -/
def Pkg.powerUp (s : Pkg) (p : Nat) : Pkg :=
  if s.g .SVC_PD_STAT_STATE p = 0 then s
  else
    let s := if s.g .SVC_PD_STAT_STATE p = 1 ∨ s.g .SVC_PD_STAT_STATE p = 2 then s.incSat .SVC_PD_CNT_OFF p else s
    (s.p .SVC_PD_STAT_STATE p 0).incSat .SVC_PD_CNT_ON p

/-- A region becomes part of instance `i`: its stores hold unused content, its named banks are the instance's and read 0. -/
def Pkg.claimRegion (s : Pkg) (i v r use banks p : Nat) : Pkg :=
  let s := s.powerUp p
  let s := ({ s with fab.regOwn := s.fab.regOwn.put p (i + 1) }.setVmap i v r use banks p).wipeRegion p
  let l := ((List.range 16).filter (bit banks)).map fun b => p * 16 + b
  let s := { s with cav.init := s.cav.init.drop fun k => k / (16 * 16384) == p, cav.mem := s.cav.mem.drop fun k => l.contains (k / 16384) }
  let s := s.each l fun s b => s.setBankOwn b 0 i
  { s with load.oddReg := s.load.oddReg.filter (fun e => e.1 / (4096 * 1024) != p), load.oddWord := s.load.oddWord.filter (fun k => k / 32768 != p),
           load.oddDesc := s.load.oddDesc.filter fun k => k / 512 != p }

/-- An I/O bank, a port and the flows become the instance's. -/
def Pkg.claimBank (s : Pkg) (i b : Nat) : Pkg :=
  let s := (s.clearFlds [.IOC_BANK_CFG_VIO, .IOC_BANK_STAT_VOK, .IOC_BANK_STAT_ENABLED] (only b)).clearFlds cellFields fun c => c / 32 == b
  { s with pins.supply := s.pins.supply.put b 0 }.ps [(.IOC_BANK_CFG_OWNER, b, i), (.IOC_BANK_CFG_OWNED, b, 1)]
@[inherit_doc Pkg.claimBank] def Pkg.claimPort (s : Pkg) (i q : Nat) : Pkg :=
  let s := if (s.port q).closing then s.portGone q else s
  (s.ps [(.LNK_PORT_STAT_OWNER, q, i), (.LNK_PORT_STAT_OWNED, q, 1), (.LNK_PORT_CTRL_EN, q, 1)]).setPortSt q .wait
@[inherit_doc Pkg.claimBank] def Pkg.claimFlow (s : Pkg) (i f : Nat) : Pkg := s.ps [(.SCH_FLOW_STAT_OWNER, f, i), (.SCH_FLOW_STAT_OWNED, f, 1)]

/-- Clear the refusal registers of dies that this load has not cleared yet (R61, R89, R118, R158). -/
def Pkg.clearOnce (s : Pkg) (l : List Nat) : Pkg :=
  s.each l fun s d => if s.load.clearing.contains d then s else { s.clearRefusals d with load.clearing := d :: s.load.clearing }

/-- The claim of instance `i` with its placement; none when the slice cannot be had. -/
def Pkg.claim (s : Pkg) (i : Nat) (x : ImgDesc) (pl : Placed) : Option Pkg :=
  let dies := List.range s.part.model.dies
  let s := s.each dies Pkg.wipeUnowned
  let low := dies.find? pl.dies.contains
  match s.assignSlice i x.hbmSegs (low.getD 0) with
  | none => none
  | some s =>
    let d : Desc := { vrows := x.vrows, dies := pl.dies, vcols := x.vcols, portable := bit x.flags 1, cascade := bit x.flags 3, slow := bit x.flags 2,
                      flowBase := x.flowBase, flowCount := x.flowCount, stream := s.g .CFG_STREAM_ID 0 }
    let s := s.each pl.regs fun s (v, r, use, banks, p) => s.claimRegion i v r use banks p
    let s := s.each (maskBits x.ioBanks) fun s b => s.claimBank i b
    let s := s.each (maskBits x.ports) fun s q => s.claimPort i q
    let s := s.each ((List.range x.flowCount).map fun n => x.flowBase + n) fun s f => s.claimFlow i f
    let s := (s.clearInst i).setInst i { desc := d }
    let s := s.clearFlds (schInstFields ++ trnInstFields ++ [.QUE_INST_ERR, .QUE_INST_UE_ADDR]) (only i)
    let s := s.each (s.queuesOf i) Pkg.zeroQueue
    let s := { s with load.oddDie := s.load.oddDie.filter fun e => e.1 / (4096 * 1024 * 8) != i }
    let s := s.ps [(.ARY_CFG_INFO_DEPTH, i, x.depth), (.ARY_CFG_INFO_COMPAT, i, x.flags % 2), (.ARY_CFG_INFO_CASCADE, i, bits x.flags 3 1),
      (.ARY_CFG_INFO_MASTER, i, b2n s.isMaster), (.ARY_CFG_INFO_EDGE_LEN, i, x.edgeLen)]
    some (s.clearOnce pl.dies)

end Sys2Proof.Machine
end

