-- ==== Sys2Proof/Machine/LoadRecords.lean ====
section
/-!
DEFINITION. The records of a stream (R184, R185, R190, R204, Table 99): sections, frames, caves, queue entries, slices, edges, global
lines, and the boundary, link and trace records.
-/
namespace Sys2Proof.Machine

/-- Failure code of a record (Table 103), 0 for none, with the state it leaves. -/
abbrev RecRes := Pkg × Nat

/-- A record of instance `i` fails the load with a code: its chunk counts as BAD (R198). -/
def Pkg.recFail (s : Pkg) (i code : Nat) : Pkg :=
  ((s.p .CFG_CHUNK_TAKEN 0 (s.g .CFG_CHUNK_TAKEN 0 - 1)).chunkBad).loadFail code (s.secIdx i) (i % 16) s.chunkNow

/-- A record that lies in a chunk, in the wrong or the right kind of one (R184); `die` asks for a die chunk and gets its virtual die, `len` is
the length of the payload that its type has. -/
def Pkg.inRec (s : Pkg) (h : RecHdr) (die : Bool) (len : Nat) (f : Pkg → Nat → Pkg) : Pkg :=
  match s.load.active, s.load.die with
  | true, some v => if 16 ≤ h.inst ∨ h.rsv ≠ 0 ∨ h.len ≠ len ∨ len % 8 ≠ 0 ∨ die ≠ decide (v < 8) then s.recFail h.inst 7 else f s v
  | _, _ => s

/-- Change instance `i`'s section. -/
def Pkg.updSec (s : Pkg) (i : Nat) (f : Section → Section) : Pkg :=
  { s with load.secs := s.load.secs.map fun x => if x.inst = i then f x else x }

/-- A record of an open section: counted, then performed by `f`, which gets the section and the chunk's virtual die. In a patch only
the types of R204 may stand. -/
def Pkg.inSec (s : Pkg) (h : RecHdr) (die patchable : Bool) (len : Nat) (f : Pkg → Section → Nat → RecRes) : Pkg :=
  s.inRec h die len fun s v =>
    match s.load.secs.find? fun x => x.inst == h.inst with
    | none => s.recFail h.inst 7
    | some x =>
      if x.closed ∨ (x.patch ∧ !patchable) then s.recFail h.inst 7
      else
        match f (s.updSec h.inst fun y => { y with records := y.records + 1 }) x v with
        | (s, 0) => s
        | (s, c) => s.recFail h.inst c

/-- Hold patch content back until it is applied; RESOURCE above 1 GiB in all (R205). -/
def Pkg.stage (s : Pkg) (i bytes : Nat) (l : List PatchRec) : RecRes :=
  let s := s.updSec i fun y => { y with staged := y.staged ++ l, bytes := y.bytes + bytes }
  (s, if 2 ^ 30 < s.load.secs.foldl (fun n x => n + x.bytes) 0 then 10 else 0)

/-! ## Sections -/

/-- A section begins. -/
def Pkg.newSec (s : Pkg) (x : Section) : Pkg := { s with load.secs := s.load.secs ++ [x] }.p .CFG_LOAD_STAT_PHASE 0 3

/-- The section breaks R185: a second one of the instance, more than SECTIONS, or patches mixed with others. -/
def Pkg.secBad (s : Pkg) (i : Nat) (patch : Bool) : Bool :=
  s.load.secs.any (fun x => x.inst == i || x.patch != patch) || decide (s.load.sections ≤ s.load.secs.length)

/-- A section that claims nothing fails: its instance becomes UNLOADED with cause LOAD_FAIL, whatever it was (R193). One that another section of
the stream has named is left to that section's end. -/
def Pkg.beginFail (s : Pkg) (i c : Nat) : Pkg :=
  if s.load.secs.any fun x => x.inst == i then s.recFail i c
  else ((s.unloadNow i).p .ARY_RUN_STAT_STOP_CAUSE i Cause.loadFail.code).recFail i c

/-- The claim fails: the instance, LOADING with nothing claimed yet, is UNLOADED again with cause LOAD_FAIL (R190, R193). -/
def Pkg.claimFail (s : Pkg) (i c : Nat) : Pkg :=
  ((s.p .ARY_RUN_STAT_STOP_CAUSE i Cause.loadFail.code).setRun i .unloaded).recFail i c

/-- SECTION_BEGIN: the instance enters LOADING, is placed, and what it needs is claimed (R190). The length of its payload is not checked:
Table 100 gives the place of each field and no length (DESIGN CHOICE). -/
def Pkg.sectionBegin (s : Pkg) (h : RecHdr) (x : ImgDesc) : Pkg :=
  s.inRec h false (h.len / 8 * 8) fun s _ =>
    let i := h.inst
    let version := match s.load.hdr with
      | some y => y.version
      | none => 0x0200
    if s.secBad i false ∨ h.addr ≠ 0 ∨ descBad x version then s.beginFail i 7
    else if s.runState i ≠ .unloaded ∧ !(s.load.replace ∧ s.runState i ≠ .loading) then s.beginFail i 10
    else
      let s := if s.runState i = .unloaded then s else s.unloadNow i
      let s := ((s.clearInst i).p .ARY_RUN_STAT_STOP_CAUSE i 0).setRun i .loading
      match s.place x with
      | none => s.claimFail i 9
      | some pl =>
        if s.absentDie x then s.claimFail i 9
        else if s.taken x then s.claimFail i 10
        else match s.claim i x pl with
          | none => s.claimFail i 10
          | some s => s.newSec { inst := i, patch := false, records := 1, compat := bit x.flags 0, depth := x.depth }

/-- PATCH_BEGIN: a patch of a LOADED, PAUSED or FROZEN instance (R204). One that has accepted a common start counts as about to run. -/
def Pkg.patchBegin (s : Pkg) (h : RecHdr) : Pkg :=
  s.inRec h false 0 fun s _ =>
    let i := h.inst
    let st := s.runState i
    let s := s.p .CFG_LOAD_STAT_PATCH 0 1
    if s.secBad i true ∨ 2 ≤ h.addr then s.recFail i 7
    else if (st ≠ .loaded ∧ st ≠ .paused ∧ st ≠ .frozen) ∨ s.relocating i ∨ s.resetting i ∨ (s.inst i).startAt.isSome then s.recFail i 10
    else s.newSec { inst := i, patch := true, restore := bit h.addr 0, records := 1, compat := s.b .ARY_CFG_INFO_COMPAT i, depth := s.depth i }

/-- SECTION_END: the counts must match. -/
def Pkg.sectionEnd (s : Pkg) (h : RecHdr) (frames records : Nat) : Pkg :=
  s.inSec h false true 16 fun s x _ =>
    if h.addr ≠ 0 ∨ frames ≠ x.frames ∨ records ≠ x.records then (s, 7)
    else (s.updSec h.inst fun y => { y with closed := true }, 0)

/-! ## Content -/

/-- One frame: a bad address or content fails; a patch frame is staged. -/
def Pkg.frameOne (s : Pkg) (i : Nat) (x : Section) (v : Nat) (ok : Bool) (a c : Nat) : RecRes :=
  match faddr a, s.frameTarget i a x.compat with
  | some f, some t =>
    if f.die ≠ v ∨ 2 ^ 4096 ≤ c then (s, 7)
    else match s.frameFault i a c x.compat with
      | 0 =>
        let s := s.updSec i fun y => { y with frames := y.frames + 1 }
        if x.patch then (s.clearOnce [t.die]).stage i 512 [.frame a c ok] else (s.frameWrite i a c t x.compat false, 0)
      | n => (s, n)
  | _, _ => (s, 7)

/-- Run over a list of record parts until one fails. -/
def recAll {α : Type} (f : Pkg → α → RecRes) : List α → Pkg → RecRes
  | [], s => (s, 0)
  | a :: l, s =>
    match f s a with
    | (s, 0) => recAll f l s
    | r => r

/-- FRAMES: consecutive frames from the address on; the FRAME field must not overflow. `verified` tells that every frame reads back
as written, of a patch once it is applied. -/
def Pkg.frames (s : Pkg) (h : RecHdr) (l : List Nat) (verified : Bool) : Pkg :=
  s.inSec h true true (512 * l.length) fun s x v =>
    match faddr h.addr with
    | none => (s, 7)
    | some f =>
      if 2 ^ f.cls.frameBits < f.frame + l.length then (s, 7)
      else
        match recAll (fun s e => s.frameOne h.inst x v verified (h.addr + e.2) e.1) l.zipIdx s with
        | (s, 0) => (s, if verified || x.patch then 0 else 15)
        | r => r

/-- CAVE: 16-bit words of a bank. -/
def Pkg.caveRec (s : Pkg) (h : RecHdr) (words : List Nat) : Pkg :=
  s.inSec h true true (2 * words.length) fun s x v =>
    let r := bits h.addr 0 6
    let b := bits h.addr 6 4
    let first := bits h.addr 10 14
    match s.bankTarget h.inst v r b with
    | none => (s, 7)
    | some k =>
      if 2 ^ 24 ≤ h.addr ∨ 16384 < first + words.length then (s, 7)
      else if x.patch then s.stage h.inst (2 * words.length) [.cave v r b first words]
      else (s.cavePut k first words, 0)

/-- PORTCFG: port configuration of a bank. -/
def Pkg.portcfgRec (s : Pkg) (h : RecHdr) (cfg rsv : Nat) : Pkg :=
  s.inSec h true false 8 fun s _ v =>
    match s.bankTarget h.inst v (bits h.addr 0 6) (bits h.addr 6 4) with
    | none => (s, 7)
    | some k => if 2 ^ 10 ≤ h.addr ∨ rsv ≠ 0 ∨ 4 < bits cfg 0 3 ∨ 4 < bits cfg 4 3 then (s, 7) else (s.portCfgPut k cfg, 0)

/-- QENTRY: a queue entry loads DONE. -/
def Pkg.qentryRec (s : Pkg) (h : RecHdr) (word : Nat) : Pkg :=
  s.inSec h true true 8 fun s x v =>
    let r := bits h.addr 0 6
    let q := bits h.addr 6 3
    let e := bits h.addr 9 6
    match s.physRegion h.inst v r with
    | none => (s, 7)
    | some p =>
      if 2 ^ 15 ≤ h.addr then (s, 7)
      else if x.patch then s.stage h.inst 8 [.qentry v r q e word]
      else (s.qentryPut (p * 8 + q) e word, 0)

/-- HBM: bytes of the slice. -/
def Pkg.hbmRec (s : Pkg) (h : RecHdr) (bytes : List Nat) : Pkg :=
  s.inSec h false true bytes.length fun s x _ =>
    if h.addr % 8 ≠ 0 ∨ s.sliceBytes h.inst < h.addr + bytes.length then (s, 7)
    else if x.patch then s.stage h.inst bytes.length [.hbm h.addr bytes]
    else ((s.useSlice h.inst h.addr bytes.length .svc).sliceWrite h.inst h.addr (bytes.map (BitVec.ofNat 8)), 0)

/-- EDGE: EDGE_LEN entries (R27). -/
def Pkg.edgeRec (s : Pkg) (h : RecHdr) (l : List Nat) : Pkg :=
  s.inSec h false false (8 * l.length) fun s _ _ =>
    if h.addr ≠ 0 ∨ l.length ≠ s.g .ARY_CFG_INFO_EDGE_LEN h.inst then (s, 7)
    else ({ s with fab.edge := Store.setAll 0 s.fab.edge (l.zipIdx.map fun e => (h.inst * 4096 + e.2, e.1 % 2 ^ 64)) }, 0)

/-- GDL: sixteen words (R88). -/
def Pkg.gdlRec (s : Pkg) (h : RecHdr) (l : List Nat) : Pkg :=
  s.inSec h false false 64 fun s _ _ =>
    if h.addr ≠ 0 ∨ l.length ≠ 16 then (s, 7)
    else recAll (fun s e => match s.gdlPut h.inst e.2 e.1 with
      | some s => (s, 0)
      | none => (s, 7)) l.zipIdx s

/-- A record that answers its code or the new state. -/
def Pkg.orCode (s : Pkg) (r : Nat ⊕ Pkg) : RecRes :=
  match r with
  | .inl c => (s, c)
  | .inr s => (s, 0)

/-- IOCFG (R230). -/
def Pkg.iocfgRec (s : Pkg) (h : RecHdr) (vio rsv : Nat) (cells : List Nat) : Pkg :=
  s.inSec h false false 136 fun s _ _ =>
    if 32 ≤ h.addr then (s, 7) else s.orCode (s.iocfg h.inst (h.addr % 8) (h.addr / 8) vio rsv cells)

/-- LINKCFG (R284). -/
def Pkg.linkcfgRec (s : Pkg) (h : RecHdr) (mode roles pkg port rsv : Nat) : Pkg :=
  s.inSec h false false 16 fun s _ _ => s.orCode (s.linkcfg h.inst h.addr mode roles pkg port rsv)

/-- TRACECFG (R310): its payload in 32-bit words. -/
def Pkg.tracecfgRec (s : Pkg) (h : RecHdr) (words : List Nat) : Pkg :=
  s.inSec h false false (4 * words.length) fun s _ _ => s.orCode (s.tracecfg h.inst h.addr words)

end Sys2Proof.Machine
end

