-- ==== Sys2Proof/Machine/LoadCommit.lean ====
section
/-!
DEFINITION. The end of a load (R189, R192, R203, R205, R211): the check pass, READY, COMMIT and ABORT in a cascade, the commit itself,
and the application of a patch.
-/
namespace Sys2Proof.Machine

/-! ## Patches (R204, R205) -/

/-- Apply one staged record to instance `i`. -/
def Pkg.patchOne (s : Pkg) (i : Nat) (r : PatchRec) : Pkg :=
  match r with
  | .frame a c _ =>
    match s.frameTarget i a (s.b .ARY_CFG_INFO_COMPAT i) with
    | some t => s.frameWrite i a c t (s.b .ARY_CFG_INFO_COMPAT i) true
    | none => s
  | .cave v g b first words =>
    match s.bankTarget i v g b with
    | some k => s.cavePut k first words
    | none => s
  | .hbm a bytes => (s.useSlice i a bytes.length .svc).sliceWrite i a (bytes.map (BitVec.ofNat 8))
  | .qentry v g q e w =>
    match s.physRegion i v g with
    | some p => s.qentryPatch (p * 8 + q) e w
    | none => s

/-- The patch section's content takes effect. -/
def Pkg.patchAll (s : Pkg) (x : Section) : Pkg := s.each x.staged fun s r => s.patchOne x.inst r

/-- Physical addresses of the frames a patch section writes, with the outcome of the check that follows the last write of each. -/
def Pkg.patchWrites (s : Pkg) (x : Section) : List (Nat × Bool) :=
  x.staged.reverse.filterMap fun r => match r with
    | .frame a _ ok => (s.frameTarget x.inst a x.compat).map fun f => (f.code, ok)
    | _ => none
/-- Those addresses alone. -/
def Pkg.patchFrames (s : Pkg) (x : Section) : List Nat := (s.patchWrites x).map (·.1)

/-! ## The check pass (R160, R211) -/

/-- Dies a section touches: every die of a placed instance; those a patch has frames for (R205). -/
def Pkg.touched (s : Pkg) (x : Section) : List Nat :=
  let dies := (s.inst x.inst).desc.dies
  if x.patch then dies.filter fun d => (s.patchFrames x).any fun a => a / 2 ^ 24 % 8 == d else dies

/-- The schedule content of section `x` as state `o` holds it is checked on every die the section touches; refusals are recorded. -/
def Pkg.checkSchedule (s o : Pkg) (x : Section) : RecRes :=
  let dies := s.touched x
  (s.each dies fun s d => s.recordRefusals o x.inst d, if dies.all (o.passes x.inst) then 0 else 8)

/-- Every check of phase 4 on one section: its depth (R19), its schedule content, its bridges (R79) and its trace resources. -/
def Pkg.checkSec (s : Pkg) (x : Section) : RecRes :=
  if x.patch then
    match s.checkSchedule (s.patchAll x) x with
    | (s, 0) => (s, if s.bridgesAligned x.inst then 0 else 9)
    | r => r
  else if !depthOk x.depth x.compat then (s, 8)
  else
    match s.checkSchedule s x with
    | (s, 0) => if !s.bridgesAligned x.inst then (s, 9) else if x.traced then s.orCode (s.traceClaim x.inst) else (s, 0)
    | r => r

/-- Check section after section in the order of their begin records; the first that fails, with its code. Where two sections of one load have
regions on one die, the refusal recorded there is that of the earlier section (DESIGN CHOICE: R61 orders the refusals of a die, not the
sections). -/
def Pkg.checkAll (s : Pkg) : List Section → Pkg × Option (Nat × Nat)
  | [] => (s, none)
  | x :: l =>
    match s.checkSec x with
    | (s, 0) => s.checkAll l
    | (s, c) => (s, some (x.inst, c))

/-! ## Commit (R189, R203, R205) -/

/-- Instance `i` becomes LOADED: initial contents in place, buffered writes applied, its frames without error. -/
def Pkg.commitFull (s : Pkg) (x : Section) : Pkg :=
  let i := x.inst
  let s := ((s.restoreArray i).each (s.queuesOf i) Pkg.restoreEntries).cellsInit i
  let s := s.each ((List.range (s.part.model.dies * 4)).filter fun b => s.bankOwner b == some i && s.b .IOC_BANK_STAT_VOK b) fun s b =>
    s.bankEnable b false
  let mine := s.regionsOf i
  let s := s.rewritten fun a => mine.any fun r => inRegion r a
  let s := s.rewritten fun a => match faddr a with
    | some f => f.cls == .drr && s.onDie i f.die
    | none => false
  let s := if x.traced then s.traceOwn i else s
  (((s.p .ARY_RUN_STAT_STOP_CAUSE i 0).setRun i .loaded).applyAllPend i).armAtLoaded i

/-- A patch is applied; with RESTORE = 1 an instance reset follows. A frame that fails the check after its write does not stop being bad
(R214). -/
def Pkg.commitPatch (s : Pkg) (x : Section) : Pkg :=
  let ws := s.patchWrites x
  let s := (s.patchAll x).rewritten fun a => (ws.find? fun e => e.1 == a).any (·.2)
  if x.restore then s.resetBegin x.inst { patch := true } else s

/-- The generation after a load with target `n` (R202, R203). `blow` is none where the rails were not in range for the 10 ms before, and
otherwise tells how many bits, in ascending order, read back before one does not, written twice. DESIGN CHOICE: such a bit ends the advance, which
is retried as a refused one is. -/
def Pkg.genAdvance (s : Pkg) (gen n : Nat) (blow : Option Nat) : Pkg × Nat :=
  let g := if s.railsIn then max gen (min n (gen + blow.getD 0)) else gen
  if n ≤ g then ({ s with load.genPend := 0 }.p .CFG_LOAD_STAT_GEN_ADV_PEND 0 0, g)
  else ({ s with load.genPend := n }.p .CFG_LOAD_STAT_GEN_ADV_PEND 0 1, g)

/-- Phase 6: every section commits, DONE, the generation advances, the LOAD completes. The load stands although a generation bit does not read
back; the LOAD then reports FAULT (R202; DESIGN CHOICE: with reason VERIFY). -/
def Pkg.commit (s : Pkg) (gen : Nat) (blow : Option Nat) : Pkg × Nat :=
  let want := match s.load.hdr with
    | some h => if bit h.flags 0 then h.gen else 0
    | none => 0
  let s := s.each s.load.secs fun s x => if x.patch then s.commitPatch x else s.commitFull x
  let s := s.ps [(.CFG_LOAD_STAT_PHASE, 0, 6), (.CFG_LOAD_STAT_DONE, 0, 1)]
  let s := if s.isMaster then s.p .LNK_CAS_STAT_ALIGNED 0 1 else s
  let n := max want s.load.genPend
  let (s, g) := s.genAdvance gen n blow
  (if g < n ∧ blow.isSome ∧ s.railsIn then s.loadEnd .fault .verify else s.loadEnd .ok .none, g)

/-! ## Cascade commit (R192) -/

/-- PKG_IDs that the stream lists. -/
def Pkg.listed (s : Pkg) : List Nat :=
  match s.load.hdr with
  | some h => h.pkgs.map (·.1)
  | none => []

/-- Mask of the package's cascade instances. -/
def Pkg.cascMask (s : Pkg) : Nat :=
  (List.range 16).foldl (fun n i => if (s.inst i).desc.cascade && s.runState i != .unloaded then n + 2 ^ i else n) 0

/-- READY has gone out or been recorded: the load waits in phase 5. -/
def Pkg.waiting (s : Pkg) : Bool := s.load.active && s.g .CFG_LOAD_STAT_PHASE 0 == 5

/-- The master holds READY from every listed package and waits itself: COMMIT. -/
def Pkg.tryCommit (s : Pkg) (gen : Nat) (blow : Option Nat) : Pkg × Nat :=
  let ids := s.cas.ready.map (·.1)
  if s.waiting ∧ s.listed.all ids.contains then
    let peers := (s.cas.peers.filter fun e => !ids.contains e.1) ++
      s.cas.ready.flatMap fun e => ((List.range 16).filter (bit e.2.2)).map fun i => (e.1, i)
    let s := { s with cas.await := s.listed.filter (· != s.part.pkgId), cas.peers := peers, cas.ready := [] }
    (s.sendDown 0 .commit).commit gen blow
  else (s, gen)

/-- A READY takes its place. Two of one PKG_ID with different UIDs end the load of every listed package: those of that ID with DUP_ID, told
by an ABORT addressed to it, the others with PEER_FAIL. -/
def Pkg.onReady (s : Pkg) (pkg uid mask gen : Nat) (blow : Option Nat) : Pkg × Nat :=
  if !s.load.active then (s, gen)
  else if s.cas.ready.any fun e => e.1 == pkg && e.2.1 != uid then
    let s := s.each s.downPorts fun s q => s.sendCtl q { src := s.part.pkgId, dst := pkg, inst := 0, body := .abort }
    (s.streamFail (if pkg = s.part.pkgId then 12 else 13), gen)
  else
    let l := s.cas.ready.filter fun e => e.1 != pkg
    ({ s with cas.ready := l ++ [(pkg, uid, mask)] }).tryCommit gen blow

/-- LOAD_CHECK: the LAST chunk is in and every frame written. `tierOk` tells that the check pass found every syndrome zero (R211),
`blow` whether fuse writes are allowed and how many bits then read back (R202). -/
def Pkg.loadCheck (s : Pkg) (gen : Nat) (tierOk : Bool) (blow : Option Nat) : Pkg × Nat :=
  if !s.load.active ∨ !s.load.last ∨ 4 ≤ s.g .CFG_LOAD_STAT_PHASE 0 then (s, gen)
  else
    let secs := s.load.secs
    if secs.length ≠ s.load.sections ∨ !secs.all (·.closed) then
      let i := ((secs.find? fun x => !x.closed).map (·.inst)).getD 0
      (s.loadFail 7 ((secs.findIdx? fun x => !x.closed).getD 0) i s.chunkNow, gen)
    else
      let s := s.p .CFG_LOAD_STAT_PHASE 0 4
      if !tierOk then (s.streamFail 15, gen)
      else match s.checkAll secs with
        | (s, some (i, c)) => (s.loadFail c (s.secIdx i) i 0, gen)
        | (s, none) =>
          let s := s.p .CFG_LOAD_STAT_PHASE 0 5
          if (s.load.hdr.map (·.npkg)).getD 1 = 1 then s.commit gen blow
          else if s.isMaster then s.onReady s.part.pkgId s.part.uid s.cascMask gen blow
          else (s.sendUp 0 (.ready s.part.uid s.cascMask), gen)

/-- COMMIT reaches a slave that waits: it commits and acknowledges. -/
def Pkg.onCommit (s : Pkg) (gen : Nat) (blow : Option Nat) : Pkg × Nat :=
  if s.waiting ∧ !s.isMaster then (s.sendUp 0 .commitAck).commit gen blow else (s, gen)

/-- ABORT reaches a package that has not failed: PEER_FAIL, or DUP_ID when it is addressed. -/
def Pkg.onAbort (s : Pkg) (bcast : Bool) : Pkg := if s.load.active then s.streamFail (if bcast then 13 else 12) else s

/-- FAIL reaches the master: ABORT to all, and its own load fails. -/
def Pkg.onFail (s : Pkg) : Pkg := if s.load.active then s.streamFail 13 else s

/-- COMMIT_ACK reaches the master. -/
def Pkg.onCommitAck (s : Pkg) (src : Nat) : Pkg := { s with cas.await := s.cas.await.filter (· != src) }

/-- COMMIT_TIMEOUT: CFG_COMMIT_TMO after the master's own READY (R192). -/
def Pkg.commitTimeout (s : Pkg) : Pkg := if s.waiting ∧ s.isMaster then s.streamFail 13 else s
/-- SLAVE_COMMIT_TIMEOUT. -/
def Pkg.slaveTimeout (s : Pkg) : Pkg := if s.waiting ∧ !s.isMaster then s.streamFail 13 else s
/-- COMMIT_ACK_TIMEOUT: an acknowledgement is missing. -/
def Pkg.ackTimeout (s : Pkg) : Pkg :=
  if s.isMaster ∧ s.cas.await ≠ [] then { s with cas.await := [] }.p .CFG_LOAD_STAT_PEER_MISSING 0 1 else s

end Sys2Proof.Machine
end

