-- ==== Sys2Proof/Machine/Relocation.lean ====
section
/-!
DEFINITION. Relocation (R171-R173): the conditions, the choice of targets, and the switch, which moves everything a region holds and
rewrites what names it (Table 90).
-/
namespace Sys2Proof.Machine

/-! ## Moving keys -/

/-- Move the entries of block `p` of `span` keys to block `p'`, each offset through `g` and each value through `h`; what the old and the new
block held otherwise is gone. -/
def moveBlock {α : Type} [DecidableEq α] (d : α) (m : Store α) (span p p' : Nat) (g : Nat → Option Nat) (h : Nat → α → α) : Store α :=
  let l := (m.filter fun e => e.1 / span == p).filterMap fun e => (g (e.1 % span)).map fun o => (p' * span + o, h (e.1 % span) e.2)
  Store.setAll d (m.drop fun k => k / span == p || k / span == p') l

/-- Move register fields indexed by block `p` of `span` indices. -/
def moveFields (m : NStore) (l : List Fld) (span p p' : Nat) (g : Nat → Option Nat) : NStore :=
  let here := fun (q k : Nat) => k / 1024 / span == q && l.any fun f => f.ctorIdx == k % 1024
  let mv := (m.filter fun e => here p e.1).filterMap fun e =>
    (g (e.1 / 1024 % span)).map fun o => ((p' * span + o) * 1024 + e.1 % 1024, e.2)
  Store.setAll 0 (m.drop fun k => here p k || here p' k) mv

/-- New cluster of an old one. -/
def clMap (l : List (Nat × Nat)) (c : Nat) : Option Nat := (l.find? fun e => e.1 == c).map (·.2)

/-- An offset whose cluster number counts in steps of `n`. -/
def clOff (l : List (Nat × Nat)) (n o : Nat) : Option Nat := (clMap l (o / n)).map fun c => c * n + o % n

/-- Position of a region record whose clusters move. -/
def regPosMove (l : List (Nat × Nat)) (pos : Nat) : Option Nat :=
  if pos < posDEG then clOff l 64 pos
  else if pos < posEXS then some pos
  else if pos < posPGS then (clOff l 16 (pos - posEXS)).map (posEXS + ·)
  else if pos < posPGS + 64 then some pos
  else (clOff l 2 (pos - posPGS - 64)).map (posPGS + 64 + ·)

/-- Region field whose clusters move. -/
def regFieldMove (l : List (Nat × Nat)) (pos f : Nat) : Nat :=
  let src := bits f 0 11
  if pos < posEXS ∧ bit f 15 ∧ src < 0x400 then f - src + (src / 512 * 512 + ((clOff l 16 (src % 512)).getD (src % 512)))
  else if posPGS ≤ pos ∧ bit f 7 then f - f % 32 + (clMap l (f % 32)).getD (f % 32)
  else f

/-- Descriptor word whose clusters move. -/
def descMove (l : List (Nat × Nat)) (o w : Nat) : Nat :=
  let one := fun (en : Bool) (lo w : Nat) => if en then putBits w lo 5 ((clMap l (bits w lo 5)).getD (bits w lo 5)) else w
  if o % 2 = 0 then one (bit w 45) 46 (one (bit w 39) 40 w) else [0, 5, 10, 15].foldl (fun w lo => one (bit w 20) lo w) w

/-- Fields of one queue port. -/
def quePortFields : List Fld := queSnapFields ++ [.QUE_STAT_SKIP_INV, .QUE_STAT_SKIP_RANGE, .QUE_STAT_ORPHAN, .QUE_STAT_WAIT_FREE]

/-! ## The switch of one region (R172) -/

/-- Stores of the array, the queues and the caves. `l` maps used clusters, `banks` are the banks the image uses. -/
def Pkg.moveStores (s : Pkg) (p p' : Nat) (l : List (Nat × Nat)) (banks : List Nat) : Pkg :=
  let same := fun (_ : Nat) (v : Nat) => v
  let unit := fun (_ : Nat) (v : WordUnit) => v
  let mv := fun (m : NStore) (span n : Nat) => moveBlock 0 m span p p' (clOff l n) same
  let slot := fun (o : Nat) => (clOff l 64 (o % 2048)).map fun x => o / 2048 * 2048 + x
  let rec_ := fun (o : Nat) => (regPosMove l (o % 4096)).map fun x => o / 4096 * 4096 + x
  let f := s.fab
  let s := { s with
    fab.junk := f.junk.put p' 0, fab.instr := moveBlock 0 f.instr (1024 * 2048) p p' slot same, fab.route := moveBlock 0 f.route (1024 * 2048) p p' slot same,
    fab.regRec := moveBlock 0 f.regRec (1024 * 4096) p p' rec_ fun o v => regFieldMove l (o % 4096) v,
    fab.data := mv f.data (2048 * 2048) 131072, fab.dataInit := mv f.dataInit (2048 * 2048) 131072,
    fab.wstore := mv f.wstore (32 * 1024) 1024, fab.wu := moveBlock {} f.wu 32 p p' (clOff l 1) unit,
    fab.wuInit := moveBlock {} f.wuInit 32 p p' (clOff l 1) unit,
    fab.exp := mv f.exp 512 16, fab.egr := moveBlock 0 f.egr 32 p p' some same, fab.ing := moveBlock 0 f.ing 32 p p' some same }
  let q := s.que
  let s := { s with
    que.desc := moveBlock 0 q.desc 1024 p p' some (descMove l), que.init := moveBlock 0 q.init 512 p p' some same,
    que.port := moveBlock {} q.port 8 p p' some fun _ v => v }
  let bank := fun (m : NStore) (keep : Bool) => banks.foldl (fun m b =>
    let old := m.filter fun e => e.1 / 16384 == p * 16 + b
    let m := moveBlock 0 m 16384 (p * 16 + b) (p' * 16 + b) some same
    if keep then Store.setAll 0 m old else m) m
  let c := s.cav
  { s with
    cav.mem := bank c.mem true, cav.init := bank c.init false, cav.lines := moveBlock 0 c.lines 32 p p' some same,
    cav.pipe := c.pipe.map fun a => if a.port / 32 = p then { a with port := p' * 32 + a.port % 32 } else a,
    flds := moveFields (moveFields (moveFields s.flds wuUnitFields 32 p p' (clOff l 1)) quePortFields 8 p p' some)
      [.CAV_PORT_CFG_WIDTH_A, .CAV_PORT_CFG_BUSY15_A, .CAV_PORT_CFG_WIDTH_B, .CAV_PORT_CFG_BUSY15_B] 16 p p' some,
    snaps := moveFields (moveFields s.snaps (quePortFields ++ [.QUE_LEVEL_INFLIGHT, .QUE_LEVEL_INFLIGHT_CUR, .QUE_LEVEL_HELD]) 8 p p' some)
      [.QUE_ENT_STAT] 512 p p' some,
    trc.probe := moveBlock 0 s.trc.probe 1024 p p' (clOff l 32) same }

/-- What names the region from elsewhere: the instance's die records, global lines, comparators, flows, and what the loader keeps. Fields that an
earlier owner left at the target's positions of the die record are gone. -/
def Pkg.moveNames (s : Pkg) (i p p' : Nat) (l : List (Nat × Nat)) : Pkg :=
  let d := p / 64
  let rin := fun (pos : Nat) => if pos < posBLN ∧ pos / 32 = p % 64 then p' % 64 * 32 + pos % 32 else pos
  let src := fun (f : Nat) => if bit f 15 ∧ bits f 0 13 / 32 = p % 64 then f - bits f 0 13 + (p' % 64 * 32 + bits f 0 13 % 32) else f
  let s := { s with fab.dieRec := Store.setAll 0 (s.fab.dieRec.drop fun k => k / (1024 * 4096) == d)
                      (((s.fab.dieRec.range (recKey d 0 0) (recKey (d + 1) 0 0)).filter fun (e : Nat × Nat) =>
                        !(decide (e.1 % 4096 < posBLN) && e.1 % 4096 / 32 == p' % 64)).map fun (e : Nat × Nat) => (e.1 - e.1 % 4096 + rin (e.1 % 4096), src e.2)) }
  let s := s.each (List.range 16) fun s g =>
    let k := i * 16 + g
    match clMap l (s.g .XBR_GDL_CFG_CLUSTER k) with
    | some c =>
      if s.g .XBR_GDL_CFG_DIE k = d ∧ s.g .XBR_GDL_CFG_REGION k = p % 64 then
        s.ps [(.XBR_GDL_CFG_REGION, k, p' % 64), (.XBR_GDL_CFG_CLUSTER, k, c)]
      else s
    | none => s
  let s := if s.traced = some i then s.each (List.range 64) fun s c =>
      let pos := s.g .RNT_CMP_SRC_BITPOS c
      if s.g .RNT_CMP_SRC_DIE c = d ∧ pos / 1024 = p % 64 then
        match clOff l 32 (pos % 1024) with
        | some o => s.p .RNT_CMP_SRC_BITPOS c (p' % 64 * 1024 + o)
        | none => s
      else s
    else s
  let s := s.each (s.flowsOf i) fun s f =>
    let x := s.flow f
    if s.flowBound f ∧ x.unit / 32 = p then s.setFlow f { x with unit := p' * 32 + (clMap l (x.unit % 32)).getD 0 } else s
  let key := fun (k : Nat) => if k / (4096 * 1024) = p then p' * (4096 * 1024) + k % (4096 * 1024) else k
  let unit := fun (n k : Nat) => if k / n = p then p' * n + k % n else k
  { s with load.oddReg := s.load.oddReg.map (fun (e : Nat × Nat × Nat) => (key e.1, key e.2.1, e.2.2)), load.oddWord := s.load.oddWord.map (unit 32768),
           load.oddDesc := s.load.oddDesc.map (unit 512) }

/-- Turner's view of the moved frames goes with them: the copy does not mend a frame, and a bad one stays bad (R214). What it held of the
target is gone, as is what belongs to clusters that are not used. -/
def Pkg.moveErrs (s : Pkg) (p p' : Nat) (l : List (Nat × Nat)) : Pkg :=
  let to_ := fun (a : Nat) => (faddr a).bind fun f =>
    let f := { f with die := p' / 64, region := p' % 64 }
    if f.cls == .rrr || f.cls == .dsc then some f.code else (clMap l f.cluster).map fun c => ({ f with cluster := c } : FAddr).code
  let errs := (s.trn.errs.filter fun e => inRegion p e.1).filterMap fun e => (to_ e.1).map fun a => (a, e.2)
  let bad := s.trn.bad.filterMap fun e =>
    if inRegion p e.1 then (to_ e.1).map fun a => (a, e.2) else if inRegion p' e.1 then none else some e
  { s with trn.errs := Store.setAll [] (s.trn.errs.drop fun a => inRegion p a || inRegion p' a) errs, trn.bad := bad }.trnRefresh

/-- Switch virtual region `r` of virtual die `v` from package region `p` to `p'`. -/
def Pkg.switchRegion (s : Pkg) (i v r p p' : Nat) : Pkg :=
  let k := vkey i v r
  let use := s.g .ARY_VMAP_USE k
  let mask := s.g .ARY_VMAP_BANK k
  let l := (((List.range 32).filter (bit use)).map fun c => s.g .ARY_VMAP_CL (k * 36 + c)).zip (s.goodClusters p')
  let banks := (List.range 16).filter (bit mask)
  let s := (s.powerUp p').moveStores p p' l banks
  let s := s.moveNames i p p' l
  let s := { s with fab.regOwn := (s.fab.regOwn.put p 0).put p' (i + 1) }.setVmap i v r use mask p'
  let s := s.each (List.range 16) fun s b => s.setBankOwn (p * 16 + b) 1 0
  let s := s.each banks fun s b => s.setBankOwn (p' * 16 + b) 0 i
  s.moveErrs p p' l

/-! ## The commands -/

/-- The instance may be relocated now: stopped at a boundary, with no reset, patch or relocation under way. -/
def Pkg.relocatable (s : Pkg) (i : Nat) : Bool :=
  (s.runState i == .loaded || ((s.runState i == .paused || s.runState i == .frozen) && s.atBoundary i)) &&
    !s.resetting i && !s.patching i && !s.relocating i && (s.inst i).startAt.isNone

/-- Target of each virtual region of `l` (virtual region, package region), as the arguments name them or by stage 2 of R168. -/
def Pkg.relocTargets (s : Pkg) (i v : Nat) (l : List (Nat × Nat)) (explicit : Bool) (j : Msg) : Option (List (Nat × Nat)) :=
  let d := ((l.head?.map (·.2)).getD 0) / 64
  let use := fun (r : Nat) => s.g .ARY_VMAP_USE (vkey i v r)
  let bank := fun (r : Nat) => s.g .ARY_VMAP_BANK (vkey i v r)
  if explicit then
    let t : List (Nat × Nat) := l.map fun e => (e.1, d * 64 + j.arg (16 + e.1) 1)
    if decide (List.Nodup (t.map fun (e : Nat × Nat) => e.2)) && t.all fun e => s.regionFits e.2 (use e.1) (bank e.1) then some t else none
  else s.assign d [] ((l.map fun e => (v, e.1, use e.1, bank e.1)).mergeSort vregBefore)

/-- RELOCATE: the request is refused or recorded, its targets powered; it waits while a queue port of the regions is not idle, up to 2 ms (`expired`). -/
def Pkg.relocate (s : Pkg) (m seq : Nat) (expired : Bool) : Pkg :=
  match s.take m seq 0x22 with
  | none => s
  | some j =>
    let i := j.inst
    let v := j.arg 0 1
    let mask := j.arg 8 8
    let s0 := s.dispatchCmd m seq
    if !s.mpTakes m seq j then s else
    let no := fun (r : Reason) => s0.reject m seq r
    let regs := (List.range 64).filter (bit mask)
    let l := regs.filterMap fun r => (s.physRegion i v r).map fun p => (r, p)
    if 2 ≤ j.flags ∨ mask = 0 ∨ 16 ≤ i then no .badArgs
    else if s.resetting i then (s0.cmdItemPurge m seq).reject m seq .instReset
    else if !s.relocatable i then no .instState
    else if l.length ≠ regs.length ∨ (bit j.flags 0 ∧ regs.any fun r => 64 ≤ j.arg (16 + r) 1) then no .badArgs
    else match s.relocTargets i v l (bit j.flags 0) j with
      | none => no .notOwner
      | some t =>
        if l.any fun e => (List.range 8).any fun q => !((s.qport (e.2 * 8 + q)).fly.isEmpty && (s.qport (e.2 * 8 + q)).held.isEmpty) then
          (if expired then no .instState else s0)
        else
          let mv := l.map fun e => (e.1, e.2, ((t.find? fun x => x.1 == e.1).map (·.2)).getD 0)
          let s := (s0.started m seq).each mv fun s e => s.powerUp e.2.2
          { s with reloc := Store.set none s.reloc i (some { cmd := (m, seq), vdie := v, moves := mv }) }

/-- RELOCATION_SWITCH: the copy of instance `i` is complete, or has failed. -/
def Pkg.relocSwitch (s : Pkg) (i : Nat) (copyOk : Bool) : Pkg :=
  match Store.get none s.reloc i with
  | none => s
  | some r =>
    if !copyOk then s.relocAbandon i
    else
      let s := s.each r.moves fun s e => s.switchRegion i r.vdie e.1 e.2.1 e.2.2
      let s := { s with reloc := Store.set none s.reloc i none }
      s.done r.cmd.1 r.cmd.2 (leVals (r.moves.foldl (fun n e => n + 2 ^ e.1) 0) 8)

/-- An uncorrectable HBM block of instance `i` ends a relocation of it before its switch (R173). -/
def Pkg.ueAbandon (s : Pkg) (i : Nat) (e : Ecc) : Pkg :=
  match e with
  | .uncorrectable => s.relocAbandon i
  | _ => s

/-- The same for the instance, if any, whose slice holds byte `a` of stack `j`. -/
def Pkg.segAbandon (s : Pkg) (j a : Nat) (e : Ecc) : Pkg :=
  let k := j * 144 + a / segBytes
  if s.g .QUE_SEG_OWN_KIND k = 1 then s.ueAbandon (s.g .QUE_SEG_OWN_INST k) e else s

end Sys2Proof.Machine
end

