-- ==== Sys2Proof/Machine/TraceCmds.lean ====
section
/-!
DEFINITION. Draining a Whey FIFO into its sink, the host's read pointer, and the AUTO timeout (R294-R297, R307).
-/
namespace Sys2Proof.Machine

/-- Payload of a Whey MEM flit (R297). -/
def wheyFlit (d : Nat) (l : List Byte) : Nat := 1 + d * 16 + l.length * 256 + leNat l * 2 ^ 16

/-- Queue up to `n` staged bytes as MEM flits of at most 30; they stay staged until acknowledged. `fuel` bounds the flits. -/
def Pkg.drainLink (s : Pkg) (d q n : Nat) : Nat → Pkg
  | 0 => s
  | fuel + 1 =>
    let w := s.whey d
    let l := (w.fifo.drop w.unack).take (min n 30)
    if l.isEmpty then s
    else
      let s := (s.setWhey d { w with unack := w.unack + l.length }).updPort q fun x => { x with txMem := x.txMem ++ [.mem (wheyFlit d l)] }
      s.drainLink d q (n - l.length) fuel

/-- FIFO_DRAIN: `n` bytes of the FIFO of die `d` go to its sink; a loss in progress ends once room has returned (R296). -/
def Pkg.fifoDrain (s : Pkg) (d n : Nat) : Pkg :=
  if !s.hasStream d then s
  else
    let s :=
      if s.g .WHY_SINK_CFG_SINK d = 0 then s.drainRing d n
      else
        let q := s.g .WHY_SINK_CFG_PORT d
        if s.portSt q = .up then s.drainLink d q n ((n + 29) / 30) else s
    if s.capturing && !s.fillFull d 24 then s.resumeLoss d else s

/-- A write of WHY_RING_RPTR: the cause of its refusal, or the new state (Table 152). A RECEIVE ring then takes what waited for room. -/
def Pkg.ringRptr (s : Pkg) (d v : Nat) : Nat ⊕ Pkg :=
  let len := s.ringLen d
  let r := s.g .WHY_RING_RPTR d
  if s.g .WHY_SINK_CFG_RING_MODE d ≠ 2 ∨ len = 0 then .inl 4
  else if len ≤ v ∨ (s.g .WHY_RING_WPTR d + len - r) % len < (v + len - r) % len then .inl 5
  else
    let s := s.p .WHY_RING_RPTR d v
    .inr (if s.g .WHY_SINK_CFG_SINK d = 2 then s.memDrain (s.g .WHY_SINK_CFG_PORT d) else s)

/-- AUTO_TRIGGER_TIMEOUT: the capture has been ARMED for RNT_AUTO_TMO of running time (R307). -/
def Pkg.autoTimeout (s : Pkg) : Pkg :=
  if s.g .WHY_CAP_STAT_STATE 0 = 1 ∧ s.b .RNT_CTL 0 then { s with trc.autoDue := true } else s

end Sys2Proof.Machine
end

