-- ==== Sys2Proof/Machine/Power.lean ====
section
/-!
DEFINITION. Power domains of regions (R388-R391): drain, fence, switch-off and switch-on. Package regions are die*64 + g.
-/
namespace Sys2Proof.Machine

/-- State code of a region (Table 194). -/
def Pkg.pdState (s : Pkg) (p : Nat) : Nat := s.g .SVC_PD_STAT_STATE p

/-- A write of SVC_PD_CTL.CMD: the cause of its refusal (R389, R390, Table 197), or the new state. A command for the state a region is in
already does nothing. The target of a relocation counts as owned. -/
def Pkg.pdCtl (s : Pkg) (p cmd : Nat) : Nat ⊕ Pkg :=
  let st := s.pdState p
  if cmd = 3 then .inl 5
  else if cmd = 0 then .inr s
  else if st = 1 ∨ st = 2 ∨ st = 4 then .inl 4
  else if cmd = 1 then
    if (s.regionOwner p).isSome || s.relocTarget p then .inl 4 else .inr (if st = 0 then s.p .SVC_PD_STAT_STATE p 1 else s)
  else .inr (if st = 3 then s.p .SVC_PD_STAT_STATE p 4 else s)

/-- What step 2 of Table 195 waits for but for ring requests: queue ports idle, no handover waiting, no march. -/
def Pkg.unitsQuiet (s : Pkg) (p : Nat) : Bool :=
  ((List.range 8).all fun q => (s.qport (p * 8 + q)).fly.isEmpty && (s.qport (p * 8 + q)).held.isEmpty) &&
    ((List.range 16).all fun b => !s.b .CAV_OWN_PEND (p * 16 + b)) && !s.b .CAV_MARCH_STAT_BUSY p

/-- REGION_OFF: the fenced region switches off `us` microseconds after its command and its contents are lost. -/
def Pkg.regionOff (s : Pkg) (p us : Nat) : Pkg :=
  if s.pdState p = 2 then
    let s := s.wipeRegion p
    let s := { s with cav.mem := s.cav.mem.drop fun k => k / (16 * 16384) == p }
    (s.ps [(.SVC_PD_STAT_STATE, p, 3), (.SVC_PD_US, p, us)]).incSat .SVC_PD_CNT_OFF p
  else s

/-- Words of the caves of a region become free values. -/
def Pkg.scramble (s : Pkg) (p : Nat) : Pkg :=
  let (l, s) := s.draws 16 (16 * 16384)
  { s with cav.mem := Store.setAll 0 (s.cav.mem.drop fun k => k / (16 * 16384) == p) (l.zipIdx.map fun e => (p * (16 * 16384) + e.2, e.1)) }

/-- REGION_ON: POWERING ends; the contents of the domain are undefined until a load writes them. -/
def Pkg.regionOn (s : Pkg) (p us : Nat) : Pkg :=
  if s.pdState p = 4 then
    let s := s.scramble p
    ({ s with fab.junk := s.fab.junk.put p 1 }.ps [(.SVC_PD_STAT_STATE, p, 0), (.SVC_PD_US, p, us)]).incSat .SVC_PD_CNT_ON p
  else s

/-- AUTO_POWER_OFF: the firmware of the die begins the drain of a region without an owner for SVC_PD_AUTO ms (R391). -/
def Pkg.autoOff (s : Pkg) (p : Nat) : Pkg :=
  if s.g .SVC_PD_AUTO (p / 64) ≠ 0 ∧ s.pdState p = 0 ∧ (s.regionOwner p).isNone ∧ !s.relocTarget p ∧ s.mpActs (p / 64) then
    s.p .SVC_PD_STAT_STATE p 1
  else s

end Sys2Proof.Machine
end

