-- ==== Sys2Proof/Machine/Views.lean ====
section
/-!
DEFINITION. What a read of a register field returns (R317, R318): the field as it stands, the value of the last snapshot where the spec says so
(R41, R156, R285, R298, R374), or a value that the hardware derives from other state, from the fuses, the straps or the position of the die.
-/
namespace Sys2Proof.Machine

/-- Fields that return the last snapshot: Table 22 and ARY_STOP_POS (R41), Table 81 (R156), Table 142 (R285), the scheduler's (R376). -/
def snapField (f : Fld) : Bool :=
  match f with
  | .ARY_MCC | .ARY_TOTAL | .ARY_EXEC | .ARY_STALL_LNK | .ARY_STALL_QUE | .ARY_STALL_CALL | .ARY_HOLD_FLOW | .ARY_STALLED_MC | .ARY_STOP_POS
  | .QUE_ISSUED | .QUE_SKIPPED | .QUE_CANCELLED | .QUE_COMPLETED | .QUE_ORPHANED | .QUE_PURGED | .QUE_UNCORR | .QUE_STALL | .QUE_LAT_MAX
  | .QUE_LAT_LAST | .QUE_WAIT_FREE_CNT | .QUE_LEVEL_INFLIGHT | .QUE_LEVEL_INFLIGHT_CUR | .QUE_LEVEL_HELD | .QUE_ENT_STAT
  | .LNK_TX_NEW | .LNK_ACKED | .LNK_RPL_DROP | .LNK_RPL_EVT | .LNK_RPL_FLITS | .LNK_RX_ACCEPT | .LNK_RX_BAD | .LNK_RX_GAP | .LNK_RX_DUP
  | .LNK_STALL_RX | .LNK_STALL_TX | .LNK_DOWN_CNT | .LNK_RPL_USED | .LNK_SEQ_TX_NEXT | .LNK_SEQ_RX_EXP | .LNK_VC_OCC | .LNK_VC_SENT
  | .LNK_VC_CRRET | .LNK_VC_RESTORED | .LNK_VC_RCVD | .LNK_VC_FREED | .LNK_VC_DISC
  | .SCH_CREATED | .SCH_DONE | .SCH_PURGED | .SCH_READY | .SCH_RUN | .SCH_DMA_ISSUED | .SCH_DMA_DONE | .SCH_DMA_DISCARD | .SCH_DMA_ACTIVE
  | .SCH_FLOW_TAKEN | .SCH_FLOW_REL | .SCH_FLOW_PURGED | .SCH_FLOW_SNAPLVL => true
  | _ => false

/-- A set of bits as a number. -/
def maskOf (n : Nat) (p : Nat → Bool) : Nat := (List.range n).foldl (fun v b => v + b2n (p b) * 2 ^ b) 0

/-- Ready items of type `t` and priority `p` (SCH_DEPTH). -/
def Pkg.readyItems (s : Pkg) (t p : Nat) : Nat := (s.sch.items.filter fun x => x.ref.code == t && x.prio == p && x.engine.isNone).length

/-- Busy time of an engine, us. -/
def Pkg.busyUs (s : Pkg) (e : Nat) : Nat :=
  (s.sch.busy.at e + (if s.sch.since.at e = 0 then 0 else s.sch.now + 1 - s.sch.since.at e)) / 1000

/-- The key memory's active slot (R201): the valid one with the higher sequence. -/
def Pkg.bbSlot (s : Pkg) : Option Nat := (s.slotActive).map b2n

/-- A DBG_MP_REG access names register `n` of die `d` (R418): 34 is CTX. -/
def Pkg.mpReg (s : Pkg) (d n : Nat) : Nat :=
  if n = 34 then s.g .DBG_MP_CTX_INST d + 16 * s.g .DBG_MP_CTX_VALID d else s.dbg.regs.at (d * 64 + n)

/-- The oldest item that runs on engine `e`. -/
def Pkg.oldestOn (s : Pkg) (e : Nat) : Option Item := (s.onEngine e).head?

/-- The value a read of field `f` of index `k` returns, an RWB field apart (R317). -/
def Pkg.view (s : Pkg) (fu : Fuses) (f : Fld) (k : Nat) : Nat :=
  if snapField f then s.gs f k
  else match f with
  | .ARY_RUN_STAT_BUF_PEND => b2n (s.bufPend k)
  | .XBR_BRG_STAT_PRESENT => maskOf 4 fun b => (s.part.model.neighbour k b).isSome
  | .WU_EXC_SUM => maskOf 32 fun c => s.b .WU_EXC_FLAGS_VALID (k * 32 + c)
  | .CAV_PORT_CFG_WIDTH_A | .CAV_PORT_CFG_BUSY15_A | .CAV_PORT_CFG_WIDTH_B | .CAV_PORT_CFG_BUSY15_B =>
    match s.bankOwn k with
    | .inst _ => s.g f k
    | _ => 0
  | .QUE_LEVEL_OWNER => (s.regionOwner (k / 8)).getD 0
  | .QUE_LEVEL_OWNED => b2n (s.regionOwner (k / 8)).isSome
  | .IOC_CELL_STAT_DRV => b2n (s.driven k != 0)
  | .IOC_BANK_STAT_SCAN => b2n s.part.bscanCe
  | .IOC_SCAN_STAT_BSCAN_CE => b2n s.part.bscanCe
  | .LNK_FAULT_SUM => maskOf 16 fun l => s.laneSt (k * 16 + l) == .fault
  | .LNK_COMPAT_STRAP => maskOf 4 fun p => bit s.part.compat (k * 4 + p)
  | .LNK_VC_CRD_AVAIL => s.snaps.at (fkey .LNK_VC_CRD_AVAIL k)
  | .LNK_CAS_STAT_MASTER => b2n s.part.masterSel
  | .CFG_SEC_SECURE => b2n fu.secure
  | .CFG_SEC_EF_KEY_DIS => b2n fu.efKeyDis
  | .CFG_SEC_BB_KEY_DIS => b2n fu.bbKeyDis
  | .CFG_GEN => fu.gen
  | .CFG_KEY_STAT_EF_VALID => b2n fu.keyOk
  | .CFG_KEY_STAT_BB_VALID => b2n s.slotActive.isSome
  | .CFG_KEY_STAT_BB_SLOT => s.bbSlot.getD 0
  | .CFG_KCV_EF => if fu.keyOk then kcvOf fu.key else 0
  | .CFG_KCV_BB => match s.slotActive with | some true => s.slotB.kcv | some false => s.slotA.kcv | none => 0
  | .CFG_UID => s.part.uid
  | .CFG_PKG_PKG_ID => s.part.pkgId
  | .CFG_PKG_MASTER_SEL => b2n s.part.masterSel
  | .TRN_STAT_ACTIVE => b2n (s.b .TRN_CTRL_EN k && s.dieScanned (k / 64))
  | .WHY_RING_WPTR | .WHY_RING_OLDEST | .WHY_RING_WRAPS | .WHY_FIFO_LEVEL | .WHY_BYTES_PROD | .WHY_BYTES_WR | .WHY_BYTES_LOST | .WHY_PKT_LOST
  | .WHY_LOST_PEND => if s.b .WHY_CAP_STAT_SNAP_VALID 0 then s.gs f k else s.g f k
  | .RNT_TMR_VAL => s.timer k
  | .MBX_STAT_BUSY =>
    b2n (s.b .MBX_STAT_BUSY k || decide (s.maxq k ≤ s.inflight k + s.cplPend k) || s.g .MBX_MP_STAT_STATE 0 == 3)
  | .MBX_STAT_INFLIGHT => s.inflight k
  | .MBX_STAT_CPL_PEND => s.cplPend k
  | .MBX_STAT_ASM => match (s.mail k).asm with | some a => a.n | none => 0
  | .MBX_STAT_STALL_CPL => b2n (decide (s.ringN k ≤ dist16 (s.g .MBX_CPL_TAIL k) (s.g .MBX_CPL_HEAD k)))
  | .MBX_EVT_PEND => s.evts.length
  | .SCH_STAT_EDF => b2n s.part.edf
  | .SCH_STAT_POOL_EMPTY => b2n (s.g .SCH_POOL 0 == 0)
  | .SCH_DEPTH_LO => s.readyItems (k / 2) (k % 2)
  | .SCH_DEPTH_HI => s.readyItems (k / 2) (k % 2 + 2)
  | .SCH_INST_OUT => s.outstanding k
  | .SCH_ENG_STAT_PRESENT => b2n (s.engPresent k)
  | .SCH_ENG_STAT_INPROG => (s.onEngine k).length
  | .SCH_ENG_STAT_INST => ((s.oldestOn k).bind fun x => x.inst).getD 0
  | .SCH_ENG_STAT_INST_VALID => b2n ((s.oldestOn k).bind fun x => x.inst).isSome
  | .SCH_ENG_BUSY_US => s.busyUs k
  | .SCH_ENG_LOAD => s.engLoad k
  | .SCH_FLOW_STAT_STAGED => s.staged k
  | .SCH_FLOW_STAT_CALLS => (s.flow k).calls.length
  | .ADC_CLK_CFG_ROOT => b2n s.rootSlow
  | .ADC_CLK_CFG_GRADE => b2n s.part.slow
  | .DBG_PORT_STAT_BUSY => b2n s.dbg.busy.isSome
  | .DBG_XT_SRC_WP => maskOf 8 fun n => s.b .DBG_WP_CTL_EN (k / 4 * 8 + n) && bit (s.g .DBG_WP_CTL_XT (k / 4 * 8 + n)) (k % 4)
  | .DBG_MP_REG => s.mpReg k (s.g .DBG_MP_REG_SEL k)
  | .BLK_ID_CODE => k / 8
  | .BLK_ID_REV => s.part.stepping
  | _ => s.g f k

/-- Time has passed on the way of a lane to lock, or through a Cold exit (R245): the bound in ETA_US has come down to a free value. In FAULT it
stands. -/
def Pkg.etaPasses (s : Pkg) (l : Nat) : Pkg :=
  let n := s.g .LNK_LANE_STAT_ETA_US l
  if n = 0 ∨ s.laneSt l = .fault then s
  else
    let (v, s) := s.draw 16
    s.p .LNK_LANE_STAT_ETA_US l (v % (n + 1))

/-- The word of register instance `idx` at its low or high half, as a read returns it; ETA_US counts down with time that no command tells, and
reads a free value no greater than the last. -/
def Pkg.regWord (s : Pkg) (fu : Fuses) (r : RegSpec) (idx : Nat) (hi : Bool) : Nat × Pkg :=
  let s := if r.reg = .LNK_LANE_STAT then s.etaPasses idx else s
  let v := r.fields.foldl (fun n f => match f.fld with
    | some x =>
      let k := f.index idx
      let v := if f.acc = .RWB then s.lastWritten x k else s.view fu x k
      n + v % 2 ^ (f.hi - f.lo + 1) * 2 ^ f.lo
    | none => n) 0
  (if hi then v / 2 ^ 32 else v % 2 ^ 32, s)

/-- The word of a register by its name. -/
def Pkg.wordOf (s : Pkg) (fu : Fuses) (l : List RegSpec) (n : Reg) (idx : Nat) : Nat :=
  match l.find? fun r => r.reg == n with
  | some r => (s.regWord fu r idx false).1
  | none => 0

/-- The result of a RUN_CTL (Table 169): ARY_RUN_STAT and ARY_MCC as their registers read. -/
def Pkg.runResult (s : Pkg) (i : Nat) : List Nat :=
  leVals (s.wordOf {} regsARY .ARY_RUN_STAT i) 4 ++ List.replicate 4 0 ++ leVals (s.gs .ARY_MCC i) 8

end Sys2Proof.Machine
end

