-- ==== Sys2Proof/Machine/BusMap.lean ====
section
/-!
DEFINITION. Where a service address leads (R312, R313, R324, R325): the windows of a die, the slots of its register space, and the unit and
the owner that a register belongs to.
-/
namespace Sys2Proof.Machine

/-- An access of the service address space: direction, initiator code and instance of its header, first byte, length in bytes, byte enables
(none: all set) and the words of a write. -/
structure BusReq where
  write : Bool
  init  : Nat
  inst  : Option Nat := none
  addr  : Nat
  len   : Nat := 4
  be    : Option Nat := none
  data  : List Nat := []
deriving DecidableEq, Repr

/-- What the access returns: 0 or the cause of its refusal (Table 161), and the words read. -/
structure BusRsp where
  err  : Nat := 0
  data : List Nat := []
deriving DecidableEq, Repr

/-- Every byte enable is set. -/
def BusReq.whole (a : BusReq) : Bool := match a.be with | none => true | some v => v % 2 ^ a.len == 2 ^ a.len - 1
/-- Byte enables of word `k`. -/
def BusReq.wordBe (a : BusReq) (k : Nat) : Nat := match a.be with | none => 15 | some v => bits v (4 * k) 4
/-- Word `k` of a write. -/
def BusReq.word (a : BusReq) (k : Nat) : Nat := a.data.getD k 0 % 2 ^ 32
/-- Die of the address. -/
def BusReq.die (a : BusReq) : Nat := bits a.addr 37 3
/-- Die offset. -/
def BusReq.off (a : BusReq) : Nat := a.addr % 2 ^ 37

/-! ## Die offset map (Tables 156 and 159) -/

/-- Windows of Table 156: base, size, window, block that counts its refusals (R326). -/
def winTable : List (Nat × Nat × Win × Blk) :=
  [(0x04000000, 2 ^ 25, .data, .ARY), (0x06000000, 2 ^ 25, .cave, .CAV), (0x08000000, 2 ^ 23, .wuState, .WU),
   (0x09000000, 2 ^ 24, .wuStore, .WU), (0x20000000, 2 ^ 29, .route, .XBR), (0x40000000, 2 ^ 30, .tier, .ARY),
   (0x100000000, 2 ^ 20, .sram, .MBX), (0x100100000, 2 ^ 18, .rom, .MBX)]

/-- Base of the bit-alias window. -/
def aliasBase : Nat := 0x80000000
/-- Size of the register space. -/
def regSpace : Nat := 2 ^ 26

/-- The window at a die offset, the offset in it, its size and its block. -/
def winAt (o : Nat) : Option (Win × Nat × Nat × Blk) :=
  (winTable.find? fun e => decide (e.1 ≤ o) && decide (o < e.1 + e.2.1)).map fun e => (e.2.2.1, o - e.1, e.2.1, e.2.2.2)

/-- Slots of Table 159: first slot, number of slots, block, kind. -/
def slotTable : List (Nat × Nat × Blk × Slot) :=
  [(0, 1, .ARY, .die), (1, 2, .ARY, .inst), (3, 1, .XBR, .die), (4, 1, .XBR, .inst), (5, 1, .WU, .die), (6, 1, .WU, .inst),
   (7, 1, .CAV, .die), (8, 1, .CAV, .inst), (9, 1, .QUE, .die), (10, 1, .QUE, .inst), (11, 1, .QUE, .pkg), (12, 1, .IOC, .die),
   (13, 1, .LNK, .die), (14, 1, .LNK, .pkg), (15, 1, .CFG, .pkg), (16, 1, .TRN, .die), (17, 1, .TRN, .inst), (18, 1, .WHY, .die),
   (19, 1, .WHY, .pkg), (20, 1, .RNT, .pkg), (21, 1, .MBX, .die), (22, 1, .SCH, .pkg), (23, 1, .SVC, .die), (24, 1, .TIM, .pkg),
   (25, 1, .ADC, .die), (26, 1, .DBG, .die)]

/-- Size of a slot, 1 MiB. -/
def slotSize : Nat := 2 ^ 20

/-- Block, kind and base of the slot at an offset of the register space. -/
def slotAt (o : Nat) : Option (Blk × Slot × Nat) :=
  (slotTable.find? fun e => decide (e.1 ≤ o / slotSize) && decide (o / slotSize < e.1 + e.2.1)).map fun e => (e.2.2.1, e.2.2.2, e.1 * slotSize)

/-- The block has its only slot for the whole package on die 0. -/
def Blk.pkgOnly (b : Blk) : Bool := b == .CFG || b == .RNT || b == .SCH || b == .TIM
/-- Kind of the block's primary slot (R325). -/
def Blk.primary (b : Blk) : Slot := if b.pkgOnly then .pkg else .die
/-- Index of the common registers of a block on a die. -/
def Blk.common (b : Blk) (d : Nat) : Nat := (b.ctorIdx + 1) * 8 + (if b.pkgOnly then 0 else d)

/-- What stands at an offset of the register space: half of a register, a reserved KEEP word, the time unit's frame buffer, or nothing. -/
inductive Loc where
  | reg (r : RegSpec) (idx : Nat) (hi : Bool)
  | keep
  | frame (o : Nat)
  | bad
deriving DecidableEq, Repr

/-- The offset lies in a range the tables list as reserved registers. -/
def keepAt (b : Blk) (kind : Slot) (o : Nat) : Bool :=
  reservedRegs.any fun e => e.1 == b && e.2.1 == kind && decide (e.2.2.1 ≤ o) &&
    (match dimIndex e.2.2.2.2 0 (o - e.2.2.1) with | some (_, n) => decide (n < e.2.2.2.1) | none => false)

/-- What stands at offset `o` of a slot on die `d`. -/
def slotLoc (b : Blk) (kind : Slot) (d o : Nat) : Loc :=
  if kind != .die && d != 0 then .bad
  else if kind == b.primary && decide (0xFFF00 ≤ o) then
    if 0xFFF10 ≤ o then .keep
    else match findReg regsCommon (fun _ => true) o with
      | some (r, _, hi) => .reg r (b.common d) hi
      | none => .bad
  else if b == .TIM && decide (0x10000 ≤ o) && decide (o < 0x20000) then .frame (o - 0x10000)
  else if b == .DBG && d != 0 && decide (o < 0x10) then .bad
  else
    let own := findReg b.regs (fun k => k == kind) o (if kind == .die then d else 0)
    let one := if kind == .die && d == 0 then findReg b.regs (fun k => k == .die0) o else none
    match own.orElse fun _ => one with
    | some (r, idx, hi) => .reg r idx hi
    | none => if keepAt b kind o then .keep else .bad

/-- The halves of register pairs that the tables list as two registers. -/
def pairHi : Reg → Option Reg
  | .ARY_STOP_AT_LO => some .ARY_STOP_AT_HI
  | .RNT_BR_MASK_LO => some .RNT_BR_MASK_HI
  | .SCH_FLOW_ANS_LO => some .SCH_FLOW_ANS_HI
  | .SCH_DEPTH_LO => some .SCH_DEPTH_HI
  | _ => none

/-! ## Registers by name -/

/-- The map's entry of a register. -/
def specOf (b : Blk) (n : Reg) : Option RegSpec := b.regs.find? fun r => r.reg == n

/-- Die and offset of a register's index within its repeats. -/
def dimOffset : List (Nat × Nat) → Nat → Nat × Nat
  | [], idx => (idx, 0)
  | (st, n) :: l, idx =>
    let (i, o) := dimOffset l idx
    (i / n, o + i % n * st)

/-- Base of a slot kind of a block. -/
def slotBase (b : Blk) (kind : Slot) : Nat :=
  let kind := if kind == .die0 then .die else kind
  match slotTable.find? fun e => e.2.2.1 == b && e.2.2.2 == kind with
  | some e => e.1 * slotSize
  | none => 0

/-- Service address of a register. -/
def RegSpec.addr (r : RegSpec) (idx : Nat) : Nat :=
  let (d, o) := dimOffset r.dims idx
  (if r.slot = .die then d * 2 ^ 37 else 0) + slotBase r.blk r.slot + r.off + o

/-! ## Units and owners (R356, R388) -/

/-- The unit that a register belongs to. -/
inductive RUnit where
  | inst (i : Nat) | region (p : Nat) | bank (b : Nat) | iobank (b : Nat) | port (q : Nat) | flow (f : Nat) | engine (e : Nat) | whey (d : Nat)
  | trace | segment (k : Nat) | dest (d pos : Nat) | other
deriving DecidableEq, Repr

/-- Unit of register instance `idx`. -/
def RegSpec.unit (r : RegSpec) (idx : Nat) : RUnit :=
  let n := match r.dims with
    | [] => idx
    | _ :: l => l.foldl (fun i e => i / e.2) idx
  let count := match r.dims with
    | [] => 0
    | e :: _ => e.2
  if r.reg = .QUE_SEG_OWN then .segment idx else
  match r.slot, r.blk, count with
  | .inst, _, 16 => .inst n
  | .die, .WHY, _ => .whey (n / max 1 count)
  | .pkg, .WHY, _ => .trace
  | .pkg, .RNT, _ => .trace
  | .die, .WU, 64 => .region n
  | .die, .WU, 2048 => .region (n / 32)
  | .die, .CAV, 1024 => .bank n
  | .die, .CAV, 64 => .region n
  | .die, .QUE, 512 => .region (n / 8)
  | .die, .TRN, 64 => .region n
  | .die, .IOC, 128 => .iobank (n / 32)
  | .die, .IOC, 4 => .iobank n
  | .die, .LNK, 16 => .port (n / 4)
  | .die, .LNK, 4 => .port n
  | .pkg, .SCH, 4096 => .flow n
  | .pkg, .SCH, 40 => .engine n
  | .pkg, .SCH, 16 => .inst n
  | .die0, .DBG, 16 => .inst n
  | _, _, _ => .other

/-- The instance that owns a unit (Table 179). -/
def Pkg.unitOwner (s : Pkg) : RUnit → Option Nat
  | .inst i => some i
  | .region p => s.regionOwner p
  | .bank b => match s.bankOwn b with | .inst i => some i | _ => none
  | .iobank b => s.bankOwner b
  | .port q => s.portOwner q
  | .flow f => s.flowOwner f
  | .whey d => if s.engOwned d then s.traced else none
  | .trace => s.traced
  | .segment k => if s.g .QUE_SEG_OWN_KIND k = 1 then some (s.g .QUE_SEG_OWN_INST k) else if s.g .QUE_SEG_OWN_KIND k = 2 then s.traced else none
  | .dest d pos => s.dieDestOwner d pos
  | _ => none

/-- Region whose stop holds the unit's registers. -/
def RUnit.region? : RUnit → Option Nat
  | .region p => some p
  | .bank b => some (b / 16)
  | _ => none

/-- A request made on behalf of an instance reaches no unit of Table 179 but that instance's (R356, R378). -/
def Pkg.foreign (s : Pkg) (inst : Option Nat) (u : RUnit) : Bool :=
  match inst with
  | some i => u != .other && s.unitOwner u != some i
  | none => false

/-- A register is out of reach before its own rules are asked: its engine is absent (R376), its region drains (Table 194), or it belongs to
another instance than the request's. -/
def Pkg.regGuard (s : Pkg) (inst : Option Nat) (u : RUnit) : Option Nat :=
  match u with
  | .engine e => if s.engPresent e then none else some 1
  | _ =>
    let draining := match u.region? with | some p => s.pdState p == 1 | none => false
    if draining || s.foreign inst u then some 4 else none

/-- The unit of a window offset of die `d`. -/
def winUnit (w : Win) (d off : Nat) : RUnit :=
  match w with
  | .cave => .bank (d * 1024 + off / 0x8000)
  | _ => match winRegion w off with
    | some g => .region (d * 64 + g)
    | none => if w = .route ∧ off < 0x14800000 ∧ off % 0x2000 < 0x1E00 then .dest d (off % 0x2000 / 2) else .other

end Sys2Proof.Machine
end

