-- ==== Sys2Proof/Machine/TimeFrames.lean ====
section
/-!
DEFINITION. One-step times in a frame (R400): where a PTP event message lies in an Ethernet frame, and the fields and checksum that change
as it leaves. Frame and message layouts are those of IEEE 802.3, IPv4, IPv6, UDP and IEEE 1588-2019, which R399 names.
-/
namespace Sys2Proof.Machine

/-- `n` bytes of a frame from `o`, as a big-endian number; bytes beyond its end are 0. -/
def beAt (f : List Byte) (o n : Nat) : Nat := (List.range n).foldl (fun v k => v * 256 + (f.getD (o + k) 0).toNat) 0

/-- Replace `n` bytes of a frame from `o` by a big-endian number. -/
def bePut (f : List Byte) (o n v : Nat) : List Byte :=
  (List.range f.length).map fun k => if o ≤ k ∧ k < o + n then BitVec.ofNat 8 (v / 256 ^ (o + n - 1 - k)) else f.getD k 0

/-- Offset of the PTP event message of a frame and of its UDP checksum; none where the frame is no PTP event message. -/
def ptpAt (f : List Byte) : Option (Nat × Option Nat) :=
  let o := if beAt f 12 2 = 0x8100 then 18 else 14
  let r : Option (Nat × Option Nat) := match beAt f (o - 2) 2 with
    | 0x88F7 => some (o, none)
    | 0x0800 =>
      let u := o + beAt f o 1 % 16 * 4
      if beAt f (o + 9) 1 = 17 ∧ beAt f (u + 2) 2 = 319 then some (u + 8, some (u + 6)) else none
    | 0x86DD => if beAt f (o + 6) 1 = 17 ∧ beAt f (o + 42) 2 = 319 then some (o + 48, some (o + 46)) else none
    | _ => none
  match r with
  | some (m, c) => if beAt f m 1 % 16 ≤ 3 then some (m, c) else none
  | none => none

/-- Message type of a PTP message at `m`: 0 Sync, 1 Delay_Req, 2 Pdelay_Req, 3 Pdelay_Resp. -/
def ptpType (f : List Byte) (m : Nat) : Nat := beAt f m 1 % 16

/-- Ones-complement sum of the 16-bit words of `n` bytes from `o`. -/
def onesSum (f : List Byte) (o n : Nat) : Nat := (List.range (n / 2)).foldl (fun v k => v + beAt f (o + 2 * k) 2) 0

/-- The incremental update of a UDP checksum when `f` becomes `g` in the fields at `o` and `p`; a zero checksum stays zero for IPv4. -/
def udpUpdate (f g : List Byte) (c m : Nat) (v6 : Bool) : List Byte :=
  let old := beAt f c 2
  if old = 0 ∧ !v6 then g
  else
    let gone := onesSum f (m + 8) 8 + onesSum f (m + 34) 10
    let come := onesSum g (m + 8) 8 + onesSum g (m + 34) 10
    let r := 65535 - ((65535 - old) + come + 65535 * 9 - gone) % 65535
    bePut g c 2 (if r = 0 then 65535 else r)

/-- Insert the times of a one-step message that crosses the ball at `ns` nanoseconds and `sub` units of 2^-16 ns: originTimestamp and the
fraction in correctionField of a Sync, the residence time `res` in correctionField of a Pdelay_Resp. -/
def oneStep (f : List Byte) (ns sub res : Nat) (csum : Bool) : List Byte :=
  match ptpAt f with
  | none => f
  | some (m, c) =>
    let corr := beAt f (m + 8) 8
    let g := match ptpType f m with
      | 0 => bePut (bePut f (m + 34) 10 (ns / 10 ^ 9 % 2 ^ 48 * 2 ^ 32 + ns % 10 ^ 9)) (m + 8) 8 ((corr + sub) % 2 ^ 64)
      | 3 => bePut f (m + 8) 8 ((corr + res) % 2 ^ 64)
      | _ => f
    match c with
    | some c => if csum then g else udpUpdate f g c m (beAt f (if beAt f 12 2 = 0x8100 then 16 else 12) 2 == 0x86DD)
    | none => g

end Sys2Proof.Machine
end

