-- ==== Sys2Proof/Machine/TimeUnit.lean ====
section
/-!
DEFINITION. The time unit (R399-R412): steps, the servo, holdover, PTP frames, the launch queue; and the start of an instance by a register
write, a command or a launch entry, with the completion of the command that asked for it.
-/
namespace Sys2Proof.Machine

/-! ## Start and resume on behalf of a command (R279, R345) -/

/-- START of instance `i` would be taken on this package. -/
def Pkg.canStart (s : Pkg) (i : Nat) : Bool :=
  s.runState i == .loaded && !s.resetting i && !s.relocating i && !s.patching i

/-- RESUME would be. -/
def Pkg.canResume (s : Pkg) (i : Nat) : Bool := s.resumable i && !s.resetting i && !s.relocating i && !s.patching i

/-- START or RESUME now, with the command it completes: one package completes it at once, a cascade when the exchange ends. -/
def Pkg.startNow (s : Pkg) (i : Nat) (resume : Bool) (c : Option (Nat × Nat)) : Pkg :=
  let ok := if resume then s.canResume i else s.canStart i
  let t := if resume then s.cmdResume i else s.cmdStart i
  if (s.inst i).desc.cascade then
    if (s.startReq i).isNone ∧ (t.startReq i).isSome then
      { t with cas.starts := t.cas.starts.map fun r => if r.inst = i then { r with cmd := c } else r }
    else t.answer c .rejected .instState
  else if ok then t.answer c .ok .none (t.runResult i)
  else t.answer c .rejected .instState

/-- The exchange of instance `i` in `s0` has ended in `s`: its command completes, OK where the instance has entered RUNNING. -/
def Pkg.exchangeEnd (s s0 : Pkg) (i : Nat) (r : Reason) : Pkg :=
  match s0.startReq i with
  | some q =>
    if (s.startReq i).isSome then s
    else if s.runState i ≠ s0.runState i then s.answer q.cmd .ok .none (s.runResult i)
    else s.answer q.cmd .rejected r
  | none => s

/-- Reason of a refused start by its START_ACK code (Table 140). -/
def ackReason (code : Nat) : Reason := if code = 1 then .depth else if code = 2 then .grade else .instState

/-! ## The launch queue (R407-R410) -/

/-- A field of a launch entry is out of the range of Table 201. -/
def lqBad (w2 w3 w45 : Nat) : Bool :=
  match w2 % 4 with
  | 0 => decide (2 ^ 18 ≤ w2) || decide (w3 < 60) || decide (1518 < w3) || decide (2 ^ 16 < bits w2 5 13 * 8 + w3) || w45 != 0
  | 1 => decide (8 ≤ w2) || decide (2 ^ 17 ≤ w3) ||
    match w3 % 256 with
    | 0x10 => decide (2 ^ 13 ≤ w3) || w45 != 0
    | 0x13 => bit w3 12 || decide (14 < bits w3 13 4)
    | _ => true
  | _ => true

/-- Refusal code of a push, 0 when it is accepted (R407). -/
def Pkg.lqRefusal (s : Pkg) (w2 w3 w45 : Nat) : Nat :=
  if 64 ≤ s.tim.lq.length then 1 else if lqBad w2 w3 w45 then 2 else if w2 % 4 = 1 ∧ !s.isMaster then 3 else 0

/-- A timestamp in picoseconds of an event message at the ball, within 4 ns of the true instant, with the board delay `lat` (R400). -/
def Pkg.stampPs (s : Pkg) (lat : Nat) (sub : Bool) : Nat × Pkg :=
  let (v, s) := s.draw 13
  let t := s.tim.ns * 1000 + s.tim.frac * 1000 / 2 ^ 32 + v % 8001
  (if sub then t - 4000 - lat else t - 4000 + lat, s)

/-- Change an Ethernet port. -/
def Pkg.updEth (s : Pkg) (e : Nat) (f : EthPort → EthPort) : Pkg :=
  { s with tim := { s.tim with eth := Store.set {} s.tim.eth e (f (Store.get {} s.tim.eth e)) } }

/-- A frame of the buffer starts on its port. A PTP event message is time-stamped; with ONESTEP its times go in, and `csum` tells that its
checksum could not be updated in place (R400). How long a Pdelay_Resp resided is not stated. -/
def Pkg.frameOut (s : Pkg) (x : Launch) (csum : Bool) : Pkg :=
  let e := bits x.w2 4 1
  let frame := readBytes s.tim.buf (bits x.w2 5 13 * 8) (x.w3 % 2048)
  let s := s.p .TIM_ETH_STAT_LINK e 1
  match ptpAt frame with
  | none => s.updEth e fun p => { p with sent := frame }
  | some (m, c) =>
    let (ps, s) := s.stampPs (s.g .TIM_ETH_TXLAT_PS e) false
    let s := s.updEth e fun p => { p with sent := frame, tx := some (ptpType frame m, ps) }
    if bit x.w2 3 then
      let (res, s) := s.draw 64
      let s := s.updEth e fun p => { p with sent := oneStep frame (ps / 1000) (ps % 1000 * 65536 / 1000) res csum }
      if csum ∧ c.isSome ∧ (ptpType frame m = 0 ∨ ptpType frame m = 3) then s.incSat .TIM_ETH_CSUM e else s
    else s

/-- An entry fires (R408). -/
def Pkg.lqFire (s : Pkg) (x : Launch) (late csum : Bool) : Pkg :=
  let s := (s.lqDrop x).inc .TIM_LQ_FIRED 0
  let s := if late then (s.inc .TIM_LQ_LATE 0).p .TIM_STAT_LATE 0 1 else s
  if !x.ctl then s.frameOut x csum
  else if x.w3 % 256 = 0x10 then s.startNow x.inst (bit x.w3 12) x.cmd
  else if (s.inst x.inst).desc.cascade then
    (s.sendDown x.inst (.stopAt x.w45 (bits x.w3 13 4))).takeStopAt x.inst x.w45 (bits x.w3 13 4)
  else s

/-- An entry whose time has come by more than 1 us at a push or a step (R409): discarded, or fired at once; while VALID is 0 it waits. -/
def Pkg.lqLate (s : Pkg) (x : Launch) : Pkg :=
  if x.discLate then ((s.lqDrop x).inc .TIM_LQ_DISC 0).answer x.cmd .rejected .badArgs
  else if s.b .TIM_STAT_VALID 0 then s.lqFire x true false
  else { s with tim := { s.tim with lq := s.tim.lq.map fun y => if y.num = x.num then { y with late := true } else y } }

/-- An ID that no pending entry has; which one is not stated. -/
def Pkg.lqFreeId (s : Pkg) : Nat × Pkg :=
  let ids := (List.range 64).filter fun n => !(s.tim.lq.any fun x => x.id == n)
  let (v, s) := s.draw 6
  (ids.getD (v % ids.length) 0, s)

/-- Push an entry: its refusal, or its ID and the new state. -/
def Pkg.lqPush (s : Pkg) (t w2 w3 w45 : Nat) (c : Option (Nat × Nat)) : Nat ⊕ (Nat × Pkg) :=
  match s.lqRefusal w2 w3 w45 with
  | 0 =>
    let (id, s) := s.lqFreeId
    let x : Launch := { num := s.tim.num, id := id, t := t, w2 := w2, w3 := w3, w45 := w45, cmd := c }
    let l := s.tim.lq ++ [x]
    let s := ({ s with tim := { s.tim with lq := l, num := s.tim.num + 1 } }.p .TIM_LQ_LEVEL 0 l.length).inc .TIM_LQ_PUSHED 0
    .inr (id, if s.overdue t then s.lqLate x else s)
  | r => .inl r

/-- LAUNCH_PUSH: the entry built in TIM_LQ_W0 to W5, reported in TIM_LQ_RES. -/
def Pkg.lqPushReg (s : Pkg) : Pkg :=
  let w := fun (n : Nat) => s.g .TIM_LQ_W n
  match s.lqPush (w 0 + 2 ^ 32 * w 1) (w 2) (w 3) (w 4 + 2 ^ 32 * w 5) none with
  | .inl r => s.p .TIM_LQ_RES_REFUSE 0 r
  | .inr (id, s) => (s.p .TIM_LQ_RES_ID 0 id).p .TIM_LQ_RES_REFUSE 0 0

/-- The entry that fires first: the one whose time came longest ago, then the one pushed first. -/
def Pkg.lqNext (s : Pkg) : Option Launch :=
  (s.tim.lq.filter fun x => s.hasCome x.t).foldl (fun (b : Option Launch) x =>
    match b with
    | some y => if s.past y.t < s.past x.t then some x else some y
    | none => some x) none

/-- LAUNCH_FIRE: `n` clock periods on, the first entry whose time has come fires (R408). `held` tells that its frame started late because
another frame was on the port. -/
def Pkg.launchFire (s : Pkg) (n : Nat) (held csum : Bool) : Pkg :=
  let s := s.ntPass n
  match s.lqNext with
  | some x =>
    if s.b .TIM_STAT_VALID 0 then s.lqFire x (x.late || (!x.ctl && (held || decide (8 < s.past x.t)))) csum else s
  | none => s

/-- LAUNCH_CANCEL: none where the ID is not pending. -/
def Pkg.lqCancel (s : Pkg) (id : Nat) : Option Pkg :=
  match s.tim.lq.find? fun x => x.id == id with
  | some x => some (((s.lqDrop x).inc .TIM_LQ_CANCELLED 0).answer x.cmd .rejected .badArgs)
  | none => none

/-! ## Steps (R403, R405, R409) -/

/-- Step NT by `amt` nanoseconds in one operation. -/
def Pkg.stepTime (s : Pkg) (amt : Int) : Pkg :=
  let old := s
  let s := { s with tim := { s.tim with ns := (((s.tim.ns : Int) + amt) % (ntSpan : Int)).toNat } }
  let s := (s.incSat .TIM_STEP_CNT 0).ps [(.TIM_STEP_LOG_AMT, 0, wrapN 64 amt), (.TIM_STEP_LOG_AT, 0, old.nt), (.TIM_STAT_STEPPED, 0, 1),
    (.TIM_STAT_VALID, 0, 1)]
  s.each (s.tim.lq.filter fun x => !old.hasCome x.t && s.overdue x.t) Pkg.lqLate

/-- TIM_STEP_THR as it acts. -/
def Pkg.stepThr (s : Pkg) : Nat := clampTo 1000 1000000000 (s.g .TIM_STEP_THR 0)

/-- TIM_ADJ is applied: outright while VALID is 0, as a step at or above the threshold, else slewed (R405). -/
def Pkg.adjust (s : Pkg) (amt : Int) : Pkg :=
  if !s.b .TIM_STAT_VALID 0 ∨ s.stepThr ≤ amt.natAbs then s.stepTime amt
  else { s with tim := { s.tim with slew := s.tim.slew + amt } }

/-! ## The servo (R402-R404) -/

/-- Change STATE: the servo's run of Syncs begins again. -/
def Pkg.timState (s : Pkg) (v : Nat) : Pkg := { s with tim := { s.tim with run := 0 } }.p .TIM_STAT_STATE 0 v

/-- TIM_SLEW_MAX in units of 2^-40. -/
def Pkg.slewMax (s : Pkg) : Nat := clampTo 1000 500000 (s.g .TIM_SLEW_MAX 0) * 2 ^ 40 / 10 ^ 9

/-- Set TIM_RATE, held to its limits. -/
def Pkg.setRate (s : Pkg) (r : Int) : Pkg := s.p .TIM_RATE 0 (wrapN 32 (clampInt rateLimit r))

/-- SERVO_OFFSET: the servo measures NT - master as `o`; `match_` is the rate that matches the master's frequency and `want` the rate the
servo chooses. -/
def Pkg.servo (s : Pkg) (o match_ want : Int) : Pkg :=
  if s.g .TIM_CTRL 0 = 1 ∧ (s.g .TIM_STAT_STATE 0 = 1 ∨ s.g .TIM_STAT_STATE 0 = 2) ∧ s.mpActs 0 then
    let within := decide (o.natAbs < s.g .TIM_LOCK_THR 0)
    let s := s.p .TIM_OFFSET 0 (wrapN 64 o)
    let s := if !s.b .TIM_STAT_VALID 0 ∨ s.stepThr ≤ o.natAbs then s.stepTime (-o)
             else s.setRate (match_ + clampInt s.slewMax (want - match_))
    let locked := s.g .TIM_STAT_STATE 0 == 2
    let run := if within = locked then 0 else s.tim.run + 1
    if locked ∧ run = 4 then s.timState 1
    else if !locked ∧ run = 16 then s.timState 2
    else { s with tim := { s.tim with run := run } }
  else s

/-- The newest part of a history that lasts `n` periods, and how many periods it lasts. -/
def histTake : Nat → List (Nat × Int) → List (Nat × Int)
  | 0, _ => []
  | _, [] => []
  | n, (k, r) :: l => if k < n then (k, r) :: histTake (n - k) l else [(n, r)]

/-- MASTER_LOST (R404): holdover at the mean rate of the last 16 s, or at the last rate where the servo steered for less. How the mean is
rounded is not stated. The servo is firmware's: with it halted the state is unchanged (Table 206). -/
def Pkg.masterLost (s : Pkg) : Pkg :=
  if s.g .TIM_CTRL 0 = 1 ∧ (s.g .TIM_STAT_STATE 0 = 1 ∨ s.g .TIM_STAT_STATE 0 = 2) ∧ s.mpActs 0 then
    let n := 32 * 10 ^ 9 / s.timHalf
    let l := histTake n s.tim.hist
    let have_ := (l.map (·.1)).sum
    let s := if have_ < n then s else
      let tot := l.foldl (fun (v : Int) e => v + e.1 * e.2) 0
      let (up, s) := if tot % (n : Int) = 0 then (0, s) else s.draw 1
      s.setRate (tot / (n : Int) + (up : Nat))
    ({ s with tim := { s.tim with hist := [], hold := 0 } }.timState 3).p .TIM_HOLD_MS 0 0
  else s

/-! ## PTP frames (R399, R400) -/

/-- PTP_FRAME_RECEIVE. -/
def Pkg.ptpReceive (s : Pkg) (x : EthFrame) : Pkg :=
  let e := x.port % 2
  let s := s.p .TIM_ETH_STAT_LINK e 1
  if 3 ≤ x.kind ∨ e ≠ s.g .TIM_PTP_CFG_PORT 0 ∨ x.transport ≠ s.g .TIM_PTP_CFG_TRANSPORT 0 ∨ x.domain ≠ s.g .TIM_PTP_CFG_DOMAIN 0 then
    s.incSat .TIM_ETH_RXDISC e
  else
    let (ps, s) := s.stampPs (s.g .TIM_ETH_TXLAT_RXLAT e) true
    let s := if x.kind ≤ 1 then s.updEth e fun p => { p with rx := some (x.kind, ps) } else s
    let st := s.g .TIM_STAT_STATE 0
    if s.g .TIM_CTRL 0 = 1 ∧ x.kind = 0 ∧ x.qualified ∧ (st = 0 ∨ st = 3) ∧ s.mpActs 0 then s.timState 1 else s

/-- PTP_FRAME_TRANSMIT: the firmware sends a PTP message of kind 0 Sync, 1 Delay_Req, 2 Pdelay_Req, 3 Pdelay_Resp or 4 general. Sync and
Pdelay_Resp are sent one-step; `csum` tells that the checksum could not be updated in place. -/
def Pkg.ptpSend (s : Pkg) (kind : Nat) (csum : Bool) : Pkg :=
  if s.g .TIM_CTRL 0 = 1 ∧ s.mpActs 0 ∧ kind ≤ 4 ∧ !(kind = 0 ∧ s.b .TIM_PTP_CFG_SLAVE_ONLY 0) then
    let e := s.g .TIM_PTP_CFG_PORT 0
    let s := s.p .TIM_ETH_STAT_LINK e 1
    let (ps, s) := s.stampPs (s.g .TIM_ETH_TXLAT_PS e) false
    let s := if kind ≤ 3 then s.updEth e fun p => { p with tx := some (kind, ps) } else s
    if csum ∧ (kind = 0 ∨ kind = 3) ∧ s.g .TIM_PTP_CFG_TRANSPORT 0 ≠ 0 then s.incSat .TIM_ETH_CSUM e else s
  else s

/-- NT_MICROSECOND: `n` clock periods on; where NT passes a whole microsecond, the waiting TIM_RATE applies (R413). -/
def Pkg.ntMicrosecond (s : Pkg) (n : Nat) : Pkg :=
  let t := s.ntPass n
  if t.tim.ns / 1000 = s.tim.ns / 1000 then t else t.applyPend fun w => w.fld == .TIM_RATE

/-! ## Register actions (R405, R413) -/

/-- A write of TIM_RATE: buffered to the next microsecond, on completion while STATE is FREE and MODE is not 1. -/
def Pkg.rateWrite (s : Pkg) (v : Nat) : Pkg :=
  if s.g .TIM_STAT_STATE 0 = 0 ∧ s.g .TIM_CTRL 0 ≠ 1 then s.writeNow .TIM_RATE 0 v
  else s.addPend { fld := .TIM_RATE, idx := 0, val := v % 2 ^ 32, wait := 0 }

/-- TIM_CTRL.MODE changes: outside PTP the state is FREE (Table 200). -/
def Pkg.timMode (s : Pkg) (v : Nat) : Pkg :=
  let s := s.p .TIM_CTRL 0 v
  if v = 1 then s else { s with tim := { s.tim with hist := [] } }.timState 0

/-- The LO read of TIM_NT latches the instant (R397). -/
def Pkg.ntLatch (s : Pkg) : Pkg :=
  s.ps [(.TIM_NT, 0, s.nt), (.TIM_NS, 0, s.tim.ns % 10 ^ 9), (.TIM_SEC, 0, s.tim.ns / 10 ^ 9)]

end Sys2Proof.Machine
end

