-- ==== Sys2Proof/Machine/RunCommands.lean ====
section
/-!
DEFINITION. RUN_CTL (R345, R412): its six actions, and what the steps of a cascade's exchange do to the command that asked for it.
-/
namespace Sys2Proof.Machine

/-- Perform a firmware command of opcode `op` in its turn, when the management processor that carries it out takes it or has it: `k` does the
rest. -/
def Pkg.perform (s : Pkg) (m seq op : Nat) (k : Msg → Pkg → Pkg) : Pkg :=
  match s.take m seq op with
  | some j => if s.mpTakes m seq j then k j (s.dispatchCmd m seq) else s
  | none => s

/-- A command ends with its item. -/
def Pkg.finish (s : Pkg) (m seq : Nat) (st : Status) (r : Reason) (result : List Nat := []) : Pkg := s.answer (some (m, seq)) st r result

/-- The argument range of RUN_CTL (Table 169). -/
def Msg.runArgsOk (j : Msg) : Bool := decide (j.inst < 16) && decide (1 ≤ j.arg 0 1) && decide (j.arg 0 1 ≤ 6) && j.flags == 0

/-- START or RESUME with a launch time pushes an entry of KIND 1 (R412). -/
def Pkg.launchStart (s : Pkg) (m seq : Nat) (j : Msg) (resume : Bool) : Pkg :=
  match s.lqPush (j.arg 16 8) 1 (0x10 + j.inst * 256 + b2n resume * 4096) 0 (some (m, seq)) with
  | .inl _ => s.finish m seq .rejected .badArgs
  | .inr (_, t) => t

/-- A RUN_CTL command of action `act` is performed (R35, R37, R39, R345). -/
def Pkg.runCmd (s : Pkg) (m seq act : Nat) : Pkg :=
  s.perform m seq 0x20 fun j s =>
    let i := j.inst
    let fail := fun (r : Reason) => s.finish m seq .rejected r
    if j.arg 0 1 ≠ act then s
    else if !j.runArgsOk then fail .badArgs
    else if s.resetting i then (s.cmdItemPurge m seq).finish m seq .rejected .instReset
    else if act ≤ 4 ∧ (s.inst i).desc.cascade ∧ !s.isMaster then fail .notMaster
    else if 5 ≤ act ∧ (s.runState i = .unloaded ∨ s.runState i = .loading) then fail .instState
    else match act with
      | 1 | 3 =>
        if j.arg 16 8 = 0 then (s.started m seq).startNow i (act == 3) (some (m, seq))
        else if !s.isMaster then fail .notMaster
        else (s.started m seq).launchStart m seq j (act == 3)
      | 2 | 4 =>
        let ok := s.runs i
        let t := s.cmdStop i (if act = 2 then .hostPause else .hostFreeze)
        if ok then t.finish m seq .ok .none (t.runResult i) else t.finish m seq .rejected .instState
      | 5 =>
        let t := ((s.bufWrite .ARY_STOP_AT_LO i (j.arg 8 4)).bufWrite .ARY_STOP_AT_HI i (j.arg 12 4)).bufWrite .ARY_CTRL_STOP_AT_EN i 1
        t.finish m seq .ok .none (t.runResult i)
      | _ =>
        let t := s.bufWrite .ARY_CTRL_STOP_AT_EN i 0
        t.finish m seq .ok .none (t.runResult i)

/-! ## The exchange of R279 and the command that waits for it -/

/-- START_ACK arrives on the master. -/
def Pkg.startAckIn (s : Pkg) (i src code : Nat) : Pkg := (s.onStartAck i src code).exchangeEnd s i (ackReason code)

/-- START_ACK_DEADLINE: 10 us before the earliest start count whose exchange lacks an answer, that exchange ends (R279). -/
def Pkg.startDeadline (s : Pkg) : Pkg :=
  match s.lateStart with
  | some r => (s.startFail r.inst).exchangeEnd s r.inst .instState
  | none => s

/-- CASCADE_START_COUNT. -/
def Pkg.startCountDue (s : Pkg) (i : Nat) : Pkg := (s.startCount i).exchangeEnd s i .instState

end Sys2Proof.Machine
end

