-- ==== Sys2Proof/Machine/Startup.lean ====
section
/-!
DEFINITION. Start-up, clocks and monitoring (R431-R450): reset release and the boot phases, the reference selector, the root PLLs and bridges,
the ADC, and the limits on rails and temperature.
-/
namespace Sys2Proof.Machine

/-- Every instance with a region, block, port or bank on die `d` becomes FAULTED (R351, R440, R447). -/
def Pkg.faultDie (s : Pkg) (d : Nat) : Pkg := s.each ((List.range 16).filter fun i => s.onDie i d) fun s i => s.fault i .engineFault

/-! ## Boot (R432, R433, R439-R443) -/

/-- The package does not boot: the mailbox hardware answers for it (R443). -/
def Pkg.bootFatal (s : Pkg) (code : Nat) : Pkg := s.ps [(.ADC_BOOT_STAT_FAIL, 0, code), (.MBX_PKG_STAT_MASTER_FAILED, 0, 1)]

/-- Dies attached to a stack. -/
def Pkg.diesOf (s : Pkg) (j : Nat) : List Nat := s.dies.filter fun d => s.part.model.stackOf d == j

/-- The valid flash copy that boots: the one with the higher header version. Of two alike the spec names neither. -/
def Pkg.bootCopy (s : Pkg) (e : BootEnv) : Option (Nat × Nat) × Pkg :=
  match e.copyA, e.copyB with
  | some a, some b =>
    if a = b then let (v, s) := s.draw 1; (some (v, a), s) else (some (if a < b then (1, b) else (0, a)), s)
  | some a, none => (some (0, a), s)
  | none, some b => (some (1, b), s)
  | none, none => (none, s)

/-- Phase 5 on one side: every bridge that exists is aligned. -/
def Pkg.alignBridges (s : Pkg) : Pkg :=
  s.each s.dies fun s d => s.p .XBR_BRG_STAT_ALIGNED d (chans fun k => (s.part.model.neighbour d k).isSome)

/-- The start-up march (R140) of a die: every bank's words are 0 and its result stands; a bank with failing reads is not available. -/
def Pkg.bootMarch (s : Pkg) (e : BootEnv) (d : Nat) : Pkg :=
  let here := fun (k : Nat) => decide (d * 1024 ≤ k) && decide (k < d * 1024 + 1024)
  let s := { s with cav.mem := s.cav.mem.drop fun k => here (k / 16384) }
  let s := s.clearFlds [.CAV_MARCH_RES_FIRST_ADDR, .CAV_MARCH_RES_FAIL, .CAV_MARCH_RES_FAIL_BITS, .CAV_MARCH_CNT] here
  let s := s.clearFlds [.CAV_MARCH_STAT_FAILED] fun r => r / 64 == d
  let s := s.each (List.range 64) fun s g => (s.p .CAV_AVAIL (d * 64 + g) 65535).p .CAV_MARCH_STAT_DONE (d * 64 + g) 1
  let s := s.each (List.range 1024) fun s b => s.p .CAV_MARCH_RES_TESTED (d * 1024 + b) 1
  s.each ((List.range 64).filter fun g => e.march.any fun x => x.1 / 16 == d * 64 + g) fun s g =>
    s.marchEnd (d * 64 + g) 0 65535 ((e.march.filter fun x => x.1 / 16 == d * 64 + g).map fun x => (x.1 % 16, x.2))

/-- Phases 2 to 4: the stacks are trained, the reserved area is marked (Table 83), the firmware copy is chosen, the other dies' MPs are
released, or held by RST_HALT. -/
def Pkg.bootRom (s : Pkg) (e : BootEnv) : Pkg :=
  let bad := e.badStacks.filter fun j => decide (j < s.part.model.stacks)
  let s := s.p .ADC_BOOT_STAT_PHASE 0 2
  if bad.contains 0 then s.bootFatal 3
  else
    let s := if bad.isEmpty then s else
      ({ s with boot := { s.boot with bad := bad } }.p .ADC_BOOT_STAT_FAIL 0 4).p .ADC_BOOT_STAT_DIE_FAIL 0
        (maskOf 8 fun d => bad.any fun j => (s.diesOf j).contains d)
    let s := (s.p .ADC_BOOT_STAT_PHASE 0 3).each (List.range 8) fun s k => s.segOwnSet k 4 0
    match s.bootCopy e with
    | (none, s) => s.bootFatal 2
    | (some (c, v), s) =>
      let s := s.ps [(.ADC_BOOT_STAT_COPY, 0, c), (.ADC_FW_VER, 0, v), (.ADC_BOOT_STAT_PHASE, 0, 4)]
      s.each (s.dies.filter fun d => d != 0 && s.dieOk d) fun s d =>
        let s := s.p .MBX_MP_STAT_STATE d 1
        if s.b .DBG_MP_CTL_RST_HALT d then s.mpHalt d 5 else s

/-- Phase 5: bridges, the start-up march, the lanes. -/
def Pkg.bringUp (s : Pkg) (e : BootEnv) : Pkg :=
  let s := (s.p .ADC_BOOT_STAT_PHASE 0 5).alignBridges
  let s := s.each (s.dies.filter s.dieOk) fun s d => s.bootMarch e d
  s.each (s.dies.filter s.dieOk) fun s d => s.each (List.range 16) fun s l => s.laneEn (d * 16 + l) true

/-- The boot goes on as far as the held MPs let it (R419, R441). -/
def Pkg.bootGo (s : Pkg) : Pkg :=
  match s.boot.env with
  | none => s
  | some e =>
    let s := if s.g .ADC_BOOT_STAT_PHASE 0 = 1 ∧ s.dieOk 0 ∧ !s.b .DBG_MP_STAT_HALTED 0 then s.bootRom e else s
    if s.g .ADC_BOOT_STAT_PHASE 0 = 4 ∧ !((s.dies.filter s.dieOk).any fun d => s.b .DBG_MP_STAT_HALTED d) then s.bringUp e else s

/-- RESET_RELEASE: straps are sampled, the clocks lock, the fuses are checked, and the boot begins (R432, R433, R441). -/
def Pkg.resetRelease (s : Pkg) (e : BootEnv) : Pkg :=
  if s.boot.env.isSome ∨ !(e.refA || e.refB) then s
  else
    let s := { s with part := { s.part with pkgId := e.pkgId % 64, masterSel := e.masterSel, compat := e.compat % 2 ^ 32, bscanCe := e.bscanCe,
                                            bootHalt := e.bootHalt }, boot := { s.boot with env := some e } }
    let s := s.each s.dies fun s d =>
      let s := s.ps [(.DBG_MP_CTL_RST_HALT, d, b2n e.bootHalt), (.ADC_PLL_STAT_ROOT_LOCK, d, 1), (.ADC_PLL_STAT_SD_LOCK, d, 1),
        (.ADC_PLL_STAT_HBM_LOCK, d, 1), (.ADC_MON_RAIL_IN, d, 31)]
      { s with boot := { s.boot with adc := Store.set {} s.boot.adc d { settle := 20 } } }
    let s := s.ps [(.ADC_REF_STAT_A_VALID, 0, b2n e.refA), (.ADC_REF_STAT_B_VALID, 0, b2n e.refB), (.ADC_REF_STAT_ACTIVE, 0, b2n !e.refA),
      (.ADC_BOOT_STAT_PHASE, 0, 1)]
    if !e.fuseOk then s.bootFatal 1
    else
      let s := s.p .MBX_MP_STAT_STATE 0 1
      (if e.bootHalt then s.mpHalt 0 5 else s).bootGo

/-- DIE_BOOT_TIMEOUT: a die other than 0 is not READY 200 ms after its release (R443). -/
def Pkg.dieTimeout (s : Pkg) (d : Nat) : Pkg :=
  if d ≠ 0 ∧ d < s.part.model.dies ∧ s.boot.env.isSome ∧ s.dieOk d ∧ s.g .MBX_MP_STAT_STATE d = 1 ∧ !s.b .DBG_MP_STAT_HALTED d ∧
      4 ≤ s.g .ADC_BOOT_STAT_PHASE 0 then
    let s := (s.p .ADC_BOOT_STAT_FAIL 0 5).pbit .ADC_BOOT_STAT_DIE_FAIL 0 d true
    let s := s.each (List.range 16) fun s l => if s.laneSt (d * 16 + l) = .off then s else (s.enterOff (d * 16 + l)).portReact (lanePort (d * 16 + l))
    ((s.clearFlds [.CAV_AVAIL] fun r => r / 64 == d).healthEvent d 8 0 0).bootGo
  else s

/-- FIRMWARE_READY: phase 6 after `ms` milliseconds (Table 214). -/
def Pkg.firmwareReady (s : Pkg) (ms : Nat) : Pkg :=
  if s.g .ADC_BOOT_STAT_PHASE 0 = 5 ∧ !((s.dies.filter s.dieOk).any fun d => s.b .DBG_MP_STAT_HALTED d) then
    let s := s.each (s.dies.filter s.dieOk) fun s d => s.p .MBX_MP_STAT_STATE d 2
    s.ps [(.ADC_BOOT_STAT_PHASE, 0, 6), (.MBX_PKG_STAT_FW_READY, 0, 1), (.ADC_BOOT_MS, 0, ms)]
  else s

/-- PCIE_LINK_UP: port 0 on die 0, port 1 on die 4 of the GL8 (R330, R442). -/
def Pkg.pcieUp (s : Pkg) (port : Nat) : Pkg :=
  if s.boot.env.isNone then s
  else match port with
    | 0 => s.p .MBX_PKG_STAT_PORT0_UP 0 1
    | 1 => if s.part.model = .gl8 then s.p .MBX_PKG_STAT_PORT1_UP 0 1 else s
    | _ => s

/-! ## Bridges (R79) -/

/-- ALIGN_LOST of the bridge on side `k` of die `d`, seen from both dies. -/
def Pkg.alignmentLoss (s : Pkg) (d k : Nat) : Pkg :=
  match s.part.model.neighbour d k with
  | none => s
  | some e =>
    if bit (s.g .XBR_BRG_STAT_ALIGNED d) k then
      let s := s.each [(d, k), (e, oppSide k)] fun s x =>
        ((s.pbit .XBR_BRG_STAT_ALIGNED x.1 x.2 false).pbit .XBR_BRG_STAT_ALIGN_LOST x.1 x.2 true).notify x.1 .bridge
      let own := fun (i : Nat) => (List.range 8).any fun j => s.brgOwner d k j == some i || s.brgOwner e (oppSide k) j == some i
      s.each ((List.range 16).filter own) fun s i => s.fault i .engineFault
    else s

/-- BRIDGE_REALIGNMENT: only while no instance owns a block on it. -/
def Pkg.realignBridge (s : Pkg) (d k : Nat) : Pkg :=
  match s.part.model.neighbour d k with
  | none => s
  | some e =>
    if ((List.range 8).any fun j => (s.brgOwner d k j).isSome || (s.brgOwner e (oppSide k) j).isSome) ∨ !s.mpActs d then s
    else (s.pbit .XBR_BRG_STAT_ALIGNED d k true).pbit .XBR_BRG_STAT_ALIGNED e (oppSide k) true

/-! ## References (R434-R438) -/

/-- REFERENCE_VALID: recovery from a lost reference, or the revert to PRI. -/
def Pkg.refBack (s : Pkg) (k : Nat) : Pkg :=
  if 3 ≤ k ∨ s.boot.env.isNone ∨ s.b (refValid k) 0 ∨ (k = 2 ∧ !(s.laneSt s.recLane).carriesRec) then s
  else
    let s := s.p (refValid k) 0 1
    if s.b .ADC_REF_STAT_LOST 0 then
      let s := s.ps [(.ADC_REF_STAT_LOST, 0, 0), (.ADC_REF_STAT_HOLDOVER, 0, 0), (.ADC_REF_STAT_ACTIVE, 0, k), (.TIM_STAT_CLK_LOST, 0, 0)]
      (s.each s.dies fun s d => s.p .ADC_PLL_STAT_ROOT_HOLD d 0).healthEvent 0 7 k 0
    else if s.b .ADC_REF_CTRL_REVERT 0 ∧ s.g .ADC_REF_CTRL_PRI 0 = k ∧ s.g .ADC_REF_STAT_ACTIVE 0 ≠ k then s.refSwitch k
    else s

/-- Every root PLL relocks and every bridge realigns; ports leave UP and pass ALIGN again (R437, R440). -/
def Pkg.relockAll (s : Pkg) : Pkg :=
  let s := s.each s.dies fun s d => (s.p .ADC_PLL_STAT_ROOT_LOCK d 0).p .XBR_BRG_STAT_ALIGNED d 0
  { s with boot := { s.boot with relock := s.dies, realign := true } }

/-- A write of ADC_REF_CTRL: a cause of refusal, or the selector acts on it: a new PRI that is valid, or REVERT set while PRI is valid, moves it
(R437). `far` tells that the input chosen is more than 2 ppm from the active one. -/
def Pkg.refCtrl (s : Pkg) (v : Nat) (far : Bool) : Nat ⊕ Pkg :=
  let pri := v % 4
  let alt := v / 4 % 4
  if pri = 3 ∨ alt = 3 ∨ pri = alt then .inl 5
  else
    let asks := s.g .ADC_REF_CTRL_PRI 0 != pri || (bit v 4 && !s.b .ADC_REF_CTRL_REVERT 0)
    let moves := asks && s.g .ADC_REF_STAT_ACTIVE 0 != pri && s.b (refValid pri) 0 && !s.b .ADC_REF_STAT_LOST 0 &&
      (pri != 2 || (s.laneSt (v / 32 % 32 * 4)).carriesRec)
    if moves ∧ far ∧ (List.range 16).any s.underway then .inl 4
    else
      let s := s.ps [(.ADC_REF_CTRL_PRI, 0, pri), (.ADC_REF_CTRL_ALT, 0, alt), (.ADC_REF_CTRL_REVERT, 0, v / 16), (.ADC_REF_CTRL_REC_PORT, 0, v / 32)]
      let s := if (s.laneSt s.recLane).carriesRec then s else s.refInvalid 2
      .inr (if !moves then s
        else if far then
          let s := s.p .ADC_REF_STAT_ACTIVE 0 pri
          let s := s.each s.dies fun s d => (s.p .ADC_PLL_STAT_SD_LOCK d 0).p .ADC_PLL_STAT_HBM_LOCK d 0
          s.relockAll.each (List.range (s.part.model.dies * 4)) fun s q =>
            if s.portSt q = .up then (s.updPort q fun x => { x with phases := 0, silent := false }).setPortSt q .align else s
        else s.refSwitch pri)

/-- A write of ADC_CLK_CFG.ROOT (R440). -/
def Pkg.rootWrite (s : Pkg) (v : Nat) : Nat ⊕ Pkg :=
  if (List.range 16).any fun i => s.runState i != .unloaded then .inl 4
  else if s.part.slow ∧ v % 2 = 0 then .inl 5
  else .inr ((s.p .ADC_CLK_CFG_ROOT 0 v).relockAll)

/-- ROOT_LOCK_LOSS: die `d`'s root PLL loses lock while its reference is valid. -/
def Pkg.rootLoss (s : Pkg) (d : Nat) : Pkg :=
  if d < s.part.model.dies ∧ s.b .ADC_PLL_STAT_ROOT_LOCK d ∧ !s.b .ADC_REF_STAT_LOST 0 then
    ({ s with boot := { s.boot with relock := s.boot.relock ++ [d] } }.ps [(.ADC_PLL_STAT_ROOT_LOCK, d, 0),
      (.ADC_PLL_STAT_ROOT_LOCK_LOST, d, 1)]).faultDie d
  else s

/-- PLL_RELOCK: the root PLL of die `d` has relocked; with the last of them every bridge is aligned again. -/
def Pkg.relocked (s : Pkg) (d : Nat) : Pkg :=
  if s.boot.relock.contains d then
    let l := s.boot.relock.filter (· != d)
    let s := s.ps [(.ADC_PLL_STAT_ROOT_LOCK, d, 1), (.ADC_PLL_STAT_SD_LOCK, d, 1), (.ADC_PLL_STAT_HBM_LOCK, d, 1)]
    if l.isEmpty ∧ s.boot.realign then { s with boot := { s.boot with relock := [], realign := false } }.alignBridges
    else { s with boot := { s.boot with relock := l } }
  else s

/-! ## The ADC (R444-R446) -/

/-- The ADC of a die. -/
def Pkg.adc (s : Pkg) (d : Nat) : Adc := Store.get {} s.boot.adc d
/-- Replace it. -/
def Pkg.setAdc (s : Pkg) (d : Nat) (x : Adc) : Pkg := { s with boot := { s.boot with adc := Store.set {} s.boot.adc d x } }

/-- An initiator may write MODE, START and ADC_CFG (R446). -/
def Pkg.adcMay (s : Pkg) (d init : Nat) : Bool := if s.b .ADC_CTRL_HOST d then !isMp init else isMp init

/-- Buffer an ADC field until the next conversion boundary. -/
def Pkg.adcPend (s : Pkg) (f : Fld) (d v : Nat) : Pkg := s.addPend { fld := f, idx := d, val := v % 2 ^ f.width, wait := 0 }

/-- A write of ADC_CTRL. -/
def Pkg.adcCtrl (s : Pkg) (d init v : Nat) : Nat ⊕ Pkg :=
  let acts := bit v 1 || s.lastWritten .ADC_CTRL_MODE d != v % 2
  if (acts ∧ !s.adcMay d init) ∨ (isMp init ∧ bit v 2 != s.b .ADC_CTRL_HOST d) then .inl 4
  else
    let s := (s.adcPend .ADC_CTRL_MODE d v).p .ADC_CTRL_HOST d (v / 4)
    .inr (if bit v 1 then s.setAdc d { s.adc d with start := true } else s)

/-- A write of ADC_CFG. -/
def Pkg.adcCfg (s : Pkg) (d init v : Nat) : Nat ⊕ Pkg :=
  if v / 16 % 4 = 3 ∨ (v % 16 = 14 ∧ d ≠ 0) then .inl 5
  else if !s.adcMay d init then .inl 4
  else .inr (((s.adcPend .ADC_CFG_CHAN d v).adcPend .ADC_CFG_REF d (v / 16)).adcPend .ADC_CFG_RATE d (v / 256))

/-- ADC_CONVERSION_BOUNDARY. -/
def Pkg.adcBoundary (s : Pkg) (d : Nat) : Pkg :=
  let ref := s.g .ADC_CFG_REF d
  let s := s.applyPend fun w => w.idx == d && (w.fld == .ADC_CTRL_MODE || w.fld == .ADC_CFG_CHAN || w.fld == .ADC_CFG_REF || w.fld == .ADC_CFG_RATE)
  let x := s.adc d
  let new := s.g .ADC_CFG_REF d
  let settle := if new = ref then x.settle - 1 else [20, 100, 5].getD new 0
  let s := s.pb .ADC_STAT_REF_SETTLED d (settle == 0)
  let cont := s.b .ADC_CTRL_MODE d
  let go := x.conv.isNone && (if cont then x.wait == 0 else x.start)
  let conv := if go then some (s.g .ADC_CFG_CHAN d, new, settle != 0) else x.conv
  let s := s.setAdc d { start := x.start && !cont && !go, wait := if !cont then 0 else if go then s.g .ADC_CFG_RATE d else x.wait - 1
                        conv := conv, settle := settle }
  s.pb .ADC_STAT_BUSY d conv.isSome

/-- What the firmware keeps of a conversion of its own (R446, R450): item and value. VREF of the ADC_VREF ball is not known to it from any rule,
and how it rounds is not stated: those are free. -/
def Pkg.healthValue (s : Pkg) (chan ref code : Nat) : Option (Nat × Nat) × Pkg :=
  let div := [2, 1, 1, 2, 1, 2, 4, 4, 4, 4, 1, 1, 1, 1, 1, 1].getD chan 1
  let (up, s) := s.draw 1
  let (any, s) := if ref = 1 then s.draw 16 else (0, s)
  let mv := code * 1200 * div / 4096 + up
  let t := wrapN 16 (((code * 120000 * div / 4096 + up : Nat) : Int) / 2 - 25000)
  let v := fun (n : Nat) => if ref = 1 then any else n
  (if 10 ≤ chan ∧ chan ≤ 13 then some (chan - 10, v t)
   else if 1 ≤ chan ∧ chan ≤ 9 then some (chan + 3, v mv) else none, s)

/-- ADC_CONVERSION_END with the code the conversion gives; channel 3 under REF 2 reads 3,072. -/
def Pkg.adcEnd (s : Pkg) (d code : Nat) : Pkg :=
  match (s.adc d).conv with
  | none => s
  | some (chan, ref, un) =>
    let code := if ref = 2 ∧ chan = 3 then 3072 else code % 4096
    let s := (s.setAdc d { s.adc d with conv := none }).inc .ADC_CONV_CNT d
    let s := s.ps [(.ADC_STAT_BUSY, d, 0), (.ADC_RESULT_CODE, d, code), (.ADC_RESULT_CHAN, d, chan), (.ADC_RESULT_REF, d, ref),
      (.ADC_RESULT_UNSETTLED, d, b2n un), (.ADC_RESULT_SEQ, d, s.g .ADC_CONV_CNT d % 4096)]
    if s.b .ADC_CTRL_HOST d ∨ !s.mpActs d then s
    else match s.healthValue chan ref code with
      | (some (n, v), s) => { s with boot := { s.boot with health := s.boot.health.put (d * 16 + n) v } }
      | (none, s) => s

/-! ## Limits (R447-R449) -/

/-- RAIL_DEPARTURE: rail `r` (CORE, TIER, AUX, SD, SDA) of die `d` has been out of its window for 2 us at `mv` millivolts. -/
def Pkg.railOut (s : Pkg) (d r mv : Nat) : Pkg :=
  if r < 5 ∧ d < s.part.model.dies ∧ bit (s.g .ADC_MON_RAIL_IN d) r then
    let s := ((s.pbit .ADC_MON_RAIL_IN d r false).pbit .ADC_MON_RAIL_OUT d r true).incSat .ADC_MON_UV_CNT d
    let s := s.healthEvent d 3 r mv
    if r ≤ 1 then s.faultDie d
    else if r = 2 then s
    else s.each (List.range 16) fun s l => s.synthLoss (d * 16 + l)
  else s

/-- RAIL_RETURN. -/
def Pkg.railIn (s : Pkg) (d r mv : Nat) : Pkg :=
  if r < 5 ∧ d < s.part.model.dies ∧ !bit (s.g .ADC_MON_RAIL_IN d) r then (s.pbit .ADC_MON_RAIL_IN d r true).healthEvent d 4 r mv else s

/-- Level the firmware has reported for a sensor: 0, 1 WARN, 2 CRIT. -/
def Pkg.setWarm (s : Pkg) (d n v : Nat) : Pkg := { s with boot := { s.boot with warm := s.boot.warm.put (d * 4 + n % 4) v } }

/-- TEMP_WARN: sensor `n` reaches WARN; the firmware reports it once. -/
def Pkg.tempWarn (s : Pkg) (d n : Nat) (v : Int) : Pkg :=
  let s := (s.pbit .ADC_MON_TEMP_WARN d (n % 4) true).pbit .ADC_MON_TEMP_WARN_SEEN d (n % 4) true
  if s.boot.warm.at (d * 4 + n % 4) = 0 ∧ s.mpActs d then (s.setWarm d n 1).healthEvent d 0 (n % 4) v else s

/-- Freeze an instance for CRIT, through the master for a cascade instance. -/
def Pkg.critFreeze (s : Pkg) (i : Nat) : Pkg :=
  if (s.inst i).desc.cascade then s.cascadeAsk i .hostFreeze (s.g .ARY_MCC i) else s.cmdStop i .hostFreeze

/-- TEMP_CRIT: every RUNNING instance with a region on the die is frozen (R448). -/
def Pkg.tempCrit (s : Pkg) (d n : Nat) (v : Int) : Pkg :=
  let s := (s.pbit .ADC_MON_TEMP_CRIT d (n % 4) true).pbit .ADC_MON_TEMP_CRIT_SEEN d (n % 4) true
  if s.boot.warm.at (d * 4 + n % 4) ≤ 1 ∧ s.mpActs d then
    let s := s.setWarm d n 2
    let s := s.each ((List.range 16).filter fun i => s.runs i && (s.regionsOf i).any fun r => r / 64 == d) Pkg.critFreeze
    s.healthEvent d 1 (n % 4) v
  else s

/-- THERMAL_TRIP: the hardware stops the package until the next reset release (R448). -/
def Pkg.thermalTrip (s : Pkg) (d n : Nat) : Pkg :=
  let s := (s.pbit .ADC_MON_TEMP_CRIT d (n % 4) true).pbit .ADC_MON_TEMP_CRIT_SEEN d (n % 4) true
  let s := s.each (List.range 16) fun s i => s.fault i .engineFault
  let s := { s with pins.thermN := false }
  let s := s.each (List.range (s.part.model.dies * 4)) fun s b => s.p .IOC_BANK_STAT_ENABLED b 0
  s.each (List.range (s.part.model.dies * 16)) fun s l => if s.laneSt l = .off then s else (s.enterOff l).portReact (lanePort l)

/-- TEMP_CLEAR: a level clears 5 °C below its threshold. -/
def Pkg.tempClear (s : Pkg) (d n : Nat) (crit : Bool) (v : Int) : Pkg :=
  let f : Fld := if crit then .ADC_MON_TEMP_CRIT else .ADC_MON_TEMP_WARN
  if bit (s.g f d) (n % 4) then
    let s := (s.pbit f d (n % 4) false).setWarm d n (if crit then min 1 (s.boot.warm.at (d * 4 + n % 4)) else 0)
    if s.mpActs d then s.healthEvent d 2 (n % 4) v else s
  else s

/-- VBAT_LOSS: both key slots are invalid (R201). -/
def Pkg.vbatLoss (s : Pkg) : Pkg := { s with slotA := {}, slotB := {} }

end Sys2Proof.Machine
end

