-- ==== Sys2Proof/Machine/DebugOps.lean ====
section
/-!
DEFINITION. What the debug registers do (R417-R419, R425-R429): control of a halted management processor, its registers and fed instructions,
watchpoint and patch rules, and the freeze, release and step of an instance.
-/
namespace Sys2Proof.Machine

/-! ## Management processors (R417, R418) -/

/-- RESUME: the processor runs on from its PC; a boot it held goes on (R419). -/
def Pkg.mpResume (s : Pkg) (d : Nat) : Pkg := if s.b .DBG_MP_STAT_HALTED d then (s.p .DBG_MP_STAT_HALTED d 0).bootGo else s

/-- STEP: one instruction, then HALTED again. What the instruction leaves in the registers the TMC-64 Core Reference says, not this spec. -/
def Pkg.mpStep (s : Pkg) (d : Nat) : Pkg := if s.b .DBG_MP_STAT_HALTED d then (s.p .DBG_MP_STAT_HALTED d 0).mpHalt d 6 else s

/-- A write of DBG_MP_CTL; more than one of HALT, RESUME and STEP is ignored. -/
def Pkg.mpCtl (s : Pkg) (d v : Nat) : Pkg :=
  let s := (s.p .DBG_MP_CTL_RST_HALT d (v / 8)).p .DBG_MP_CTL_WDOG_RUN d (v / 16)
  match v % 8 with
  | 1 => s.mpHalt d 1
  | 2 => s.mpResume d
  | 4 => s.mpStep d
  | _ => s

/-- MP_BREAKPOINT: a running processor meets the breakpoint instruction. -/
def Pkg.mpBreak (s : Pkg) (d : Nat) : Pkg :=
  if s.g .MBX_MP_STAT_STATE d = 1 ∨ s.g .MBX_MP_STAT_STATE d = 2 then s.mpHalt d 3 else s

/-- Why a write to DBG_MP_REG or DBG_MP_FEED is refused. -/
def Pkg.mpBarred (s : Pkg) (d init : Nat) : Bool := !s.b .DBG_MP_STAT_HALTED d || s.b .DBG_MP_STAT_FEED_BUSY d || isMp init

/-- Set register `n` of a management processor; CTX is read-only. -/
def Pkg.mpRegSet (s : Pkg) (d n v : Nat) : Pkg :=
  if n < 34 then { s with dbg := { s.dbg with regs := s.dbg.regs.put (d * 64 + n) (v % 2 ^ 64) } } else s

/-- An instruction fed by a register write: its encoding is not in this spec, so it ends in FEED_ERR, or with any registers but the PC. -/
def Pkg.feedAny (s : Pkg) (d : Nat) : Pkg :=
  let (err, s) := s.draw 1
  if err = 1 then s.p .DBG_MP_STAT_FEED_ERR d 1
  else
    let pc := s.dbg.regs.at (d * 64 + 32)
    (s.mpRegsFree d).mpRegSet d 32 pc

/-! ## Patch units (R429) -/

/-- A write to the patch registers of die `d` is refused, but for LOCK itself. -/
def Pkg.patchBarred (s : Pkg) (d init : Nat) : Bool :=
  s.b .DBG_PATCH_LOCK d || !(isDebug init || isHost init || init == 0) ||
  !(s.b .DBG_MP_STAT_HALTED d || s.g .MBX_MP_STAT_STATE d == 0 || s.g .MBX_MP_STAT_STATE d == 3)

/-- A write of DBG_PATCH_LOCK. -/
def Pkg.patchLock (s : Pkg) (d init v : Nat) : Nat ⊕ Pkg :=
  if s.b .DBG_PATCH_LOCK d then (if v % 2 = 0 then .inl 5 else .inr s)
  else if s.patchBarred d init then .inl 4
  else .inr (s.p .DBG_PATCH_LOCK d v)

/-- A write of DBG_WP_CTL of watchpoint `n` of die `d`: its link is armed afresh (R422). -/
def Pkg.wpCtl (s : Pkg) (k v : Nat) : Nat ⊕ Pkg :=
  if v / 2 % 4 = 3 ∨ v / 32 % 4 = 3 ∨ (bit v 20 ∧ k % 8 = 0) then .inl 5
  else .inr (({ s with dbg := { s.dbg with hits := s.dbg.hits.put k 0 } }).ps
    [(.DBG_WP_CTL_EN, k, v), (.DBG_WP_CTL_SRC, k, v / 2), (.DBG_WP_CTL_RD, k, v / 8), (.DBG_WP_CTL_WR, k, v / 16), (.DBG_WP_CTL_IMODE, k, v / 32),
     (.DBG_WP_CTL_INST, k, v / 2 ^ 7), (.DBG_WP_CTL_INIT_EN, k, v / 2 ^ 11), (.DBG_WP_CTL_INITIATOR, k, v / 2 ^ 12),
     (.DBG_WP_CTL_LINK, k, v / 2 ^ 20), (.DBG_WP_CTL_DATA_EN, k, v / 2 ^ 21), (.DBG_WP_CTL_HALT_MP, k, v / 2 ^ 22), (.DBG_WP_CTL_XT, k, v / 2 ^ 24)])

/-! ## Instances (R425-R428) -/

/-- A STEP would be accepted (R427): LOADED, or stopped at a boundary under debug HOLD, or where RESUME would be accepted. -/
def Pkg.canStep (s : Pkg) (i : Nat) : Bool :=
  let free := !s.resetting i && !s.relocating i && !s.patching i
  let held := s.runState i == .frozen && s.b .DBG_INST_STAT_HOLD i
  !((s.inst i).desc.cascade && !s.isMaster) && free &&
  (s.runState i == .loaded || (s.atBoundary i && (held || s.resumable i)))

/-- A STEP of `n` cycles is accepted: HOLD, STEPPING and the count (R427). -/
def Pkg.stepping (s : Pkg) (i n : Nat) : Pkg :=
  (s.ps [(.DBG_INST_STAT_HOLD, i, 1), (.DBG_INST_STAT_STEPPING, i, 1), (.DBG_INST_LEFT, i, n)]).updInst i fun x => { x with stepLeft := n }

/-- STEP of a cascade instance on the master (R428): a common stop cycle, then the exchange, in which its own HOLD does not stand in the way. An
exchange that begins sets HOLD and STEPPING and loads the count (R427). -/
def Pkg.cascadeStep (s : Pkg) (i n : Nat) : Pkg :=
  let resume := s.runState i != .loaded
  let cycle := s.g .ARY_MCC i + n
  let hold := s.g .DBG_INST_STAT_HOLD i
  let t := (((s.sendDown i (.stopAt cycle (Cause.code .debug))).takeStopAt i cycle (Cause.code .debug)).p .DBG_INST_STAT_HOLD i 0).casExchange i resume
  if (s.startReq i).isNone ∧ (t.startReq i).isSome then t.stepping i n else t.p .DBG_INST_STAT_HOLD i hold

/-- DEBUG_STEP. -/
def Pkg.debugStep (s : Pkg) (i : Nat) : Pkg :=
  if !s.canStep i then s.p .DBG_INST_STAT_STEP_REFUSED i 1
  else
    let n := s.g .DBG_INST_STEPN i + 1
    if (s.inst i).desc.cascade then s.cascadeStep i n
    else
      let t := s.stepping i n
      if s.runState i = .loaded then t.startRun i else t.resumeRun i

/-- DEBUG_RELEASE. -/
def Pkg.debugRelease (s : Pkg) (i : Nat) : Pkg := s.p .DBG_INST_STAT_HOLD i 0

/-- A write of DBG_INST_CTL; more than one bit is ignored. -/
def Pkg.instCtl (s : Pkg) (i v : Nat) : Pkg :=
  match v % 8 with
  | 1 => s.debugFreeze i
  | 2 => s.debugRelease i
  | 4 => s.debugStep i
  | _ => s

/-- Channels that the XTRIG_IN ball pulses (R424). -/
def Pkg.xtrigIn (s : Pkg) : Pkg := s.xtPulse (chans fun c => s.b .DBG_XT_SRC_XTRIG_IN c)

end Sys2Proof.Machine
end

