-- ==== Sys2Proof/Machine/Mailbox.lean ====
section
/-!
DEFINITION. The mailbox hardware (R331-R344, R349-R351): slots and messages, sequence classes, completions and events, and the watchdog.
-/
namespace Sys2Proof.Machine

/-! ## Slots (R334) -/

/-- One byte into a CRC-32C, reflected. -/
def crcByte (c b : Nat) : Nat :=
  (List.range 8).foldl (fun v _ => if v % 2 = 1 then (v / 2) ^^^ 0x82F63B78 else v / 2) (c ^^^ (b % 256))

/-- CRC-32C of a list of byte values. -/
def crc32c (l : List Nat) : Nat := (l.foldl crcByte 0xFFFFFFFF) ^^^ 0xFFFFFFFF

/-- Little-endian number of byte values. -/
def leOf (l : List Nat) : Nat := l.foldr (fun b v => b % 256 + 256 * v) 0

/-- Read a slot of 64 byte values (Table 164). -/
def slotOf (l : List Nat) : MSlot :=
  let h := leOf (l.take 8)
  { seq := h % 65536, idx := bits h 16 4, last := bits h 20 4, magicOk := bits h 24 8 == 0xC5
    chkOk := bits h 32 32 == crc32c (l.take 4 ++ l.drop 8), body := (List.range 56).map fun k => l.getD (8 + k) 0 % 256 }

/-- The slot at place `pos` of the command ring: on chip as the SRAM holds it, in host memory as the transfer brought it. -/
def Pkg.slotBytes (s : Pkg) (m pos : Nat) (fetched : List Nat) : List Nat :=
  if s.b .MBX_CTRL_ONCHIP m then (readBytes s.sram (0xD0000 + m * 0x3000 + pos % 128 * 64) 64).map (·.toNat) else fetched

/-! ## Commands as they arrive (R335, Tables 165 and 169) -/

/-- Opcodes of Table 169 with their ARGLEN and the FLAGS bits they define. -/
def cmdShape : Nat → Option (Nat × Nat)
  | 0x01 => some (0, 0) | 0x02 => some (0, 0) | 0x03 => some (8, 0) | 0x04 => some (8, 0) | 0x10 => some (12, 1) | 0x11 => some (0, 0)
  | 0x12 => some (12, 0) | 0x13 => some (0, 0) | 0x20 => some (24, 0) | 0x21 => some (0, 0) | 0x22 => some (80, 1) | 0x30 => some (5, 0)
  | 0x31 => some (16, 0) | 0x32 => some (20, 0) | 0x33 => some (20, 0) | 0x40 => some (28, 0) | 0x50 => some (20, 0) | 0x51 => some (20, 0)
  | 0x60 => some (36, 0) | 0x61 => some (36, 0) | 0x62 => some (0, 0) | 0x63 => some (1, 0) | 0x70 => some (1, 0) | 0x80 => some (16, 0)
  | 0x81 => some (2, 0)
  | _ => none

/-- Offset of the host address of a command's arguments. -/
def hostArg : Nat → Option Nat
  | 0x03 => some 0 | 0x04 => some 0 | 0x12 => some 0 | 0x32 => some 8 | 0x33 => some 8 | 0x40 => some 16 | 0x50 => some 8 | 0x51 => some 8
  | 0x80 => some 8
  | _ => none

/-- Every argument lies in the range Table 169 gives it for a part with `dies` dies. -/
def Msg.rangeOk (j : Msg) (dies : Nat) : Bool :=
  (match hostArg j.op with
   | some o => j.arg o 8 % 8 == 0
   | none => true) &&
  match j.op with
  | 0x10 => j.arg 0 8 % 16 == 0 && decide (1 ≤ j.arg 8 4) && decide (j.arg 8 4 ≤ 65536)
  | 0x20 => j.runArgsOk
  | 0x22 => decide (j.arg 0 1 < 256) && j.arg 8 8 != 0
  | 0x30 => decide (j.arg 0 1 < dies) && decide (j.arg 1 1 < 64) && bits (j.arg 4 1) 2 2 == 0
  | 0x31 => decide (j.arg 0 1 < dies) && decide (j.arg 1 1 ≤ 1)
  | 0x32 | 0x33 => j.arg 16 4 % 8 == 0 && j.arg 0 8 % 8 == 0
  | 0x40 => decide (j.arg 0 1 < dies)
  | 0x50 => decide (j.arg 0 1 < 4 * dies) && decide (1 ≤ j.arg 16 4) && decide (j.arg 16 4 ≤ 65536)
  | 0x51 => decide (j.arg 0 1 < 4 * dies) && decide (1 ≤ j.arg 16 4)
  | 0x63 => decide (1 ≤ j.arg 0 1) && decide (j.arg 0 1 ≤ 7)
  | 0x70 => decide (j.arg 0 1 < dies)
  | _ => true

/-- The header, LAST and arguments of a message pass (R335, R338). -/
def msgOk (j : Msg) (body : List Nat) (last dies : Nat) : Bool :=
  let b := fun (k : Nat) => body.getD k 0
  let len := b 4 + 256 * b 5
  let need := if len ≤ 40 then 0 else (len - 40 + 55) / 56
  decide (b 1 < 4) && decide (b 2 < 16) && b 6 == 0 && b 7 == 0 && last == need &&
  (match cmdShape j.op with
   | some (n, f) => len == n && (j.flags &&& f) == j.flags
   | none => false) && j.rangeOk dies

/-! ## Completions and intake (R336-R342) -/

/-- Form a completion for a message that is not in progress. -/
def Pkg.answerNow (s : Pkg) (m seq op : Nat) (st : Status) (orig : Nat) (r tag : Nat) (result : List Nat) : Pkg :=
  s.form m { seq := seq, op := op, status := st.ctorIdx, orig := orig, reason := r, qdepth := s.inflight m, tag := tag, result := result }

/-- A new message that completes at once: its SEQ is consumed and its outcome cached. -/
def Pkg.answerNew (s : Pkg) (m seq op tag : Nat) (st : Status) (r : Reason) (result : List Nat := []) : Pkg :=
  let s := s.updMail m fun x => { x with cache := cachePut x.cache { seq := seq, op := op, status := some st, reason := r, result := result } }
  let s := if st = .busy then s.inc .MBX_MSG_BUSY m else s
  s.answerNow m seq op st 0 r.ctorIdx tag result

/-- A duplicate (R339). Where the cache holds nothing of that SEQ any more, what it would have held is not defined. -/
def Pkg.duplicate (s : Pkg) (m seq op tag : Nat) : Pkg :=
  let s := s.inc .MBX_MSG_DUP m
  match (s.mail m).cache.find? fun e => e.seq == seq with
  | some e =>
    match e.status with
    | some st => s.answerNow m seq op .duplicate st.ctorIdx e.reason.ctorIdx tag e.result
    | none => s.answerNow m seq op .duplicate 15 0 tag []
  | none =>
    let (o, s) := s.draw 4
    let (r, s) := s.draw 8
    let (l, s) := s.draws 8 16
    s.answerNow m seq op .duplicate o r tag l

/-- A new message (Table 167a, d = 0): its SEQ is consumed; it is turned away, answered by the hardware while no firmware is there, or
accepted, with a work item. -/
def Pkg.intakeNew (s : Pkg) (m : Nat) (seq last : Nat) (body : List Nat) : Pkg :=
  let b := fun (k : Nat) => body.getD k 0
  let tag := leOf ((body.drop 8).take 8)
  let s := s.p .MBX_SEQ m (seq + 1)
  let j : Msg := { seq := seq, op := b 0, prio := min (b 1 % 4) (s.g .MBX_CTRL_PRIO m), inst := b 2 % 16, flags := b 3
                   args := (body.drop 16).take (b 4 + 256 * b 5), tag := tag, order := s.jobs }
  if s.masterFailed then s.answerNew m seq j.op tag .fault .mpFailed
  else if (cmdShape j.op).isNone then s.answerNew m seq j.op tag .rejected .badOpcode
  else if !msgOk j body last s.part.model.dies then s.answerNew m seq j.op tag .rejected .badArgs
  else if !s.b .MBX_PKG_STAT_FW_READY 0 then s.answerNew m seq j.op tag .busy .notReady (List.replicate 8 0)
  else
    let s := { s with jobs := s.jobs + 1 }.updMail m fun x =>
      { x with run := x.run ++ [j], cache := cachePut x.cache { seq := seq, op := j.op, status := none } }
    s.newItem (.cmd m seq) j.prio (if namesInst j.op then some j.inst else none)

/-- The device overwrites the key bytes of a KEY_EF_PROGRAM or KEY_BB_WRITE message in the ring (R347). -/
def Pkg.wipeKey (s : Pkg) (m pos op : Nat) : Pkg :=
  if op = 0x60 ∨ op = 0x61 then s.ringWrite m 0 (pos % s.ringN m * 64 + 24) (List.replicate 32 0) else s

/-- A whole message reaches intake (R338). -/
def Pkg.intake (s : Pkg) (m : Nat) (a : Asm) : Pkg :=
  let s := ((s.updMail m fun x => { x with asm := none }).inc .MBX_SLOT_USED m a.n).inc .MBX_MSG_IN m
  let op := a.body.getD 0 0
  let tag := leOf ((a.body.drop 8).take 8)
  let s := s.wipeKey m a.pos op
  let d := dist16 a.seq (s.g .MBX_SEQ m)
  if d = 0 then s.intakeNew m a.seq a.last a.body
  else if 65280 ≤ d then s.duplicate m a.seq op tag
  else if 32768 ≤ d then s.answerNow m a.seq op .rejected 0 Reason.seqStale.ctorIdx tag []
  else s.answerNow m a.seq op .rejected 0 Reason.seqGap.ctorIdx tag []

/-- Discard the message being assembled: its slots count as discarded. -/
def Pkg.dropAsm (s : Pkg) (m : Nat) : Pkg :=
  match (s.mail m).asm with
  | some a => (s.updMail m fun x => { x with asm := none }).inc .MBX_SLOT_DISC m a.n
  | none => s

/-- The mailbox takes slots now: enabled, a slot posted, below MAXQ, the pool not empty, and die 0's MP not restarting (R342, R350, R368). -/
def Pkg.intakeOpen (s : Pkg) (m : Nat) : Bool :=
  s.b .MBX_CTRL_EN m && dist16 (s.g .MBX_CMD_TAIL m) (s.g .MBX_CMD_HEAD m) != 0 && decide (s.inflight m + s.cplPend m < s.maxq m) &&
  s.g .SCH_POOL 0 != 0 && s.g .MBX_MP_STAT_STATE 0 != 3

/-- A slot taken at place `pos` (R336). -/
def Pkg.slotIn (s : Pkg) (m pos : Nat) (x : MSlot) : Pkg :=
  if !(x.magicOk && x.chkOk) then
    let seq := match (s.mail m).asm with | some a => a.seq | none => x.seq
    let s := (((s.p .MBX_STAT_SLOT_ERR m 1).dropAsm m).inc .MBX_SLOT_DISC m).inc .MBX_MSG_DISC m
    s.answerNow m seq 0 .rejected 0 Reason.slotCheck.ctorIdx 0 []
  else
    let go := fun (s : Pkg) (a : Asm) => if a.last < a.n then s.intake m a else s.updMail m fun y => { y with asm := some a }
    if x.idx = 0 then go (s.dropAsm m) { seq := x.seq, last := x.last, n := 1, body := x.body, pos := pos }
    else match (s.mail m).asm with
      | some a => if x.seq = a.seq ∧ x.idx = a.n then go s { a with n := a.n + 1, body := a.body ++ x.body } else s.inc .MBX_SLOT_DISC m
      | none => s.inc .MBX_SLOT_DISC m

/-- SLOT_TAKE: the device takes the next posted slot of mailbox `m`; `fetched` is what its transfer brought from host memory. -/
def Pkg.slotTake (s : Pkg) (m : Nat) (fetched : List Nat) : Pkg :=
  if s.intakeOpen m then
    let pos := s.g .MBX_CMD_HEAD m
    let x := slotOf (s.slotBytes m pos fetched)
    (s.inc .MBX_CMD_HEAD m).slotIn m pos x
  else s

/-- PARTIAL_MESSAGE_TIMEOUT: 50 ms after its first slot the message is discarded. -/
def Pkg.partialTimeout (s : Pkg) (m : Nat) : Pkg :=
  match (s.mail m).asm with
  | some a =>
    ((s.dropAsm m).inc .MBX_MSG_DISC m).answerNow m a.seq (a.body.getD 0 0) .rejected 0 Reason.incomplete.ctorIdx (leOf ((a.body.drop 8).take 8)) []
  | none => s

/-! ## Rings (R332, R337, R340, R349) -/

/-- DOORBELL: a new TAIL, or the cause of its refusal. Slots that it posts or takes back count. -/
def Pkg.doorbell (s : Pkg) (m v : Nat) : Nat ⊕ Pkg :=
  let gap := dist16 v (s.g .MBX_CMD_HEAD m)
  if s.ringN m < gap then .inl 5
  else
    let old := dist16 (s.g .MBX_CMD_TAIL m) (s.g .MBX_CMD_HEAD m)
    .inr ((s.p .MBX_CMD_TAIL m v).inc .MBX_SLOT_POSTED m (2 ^ 32 + gap - old))

/-- CPL_HEAD_WRITE. -/
def Pkg.cplHead (s : Pkg) (m v : Nat) : Nat ⊕ Pkg :=
  if s.ringN m < dist16 (s.g .MBX_CPL_TAIL m) v then .inl 5 else .inr (s.p .MBX_CPL_HEAD m v)

/-- A completion entry as 32 byte values (Table 166). -/
def Cpl.entry (c : Cpl) (phase : Nat) : List Nat :=
  leVals c.seq 2 ++ [c.op, c.status + 16 * c.orig, c.reason, c.qdepth, phase, 0] ++ leVals c.tag 8 ++ (List.range 16).map fun k => c.result.getD k 0

/-- COMPLETION_WRITE: the oldest completion that waits goes into the ring when there is room. -/
def Pkg.cplWrite (s : Pkg) (m : Nat) : Pkg :=
  match (s.mail m).cplq with
  | [] => s
  | c :: l =>
    if dist16 (s.g .MBX_CPL_TAIL m) (s.g .MBX_CPL_HEAD m) < s.ringN m then
      let n := (s.mail m).wrote
      let bytes := (c.entry (1 - n / s.ringN m % 2)).map (BitVec.ofNat 8)
      let s := s.ringWrite m 0x2000 (s.g .MBX_CPL_TAIL m % s.ringN m * 32) bytes
      let s := ((s.updMail m fun x => { x with cplq := l, wrote := n + 1 }).inc .MBX_CPL_TAIL m).inc .MBX_CPL_WR m
      if s.b .MBX_CTRL_IRQ_EN m then s.raiseVec m else s
    else s

/-- FETCH_RETRY: a transfer of mailbox `m`'s rings in host memory fails and is tried again. -/
def Pkg.fetchRetry (s : Pkg) (m : Nat) : Pkg := if s.b .MBX_CTRL_ONCHIP m then s else (s.p .MBX_STAT_FETCH_ERR m 1).incSat .SCH_DMA_RETRY 0

/-- MAILBOX_RESET: the cause of its refusal, or the mailbox afresh with EXPECTED as it was. -/
def Pkg.mailReset (s : Pkg) (m : Nat) : Nat ⊕ Pkg :=
  if s.b .MBX_CTRL_EN m ∨ s.inflight m ≠ 0 ∨ s.cplPend m ≠ 0 then .inl 4
  else .inr ((s.setMail m {}).each [.MBX_CMD_TAIL, .MBX_CMD_HEAD, .MBX_CPL_TAIL, .MBX_CPL_HEAD, .MBX_SLOT_POSTED, .MBX_SLOT_USED, .MBX_SLOT_DISC,
    .MBX_MSG_IN, .MBX_MSG_DISC, .MBX_CPL_WR, .MBX_MSG_DUP, .MBX_MSG_BUSY] fun s f => s.p f m 0)

/-- An event entry as 32 byte values (R349). -/
def Evt.entry (e : Evt) (phase : Nat) : List Nat :=
  leVals e.num 2 ++ [e.typ, e.inst.getD 0 + 16 * b2n e.inst.isSome, 0, 0, phase, 0] ++ (List.range 24).map fun k => e.data.getD k 0

/-- EVENT_WRITE: the oldest event goes into the event ring when there is room; lost events are then told by one LOST entry. -/
def Pkg.eventWrite (s : Pkg) : Pkg :=
  let n := 2 ^ s.g .MBX_EVT_CTRL_LOG2N 0
  match s.evts with
  | [] => s
  | e :: l =>
    if s.b .MBX_EVT_CTRL_EN 0 ∧ dist16 (s.g .MBX_EVT_TAIL 0) (s.g .MBX_EVT_HEAD 0) < n then
      let bytes := (e.entry (1 - s.g .MBX_EVT_WR 0 / n % 2)).map (BitVec.ofNat 8)
      let s := { s with host := writeBytes s.host (s.g .MBX_EVT_BASE 0 + s.g .MBX_EVT_TAIL 0 % n * 32) bytes, evts := l }
      let s := (s.inc .MBX_EVT_TAIL 0).inc .MBX_EVT_WR 0
      let s := if s.b .MBX_EVT_CTRL_IRQ_EN 0 then s.raiseVec 16 else s
      if s.evtLost = 0 then s else { s with evtLost := 0 }.event 15 none (leVals s.evtLost 4)
    else s

/-! ## Watchdog and restart (R350, R351, Tables 172 and 173) -/

/-- Commands that have begun end FAULT: those of die `d`'s MP, an MP_RESTART excepted. -/
def Pkg.endBegun (s : Pkg) (d : Nat) (r : Reason) : Pkg :=
  let l := s.allJobs.filter fun e => e.2.started && e.2.die == d && e.2.op != 0x70
  let gone := fun (m seq : Nat) => l.any fun e => e.1 == m && e.2.seq == seq
  let s := s.each l fun s e => s.failCmd e.1 e.2.seq r
  { s with sends := s.sends.map (fun x => if !x.deferred && gone x.mbx x.seq then { x with ended := true } else x), recvs := s.recvs.filter fun x => !gone x.mbx x.seq }

/-- Work items on engine `e` return to the ready list. -/
def Pkg.itemsBack (s : Pkg) (e : Nat) : Pkg :=
  ({ s with sch.items := s.sch.items.map fun (x : Item) => if x.engine == some e then { x with engine := none } else x }).engIdle e

/-- The MP of die `d` restarts (Table 172 from its second row): a halt ends, commands it executed end, its items return, and a relocation
copy on the die is abandoned. RST_HALT holds it before its first instruction (R419). -/
def Pkg.mpRestart (s : Pkg) (d : Nat) : Pkg :=
  let s := (s.ps [(.MBX_MP_STAT_STATE, d, 3), (.DBG_MP_STAT_HALTED, d, 0)]).endBegun d .mpRestart
  let moved := (List.range 16).filter fun i => match Store.get none s.reloc i with
    | some r => d == 0 || r.moves.any fun e => e.2.1 / 64 == d
    | none => false
  let s := (s.each moved Pkg.relocAbandon).itemsBack d
  if s.b .DBG_MP_CTL_RST_HALT d then s.mpHalt d 5 else s

/-- WDOG_EXPIRY: not while debug holds the MP, unless WDOG_RUN is 1 (R417). The package master is notified of another die's. -/
def Pkg.wdogExpiry (s : Pkg) (d : Nat) : Pkg :=
  if s.g .MBX_MP_STAT_STATE d = 2 ∧ (!s.b .DBG_MP_STAT_HALTED d ∨ s.b .DBG_MP_CTL_WDOG_RUN d) then
    let s := ((s.incSat .MBX_WDOG_CNT d).p .MBX_MP_STAT_WDOG_EXP d 1).raiseVec 17
    (if d = 0 then s else s.notify 0 .watchdog d).mpRestart d
  else s

/-- MP_RESTART commands that name die `d`. -/
def Pkg.restartJobs (s : Pkg) (d : Nat) : List (Nat × Msg) := s.allJobs.filter fun e => e.2.started && e.2.op == 0x70 && e.2.arg 0 1 == d

/-- MP_REBOOT_DONE. -/
def Pkg.mpRebooted (s : Pkg) (d : Nat) : Pkg :=
  if s.g .MBX_MP_STAT_STATE d = 3 ∧ !s.b .DBG_MP_STAT_HALTED d then
    let s := ((s.p .MBX_MP_STAT_STATE d 2).incSat .MBX_MP_RESTART_CNT d).event 6 none [d, 0]
    s.each (s.restartJobs d) fun s e => s.done e.1 e.2.seq
  else s

/-- MP_FAILED: the MP was not READY 600 ms after its expiry. -/
def Pkg.mpFailed (s : Pkg) (d : Nat) : Pkg :=
  if s.g .MBX_MP_STAT_STATE d = 3 then
    let s := (((s.p .MBX_MP_STAT_STATE d 4).event 6 none [d, 1]).raiseVec 17)
    let s := s.each (s.restartJobs d) fun s e => s.failCmd e.1 e.2.seq .mpFailed
    if d ≠ 0 then s.faultDie d
    else
      let s := (s.each (List.range 16) fun s i => s.fault i .engineFault).p .MBX_PKG_STAT_MASTER_FAILED 0 1
      let s := s.lqDiscard (fun _ => true) .fault .mpFailed
      let s := s.each s.allJobs fun s e => s.failCmd e.1 e.2.seq .mpFailed
      { s with sends := s.sends.map (fun x => { x with ended := x.ended || !x.deferred }), recvs := [] }
  else s

end Sys2Proof.Machine
end

