-- ==== Sys2Proof/Machine/Bus.lean ====
section
/-!
DEFINITION. The service-address space (R312-R326): one access of a register, of the bit-alias window or of a window, by the access type of every
field and the rules of every register, and the record of each refusal.
-/
namespace Sys2Proof.Machine

/-! ## Refusals (R326) -/

/-- Code of an initiator in headers and records (Table 193): the remote gateway that every die has is numbered 0x60 + die within the model. -/
def initCode (init : Nat) : Nat := if 0x60 ≤ init ∧ init < 0x68 then 0x60 else init

/-- Record a refused access in the block's registers. `k` is the index of its common registers. -/
def Pkg.record (s : Pkg) (k cause : Nat) (a : BusReq) (alias_ : Bool) : Pkg :=
  let s := s.incSat .BLK_ERR_CNT k
  if s.b .BLK_ERR_VALID k then s
  else s.ps [(.BLK_ERR_CAUSE, k, cause), (.BLK_ERR_WRITE, k, b2n a.write), (.BLK_ERR_ALIAS, k, b2n alias_), (.BLK_ERR_INITIATOR, k, initCode a.init),
    (.BLK_ERR_INST, k, a.inst.getD 0), (.BLK_ERR_ADDR, k, a.off), (.BLK_ERR_VALID, k, 1)]

/-- Refuse an access. -/
def Pkg.refuse (s : Pkg) (b : Blk) (d cause : Nat) (a : BusReq) (alias_ : Bool := false) : BusRsp × Pkg :=
  ({ err := cause }, s.record (b.common d) cause a alias_)

/-! ## Register writes (R317, R319) -/

/-- What a write of the bits `m` of word `w` gives a field: the new value of an RW or RWB field, the bits written of a W1C or WO field. -/
def Pkg.fieldWord (s : Pkg) (f : FieldSpec) (idx w m : Nat) : Nat :=
  let n := f.hi - f.lo + 1
  let v := bits w f.lo n
  let u := bits m f.lo n
  match f.acc, f.fld with
  | .RW, some x => under (if x = .DBG_MP_REG then s.mpReg idx (s.g .DBG_MP_REG_SEL idx) else s.g x (f.index idx)) v u
  | .RWB, some x => under (s.lastWritten x (f.index idx)) v u
  | .RO, _ => 0
  | _, _ => v &&& u

/-- The word that a write makes of the whole register. -/
def Pkg.fullWord (s : Pkg) (r : RegSpec) (idx w m : Nat) : Nat := r.fields.foldl (fun v f => v + s.fieldWord f idx w m * 2 ^ f.lo) 0

/-- The write of one field, by its access type; `m` masks the bits of the word that the write names. -/
def Pkg.writeField (s : Pkg) (f : FieldSpec) (idx v m : Nat) : Pkg :=
  match f.fld with
  | none => s
  | some x =>
    let k := f.index idx
    let v := bits v f.lo (f.hi - f.lo + 1)
    match f.acc with
    | .RW => s.p x k v
    | .W1C => s.p x k (s.g x k - (s.g x k &&& v))
    | .RWB => s.bufWrite x k v (bits m f.lo (f.hi - f.lo + 1))
    | _ => s

/-- The write of every field of a register, where no rule says more. -/
def Pkg.writeFields (s : Pkg) (r : RegSpec) (idx v m : Nat) : Pkg := s.each r.fields fun s f => s.writeField f idx v m

/-- A field that a write can change or act on. -/
def FieldSpec.writable (f : FieldSpec) : Bool := f.acc != .RO

/-- LNK_PORT_CTRL.EN as a write leaves it (R254): a port with an owner leaves OFF; without EN it is OFF. -/
def Pkg.portEn (s : Pkg) (q : Nat) (on : Bool) : Pkg :=
  let s := s.pb .LNK_PORT_CTRL_EN q on
  if on then (if s.portSt q = .off ∧ (s.portOwner q).isSome then s.setPortSt q .wait else s)
  else if s.portSt q = .off then s
  else ((s.portDiscard q).portDisable q).setPortSt q .off

/-- The port carries a cascade commit exchange (R192). -/
def Pkg.commitOn (s : Pkg) (q : Nat) : Bool := s.waiting && (s.upPort == some q || s.downPorts.contains q)

/-- The DIE rule of a comparator write (R300). -/
def Pkg.cmpDieOk (s : Pkg) (die : Nat) : Bool :=
  if s.traced.isSome then s.engOwned die else decide (die < s.part.model.dies)

/-- A comparator word is in the ranges of R300 and Table 147. -/
def cmpWordOk (w : Nat) : Bool :=
  let pos := bits w 0 17
  let op := bits w 22 4
  if bit w 20 then decide (4 ≤ op) && decide (op ≤ 10) && pos % 16 == 0 && decide (pos ≤ 65776)
  else decide (op ≤ 3) && decide (pos < 65792)

/-- A result whose refusal comes second. -/
def orElseCause (r : Pkg × Option Nat) : Nat ⊕ Pkg := match r with | (_, some c) => .inl c | (s, none) => .inr s

/-- The rules of each register's write: the cause of its refusal, or the state it leaves. `v` is the word as `fullWord` makes it, `m` masks
the bits that the write names. -/
def Pkg.regAct (s : Pkg) (init : Nat) (r : RegSpec) (idx v m : Nat) : Nat ⊕ Pkg :=
  let all := s.writeFields r idx v m
  let bar (c : Bool) (n : Nat) (t : Nat ⊕ Pkg) : Nat ⊕ Pkg := if c then .inl n else t
  match r.reg with
  | .ARY_RUN_CTL => .inr (s.runCtl idx v)
  | .WU_INST_EXC => .inr (if bit v 0 then all.p .WU_INST_EXC_FIRST_VALID idx 0 else all)
  | .WU_EXC_FLAGS => .inr (all.wuFlagsCleared idx)
  | .CAV_OWN => orElseCause (s.ownWrite idx init (bits v 4 2) (bits v 0 4))
  | .CAV_ATOM_CMD => orElseCause (s.atomWrite idx init (bits v 0 14) (bits v 14 2) (bits v 16 16))
  | .CAV_MARCH_CTL => if bit v 0 then orElseCause (s.marchStart idx (bits v 1 1) (bits v 16 16)) else .inr s
  | .QUE_HBM_CFG => bar (decide (60 < bits v 0 6 + bits v 8 6)) 5 (.inr all)
  | .QUE_SEG_OWN =>
    match s.segOwnRefuse init idx (bits v 4 3) with
    | some c => .inl c
    | none => .inr (s.segOwnSet idx (bits v 4 3) (bits v 0 4))
  | .IOC_CELL_CFG =>
    bar (s.cellOwner idx).isNone 4 (bar ((bit v 7 && bits v 8 2 != 0) || bits v 8 2 == 3) 5 (.inr all))
  | .LNK_LANE_CTRL =>
    if bits m 1 2 ≠ 0 ∧ bits v 1 2 = 3 then .inl 5
    else
      let s := (s.p .LNK_LANE_CTRL_MODE_MAX idx (bits v 3 1)).laneEn idx (bit v 0)
      let s := if bits m 1 2 = 0 then s else s.tgtWrite idx (bits v 1 2)
      let s := if bit v 5 then s.laneFaultClr idx else s
      .inr (if bit v 4 then s.laneRetrain idx else s)
  | .LNK_LANE_TXEQ => bar (decide (64 < bits v 0 6 + bits v 8 6 + bits v 16 6)) 5 (.inr all)
  | .LNK_PRBS_CFG =>
    if bits v 0 3 = 7 ∨ bits v 3 3 = 7 ∨ bits v 10 2 = 3 then .inl 5
    else if s.prbsRefused idx v (s.commitOn (lanePort idx)) then .inl 4
    else
      let s := s.prbsWrite idx v
      .inr (if bit v 12 then s.injShot idx else s)
  | .LNK_PORT_CTRL =>
    if bits m 3 2 ≠ 0 ∧ bits v 3 2 = 3 then .inl 5
    else if bit v 1 ∧ s.portClrRefused idx then .inl 4
    else
      let s := if s.b .LNK_PORT_CTRL_EN idx = bit v 0 then s else s.portEn idx (bit v 0)
      let s := if bits m 3 2 = 0 ∨ s.lastWritten .LNK_PORT_CTRL_LP idx = bits v 3 2 ∧ s.portSt idx ≠ .lowpwr then s else s.lpWrite idx (bits v 3 2)
      let s := if bit v 1 then s.portFaultClr idx else s
      let s := if bit v 5 then s.updPort idx fun x => { x with realign := true } else s
      .inr (if bit v 2 then s.portSnap idx else s)
  | .CFG_CTRL =>
    let s := if bit v 0 then s.cfgAbort else s
    .inr (if bit v 1 then s.errPin false else s)
  | .WHY_RING_RPTR => s.ringRptr idx v
  | .WHY_CAP_CTL =>
    let s := s.capCtl (bit v 0) (bit v 1)
    .inr (if bit v 2 then s.wheySnap else s)
  | .RNT_CMP_SRC => bar (!(cmpWordOk v && s.cmpDieOk (bits v 17 3))) 5 (.inr all)
  | .MBX_WDOG_CFG => bar (!(init == idx || init == 0)) 4 (.inr all)
  | .MBX_WDOG_KICK => bar (bit v 0 && init != idx) 4 (.inr s)
  | .MBX_CTRL =>
    if bit v 5 ∧ s.part.model ≠ .gl8 then .inl 5
    else if s.b .MBX_CTRL_EN idx ∧ bit v 1 ≠ s.b .MBX_CTRL_ONCHIP idx then .inl 4
    else match (if bit v 2 then s.mailReset idx else .inr s : Nat ⊕ Pkg) with
      | .inl c => .inl c
      | .inr s => .inr (s.writeFields r idx v m)
  | .MBX_RING_CFG => bar (s.b .MBX_CTRL_EN idx) 4 (bar (!(decide (4 ≤ v) && decide (v ≤ 12))) 5 (.inr all))
  | .MBX_CMD_BASE | .MBX_CPL_BASE => bar (s.b .MBX_CTRL_EN idx) 4 (.inr all)
  | .MBX_CMD_TAIL => s.doorbell idx v
  | .MBX_CPL_HEAD => s.cplHead idx v
  | .MBX_EVT_CTRL =>
    let n := bits v 1 4
    if (bit v 6 ∧ s.part.model ≠ .gl8) ∨ n < 4 ∨ 12 < n then .inl 5
    else bar (s.b .MBX_EVT_CTRL_EN 0 && n != s.g .MBX_EVT_CTRL_LOG2N 0) 4 (.inr all)
  | .MSIX_CTL => .inr (s.vecMask idx (bit v 0))
  | .SCH_CTRL => .inr (if bit v 0 then s.schSnap else s)
  | .SCH_ENG_CTRL => .inr (if bit v 0 then s.engReturn idx else s)
  | .SCH_FLOW_CFG | .SCH_FLOW_BUF => bar (s.g .SCH_FLOW_STAT_STATE idx != 0) 4 (.inr all)
  | .SCH_FLOW_HOST => s.hostPtr idx v
  | .SCH_FLOW_ANS_HI => s.callAnswer idx none v
  | .SVC_PD_CTL => s.pdCtl idx (bits v 0 2)
  | .TIM_CTRL => bar (v % 4 == 3) 5 (.inr (s.timMode v))
  | .TIM_RATE => bar (s.g .TIM_CTRL 0 == 1) 4 (.inr (s.rateWrite v))
  | .TIM_PTP_CFG => bar (s.g .TIM_CTRL 0 == 1) 4 (bar (bits v 1 2 == 3) 5 (.inr all))
  | .TIM_LQ_PUSH => .inr (if bit v 0 then s.lqPushReg else s)
  | .TIM_LQ_CANCEL => match s.lqCancel (v % 64) with | some t => .inr t | none => .inl 4
  | .ADC_CTRL => s.adcCtrl idx init v
  | .ADC_CFG => s.adcCfg idx init v
  | .ADC_MON_THR => bar (!isMp init) 4 (.inr all)
  | .ADC_CLK_CFG => s.rootWrite v
  | .ADC_REF_CTRL =>
    let (far, s) := s.draw 1
    s.refCtrl v (far == 1)
  | .DBG_PORT_CTL => bar (isDebug init) 4 (.inr all)
  | .DBG_XT_SRC => .inr (if idx / 4 = 0 then all else s.p .DBG_XT_SRC_MP_HALT idx (bits v 8 1))
  | .DBG_XT_SINK => .inr (if idx / 4 = 0 then all else s.p .DBG_XT_SINK_HALT_MP idx (bits v 0 1))
  | .DBG_XT_PULSE => .inr (s.xtPulse (v % 16))
  | .DBG_MP_CTL => .inr (s.mpCtl idx v)
  | .DBG_MP_REG_SEL => bar (decide (34 < v)) 5 (.inr all)
  | .DBG_MP_REG => bar (s.mpBarred idx init) 4 (.inr (s.mpRegSet idx (s.g .DBG_MP_REG_SEL idx) v))
  | .DBG_MP_FEED => bar (s.mpBarred idx init) 4 (.inr (s.feedAny idx))
  | .DBG_WP_CTL => s.wpCtl idx v
  | .DBG_PATCH_CTL => bar (s.patchBarred (idx / 16) init) 4 (.inr all)
  | .DBG_PATCH_DATA => bar (s.patchBarred (idx / 256) init) 4 (.inr all)
  | .DBG_PATCH_LOCK => s.patchLock idx init v
  | .DBG_INST_CTL => .inr (s.instCtl idx v)
  | _ => .inr all

/-- TIM_ADJ (R405, Table 202): the low word waits, the high word applies the offset. -/
def Pkg.timAdj (s : Pkg) (w m : Nat) : Nat ⊕ Pkg :=
  if s.g .TIM_CTRL 0 = 1 then .inl 4
  else
    let lo := under s.tim.adjLo (w % 2 ^ 32) (m % 2 ^ 32)
    let s := { s with tim := { s.tim with adjLo := lo } }
    .inr (if m / 2 ^ 32 = 0 then s else s.adjust (sgn 64 (lo + bits w 32 32 * 2 ^ 32)))

/-- A write of the bits `m` of word `w` to a register: the cause of its refusal, or the new state. -/
def Pkg.regWrite (s : Pkg) (init : Nat) (inst : Option Nat) (r : RegSpec) (idx w m : Nat) : Nat ⊕ Pkg :=
  match s.regGuard inst (r.unit idx) with
  | some c => .inl c
  | none =>
    if !(r.fields.any FieldSpec.writable) then .inl 3
    else if r.reg = .TIM_ADJ then s.timAdj w m
    else s.regAct init r idx (s.fullWord r idx w m) m

/-- A write to two registers that make a pair, as one write: refused whole if either half is (R321). -/
def Pkg.pairWrite (s : Pkg) (init : Nat) (inst : Option Nat) (lo hi : RegSpec) (idx w : Nat) : Nat ⊕ Pkg :=
  match lo.reg with
  | .SCH_FLOW_ANS_LO =>
    match s.regGuard inst (lo.unit idx) with
    | some c => .inl c
    | none => s.callAnswer idx (some (w % 2 ^ 32)) (w / 2 ^ 32)
  | _ =>
    match s.regWrite init inst lo idx (w % 2 ^ 32) 0xFFFFFFFF with
    | .inl c => .inl c
    | .inr t => t.regWrite init inst hi idx (w / 2 ^ 32 % 2 ^ 32) 0xFFFFFFFF

/-! ## Register reads (R317, R321) -/

/-- Half a register as a read returns it. The LO word of LNK_STEP_CNT latches its HI word (R285), that of TIM_NT the whole instant (R397). -/
def Pkg.regRead (s : Pkg) (fu : Fuses) (r : RegSpec) (idx : Nat) (hi : Bool) : Nat × Pkg :=
  match r.reg, hi with
  | .LNK_STEP_CNT, false => s.psnap .LNK_STEP_CNT 0 (s.g .LNK_STEP_CNT 0) |>.regWord fu r idx false
  | .LNK_STEP_CNT, true => (s.gs .LNK_STEP_CNT 0 / 2 ^ 32, s)
  | .TIM_NT, false => s.ntLatch.regWord fu r idx false
  | _, _ => s.regWord fu r idx hi

/-! ## One access -/

/-- A 4-byte access to what stands at a place of the register space. -/
def Pkg.wordAccess (s : Pkg) (fu : Fuses) (a : BusReq) (r : RegSpec) (idx : Nat) (hi : Bool) : Nat ⊕ (List Nat × Pkg) :=
  if a.write then
    match s.regWrite a.init a.inst r idx (if hi then a.word 0 * 2 ^ 32 else a.word 0) (if hi then 0xFFFFFFFF * 2 ^ 32 else 0xFFFFFFFF) with
    | .inl c => .inl c
    | .inr t => .inr ([], t)
  else match s.regGuard a.inst (r.unit idx) with
    | some c => .inl c
    | none =>
      let (v, t) := s.regRead fu r idx hi
      .inr ([v], t)

/-- An 8-byte access to a pair: one register of 64 bits, or two of 32. -/
def Pkg.pairAccess (s : Pkg) (fu : Fuses) (a : BusReq) (lo hi : RegSpec) (idx : Nat) : Nat ⊕ (List Nat × Pkg) :=
  let w := a.word 0 + a.word 1 * 2 ^ 32
  if a.write then
    match (if lo.wide then s.regWrite a.init a.inst lo idx w (2 ^ 64 - 1) else s.pairWrite a.init a.inst lo hi idx w) with
    | .inl c => .inl c
    | .inr t => .inr ([], t)
  else match s.regGuard a.inst (lo.unit idx) with
    | some c => .inl c
    | none =>
      let (v, t) := s.regRead fu lo idx false
      let (u, t) := t.regRead fu hi idx lo.wide
      .inr ([v, u], t)

/-- The frame buffer of the time unit (R413): `n` words from `o`. -/
def Pkg.frameAccess (s : Pkg) (a : BusReq) (o : Nat) : List Nat × Pkg :=
  let n := a.len / 4
  if a.write then
    ([], { s with tim := { s.tim with buf := (List.range n).foldl (fun m k =>
      writeBytes m (o + 4 * k) (leBytes (mergeWord (leNat (readBytes m (o + 4 * k) 4)) (a.word k) (a.wordBe k)) 4)) s.tim.buf } })
  else ((List.range n).map fun k => leNat (readBytes s.tim.buf (o + 4 * k) 4), s)

/-- Answer an access of a block: its refusal recorded, or its result. -/
def Pkg.settle (s : Pkg) (b : Blk) (d : Nat) (a : BusReq) (alias_ : Bool) (r : Nat ⊕ (List Nat × Pkg)) : BusRsp × Pkg :=
  match r with
  | .inl c => s.refuse b d c a alias_
  | .inr (l, t) => ({ data := l }, t)

/-- An access of the register space of die `d` at offset `o` (R315). -/
def Pkg.spaceAccess (s : Pkg) (fu : Fuses) (a : BusReq) (d o : Nat) : BusRsp × Pkg :=
  match slotAt o with
  | none => s.refuse .SVC d 1 a
  | some (b, kind, base) =>
    match slotLoc b kind d (o / 4 * 4 - base) with
    | .bad => s.refuse b d 1 a
    | .frame f =>
      if o % 4 ≠ 0 ∨ a.len % 4 ≠ 0 ∨ a.len < 4 ∨ 256 < a.len then s.refuse b d 2 a
      else if 0x10000 < f + a.len then s.refuse b d 1 a
      else s.settle b d a false (.inr (s.frameAccess a f))
    | .keep =>
      if o % 4 ≠ 0 ∨ a.len ≠ 4 ∨ !a.whole then s.refuse b d 2 a
      else s.settle b d a false (if a.write then .inl 3 else .inr ([0], s))
    | .reg r idx hi =>
      if o % 4 = 0 ∧ a.len = 4 ∧ a.whole then s.settle b d a false (s.wordAccess fu a r idx hi)
      else if o % 8 = 0 ∧ a.len = 8 ∧ a.whole ∧ !hi ∧ (r.wide ∨ (pairHi r.reg).isSome) then
        let other := match pairHi r.reg with | some n => (specOf b n).getD r | none => r
        s.settle b d a false (s.pairAccess fu a r other idx)
      else s.refuse b d 2 a

/-- A write through the bit-alias window of bit `n` of half a register (R323). -/
def Pkg.aliasWrite (s : Pkg) (fu : Fuses) (a : BusReq) (r : RegSpec) (idx : Nat) (hi : Bool) (n : Nat) : Nat ⊕ (List Nat × Pkg) :=
  let n := if hi then n + 32 else n
  let on := bit (a.word 0) 0
  let fld := r.fields.find? fun f => decide (f.lo ≤ n) && decide (n ≤ f.hi)
  let acc : Acc := match fld with | some f => f.acc | none => .RO
  let only := (s.regWord fu r idx false).1 + (if r.wide then (s.regWord fu r idx true).1 else 0) * 2 ^ 32
  let held := r.fields.foldl (fun (m : Nat) f => if f.acc = .RW ∨ f.acc = .RWB then m + (2 ^ (f.hi - f.lo + 1) - 1) * 2 ^ f.lo else m) 0
  let half := if hi then 0xFFFFFFFF * 2 ^ 32 else 0xFFFFFFFF
  let word := under (only &&& held &&& half) (if on then 2 ^ n else 0) (2 ^ n)
  match s.regGuard a.inst (r.unit idx) with
  | some c => .inl c
  | none =>
    if !(r.fields.any FieldSpec.writable) then .inl 3
    else if acc = .RO then .inr ([], s)
    else match s.regWrite a.init a.inst r idx word half with
      | .inl c => .inl c
      | .inr t => .inr ([], if !on && (acc == Acc.WO || acc == Acc.W1C) then s else t)

/-- An access of the bit-alias window of die `d` at offset `o` in it (R322, R323). -/
def Pkg.aliasAccess (s : Pkg) (fu : Fuses) (a : BusReq) (d o : Nat) : BusRsp × Pkg :=
  let reg := o / 128 * 4
  let n := o / 4 % 32
  match slotAt reg with
  | none => s.refuse .SVC d 1 a true
  | some (b, kind, base) =>
    let bad := o % 4 != 0 || a.len != 4 || !a.whole
    match slotLoc b kind d (reg - base) with
    | .bad | .frame _ => s.refuse b d 1 a true
    | .keep =>
      if bad then s.refuse b d 2 a true else s.settle b d a true (if a.write then .inl 3 else .inr ([0], s))
    | .reg r idx hi =>
      if bad then s.refuse b d 2 a true
      else if a.write then s.settle b d a true (s.aliasWrite fu a r idx hi n)
      else s.settle b d a true (match s.regGuard a.inst (r.unit idx) with
        | some c => .inl c
        | none => let (v, t) := s.regRead fu r idx hi; .inr ([b2n (bit v n)], t))

/-- The window's chapter permits writes, and so byte enables (R315). -/
def Win.writable : Win → Bool
  | .data | .cave | .wuState | .sram => true
  | .wuStore | .route | .tier | .rom => false

/-- Why word `k` of a window access is refused. -/
def Pkg.winWordRefuse (s : Pkg) (w : Win) (d off size : Nat) (a : BusReq) (k : Nat) : Option Nat :=
  let o := off + 4 * k
  if size ≤ o then some 1
  else if s.foreign a.inst (winUnit w d o) then some 4
  else s.winRefuse w d o a.init a.write (a.word k) (a.wordBe k)

/-- Words of a window. -/
def Pkg.winWords (s : Pkg) (w : Win) (d off : Nat) : Nat → List Nat × Pkg
  | 0 => ([], s)
  | n + 1 =>
    let (v, s) := s.winRead w d off
    let (l, s) := s.winWords w d (off + 4) n
    (v :: l, s)

/-- An access of a window of die `d` (R315): every word is checked before any is read or written. -/
def Pkg.winAccess (s : Pkg) (a : BusReq) (d : Nat) (w : Win) (off size : Nat) (b : Blk) : BusRsp × Pkg :=
  if off % 4 ≠ 0 ∨ a.len % 4 ≠ 0 ∨ a.len < 4 ∨ 256 < a.len ∨ (!w.writable ∧ !a.whole) then s.refuse b d 2 a
  else match (List.range (a.len / 4)).findSome? fun k => s.winWordRefuse w d off size a k with
    | some c => s.refuse b d c a
    | none =>
      if a.write then ({}, s.each (List.range (a.len / 4)) fun s k => s.winWrite w d (off + 4 * k) (a.word k) (a.wordBe k))
      else
        let (l, t) := s.winWords w d off (a.len / 4)
        ({ data := l }, t)

/-- An access is performed at its target (R312, R313). -/
def Pkg.busAccess (s : Pkg) (fu : Fuses) (a : BusReq) : BusRsp × Pkg :=
  let d := a.die
  let o := a.off
  if s.part.model.dies ≤ d then s.refuse .SVC 0 1 a
  else if o < regSpace then s.spaceAccess fu a d o
  else if aliasBase ≤ o ∧ o < aliasBase + 2 ^ 31 then s.aliasAccess fu a d (o - aliasBase)
  else match winAt o with
    | some (w, off, size, b) => s.winAccess a d w off size b
    | none => s.refuse .SVC d 1 a

/-! ## The way of a request (R382, R422) -/

/-- Die of an initiator (Table 193). -/
def initDie (init : Nat) : Nat :=
  if init < 8 then init
  else if isDma init then (init - 8) / 4
  else if init = 0x31 then 4
  else if (0x40 ≤ init ∧ init < 0x50) ∨ (0x60 ≤ init ∧ init < 0x68) then init % 8
  else 0

/-- Dies that a packet passes from `a` to `b` on a grid of `c` columns: along the row, then along the column. -/
def diePath (c a b : Nat) : List Nat :=
  let range := fun (x y : Nat) => if x ≤ y then (List.range (y - x + 1)).map (x + ·) else ((List.range (x - y + 1)).map (y + ·)).reverse
  (range (a % c) (b % c)).map (fun k => a / c * c + k) ++ ((range (a / c) (b / c)).drop 1).map fun k => k * c + b % c

/-- Every die that removes the request at one of its stops shows it to its watchpoints of source 2. -/
def Pkg.see (s : Pkg) (a : BusReq) : Pkg :=
  let d := if s.part.model.dies ≤ a.die then 0 else a.die
  s.each (diePath s.part.model.cols (initDie a.init) d) fun s e =>
    s.wpSee e { src := 2, write := a.write, addr := a.addr, n := a.len, inst := a.inst, init := initCode a.init, data := a.data }

/-- A request travels to its target and is performed there. -/
def Pkg.access (s : Pkg) (fu : Fuses) (a : BusReq) : BusRsp × Pkg := (s.see a).busAccess fu a

/-- A write of a register by its name, performed by `act`: its watchpoints, the die of the part, and the record of a refusal. -/
def Pkg.regCmdBy (s : Pkg) (b : Blk) (r : RegSpec) (idx init w half : Nat) (act : Pkg → Nat ⊕ Pkg) : Pkg :=
  let a : BusReq := { write := true, init := init, addr := r.addr idx + (if half = 1 then 4 else 0), len := if half = 2 then 8 else 4,
                      data := if half = 2 then [w % 2 ^ 32, w / 2 ^ 32] else [w % 2 ^ 32] }
  let s := s.see a
  if s.part.model.dies ≤ a.die then (s.refuse .SVC 0 1 a).2
  else match act s with
    | .inl c => (s.refuse b a.die c a).2
    | .inr t => t

/-- A write of word `w` to a register by its name, for the commands that are one: `half` 0 writes the low word, 1 the high word, 2 both. -/
def Pkg.regCmd (s : Pkg) (b : Blk) (n : Reg) (idx init w : Nat) (half : Nat := 0) : Pkg :=
  match specOf b n with
  | none => s
  | some r =>
    let word := if half = 1 then w % 2 ^ 32 * 2 ^ 32 else w
    let mask := if half = 0 then 0xFFFFFFFF else if half = 1 then 0xFFFFFFFF * 2 ^ 32 else 2 ^ 64 - 1
    s.regCmdBy b r idx init w half fun s => s.regWrite init none r idx word mask

end Sys2Proof.Machine
end

