-- ==== Sys2Proof/Machine/Rings.lean ====
section
/-!
DEFINITION. The service rings (R377-R387): requests, responses, timeouts and their counts, notifications, and requests to and from other
packages.
-/
namespace Sys2Proof.Machine

/-! ## Initiators (Table 193, R396) -/

/-- Index of an initiator's block among the local initiators, die*10 + k. -/
def localInit (init : Nat) : Option Nat :=
  if init < 8 then some (init * 10)
  else if isDma init then some ((init - 8) / 4 * 10 + 1 + (init - 8) % 4)
  else if init = 0x30 then some 5
  else if init = 0x31 then some 45
  else if isDebug init then some 6
  else if 0x60 ≤ init ∧ init < 0x68 then some (init % 8 * 10 + 7)
  else if isWhey init then some (init % 8 * 10 + 8)
  else if 0x48 ≤ init ∧ init ≤ 0x4F then some (init % 8 * 10 + 9)
  else none

/-- Highest priority of an initiator. -/
def prioCap (init : Nat) : Nat :=
  if init < 8 then 3
  else if isDma init || isWhey init then 1
  else if isHost init || isDebug init || initCode init == 0x60 then 2
  else 0

/-- The initiator stands on a die of the part. -/
def Pkg.hasInit (s : Pkg) (init : Nat) : Bool :=
  match localInit init with
  | some k => decide (k / 10 < s.part.model.dies)
  | none => false

/-- A tag is free: no request of it is outstanding, nor timed out and not yet released (R385). -/
def Pkg.tagFree (s : Pkg) (init tag : Nat) : Bool :=
  !((s.svc.out ++ s.svc.late).any fun x => x.init == init && x.tag == tag)

/-- Lowest free tag of an initiator. -/
def Pkg.freeTag (s : Pkg) (init : Nat) : Option Nat := (List.range 64).find? (s.tagFree init)

/-! ## Header (Table 192) -/

/-- One byte through CRC-16-CCITT. -/
def crc16Byte (c b : Nat) : Nat :=
  (List.range 8).foldl (fun c _ => if bit c 15 then (c * 2 % 65536) ^^^ 0x1021 else c * 2 % 65536) (c ^^^ (b * 256))

/-- CHK of a header's low 112 bits. -/
def headerChk (h : Nat) : Nat := (leVals (h % 2 ^ 112) 14).foldl crc16Byte 0xFFFF

/-- Header fields but for CHK: operation, priority, instance, initiator, source die and package, destination package, tag, words, class, byte
enables, address and error. -/
def ringHeader (op prio : Nat) (inst : Option Nat) (init srcPkg dst tag len cls fbe lbe addr err : Nat) : Nat :=
  let h := op + prio % 4 * 2 ^ 4 + b2n inst.isSome * 2 ^ 6 + inst.getD 0 % 16 * 2 ^ 7 + initCode init % 256 * 2 ^ 11 + initDie init * 2 ^ 19 +
    srcPkg % 64 * 2 ^ 22 + dst % 64 * 2 ^ 28 + 2 ^ 34 + tag % 64 * 2 ^ 35 + (len - 1) % 64 * 2 ^ 41 + cls % 16 * 2 ^ 47 + fbe % 16 * 2 ^ 51 +
    lbe % 16 * 2 ^ 55 + addr % 2 ^ 40 * 2 ^ 59 + err % 16 * 2 ^ 99
  h + headerChk h * 2 ^ 112

/-- Words of an SVC flit's data, at most four. -/
def svcData (l : List Nat) : Nat := (l.take 4).foldr (fun w v => w % 2 ^ 32 + 2 ^ 32 * v) 0

/-- Payload of the SVC flit that carries a request. -/
def RingPkt.flit (p : RingPkt) (own dst : Nat) : Nat :=
  ringHeader (b2n p.write) (min p.prio (prioCap p.init)) p.inst p.init own dst p.tag p.len p.cls p.fbe p.lbe p.addr 0 + svcData p.data * 2 ^ 128

/-! ## Requests -/

/-- The access that a request packet asks for. -/
def RingPkt.access (p : RingPkt) : BusReq :=
  let be := (List.range p.len).foldl (fun v k =>
    v + ((if k = 0 then p.fbe % 16 else 15) &&& (if k + 1 = p.len then p.lbe % 16 else 15)) * 2 ^ (4 * k)) 0
  { write := p.write, init := p.init, inst := p.inst, addr := p.addr % 2 ^ 40, len := 4 * p.len, be := some be, data := p.data }

/-- Queue a response to request `num`. -/
def Pkg.respond (s : Pkg) (init tag num err : Nat) (data : List Nat) (ecc : Nat := 0) : Pkg :=
  { s with svc := { s.svc with rsp := s.svc.rsp ++ [{ init := init, tag := tag, num := num, err := err, data := data, ecc := ecc }] } }

/-- An error found in a packet by a stop of die `d` (R384). -/
def Pkg.svcUe (s : Pkg) (d : Nat) : Pkg := (s.incSat .SVC_UE_CNT d).p .SVC_STAT_UE d 1
@[inherit_doc Pkg.svcUe] def Pkg.svcCe (s : Pkg) (d : Nat) : Pkg := (s.incSat .SVC_CE_CNT d).p .SVC_STAT_CE d 1

/-- The port toward another package, if its entry is VALID. -/
def Pkg.route (s : Pkg) (dst : Nat) : Option Nat := if s.b .SVC_RMT_ROUTE_VALID dst then some (s.g .SVC_RMT_ROUTE_PORT dst) else none

/-- Queue an SVC flit on a port. -/
def Pkg.sendSvc (s : Pkg) (q payload : Nat) : Pkg := s.updPort q fun x => { x with txSvc := x.txSvc ++ [.svc payload] }

/-- A request for another package is refused at the remote gateway of die `d`: the register hub of the die counts and captures it as every refusal
(R326, R383). -/
def Pkg.refuseRemote (s : Pkg) (d cause num : Nat) (p : RingPkt) : Pkg :=
  ((s.refuse .SVC d cause p.access).2).respond p.init p.tag num cause [] p.back

/-- A request inserted as number `num` reaches the stop that performs it, or the remote gateway (R383). -/
def Pkg.carry (s : Pkg) (fu : Fuses) (p : RingPkt) (num : Nat) : Pkg :=
  let d := if p.dst.isSome || decide (s.part.model.dies ≤ bits p.addr 37 3) then 0 else bits p.addr 37 3
  if p.ecc = 2 then s.svcUe d
  else
    let s := if p.ecc = 1 then s.svcCe d else s
    match p.dst with
    | some dst =>
      if p.init ≠ 0 then s.refuseRemote 0 4 num p
      else if 4 < p.len then s.refuseRemote 0 2 num p
      else match s.route dst with
        | some q => s.sendSvc q (p.flit s.part.pkgId dst)
        | none => s.refuseRemote 0 1 num p
    | none =>
      let (r, s) := s.access fu p.access
      s.respond p.init p.tag num r.err r.data p.back

/-- Priority of a request and of its response (R379): at most its initiator's, and 0 for a read of the tier, route or word-store window. -/
def RingPkt.rank (p : RingPkt) : Nat :=
  let low := !p.write && p.dst.isNone && match winAt (p.addr % 2 ^ 37) with
    | some (.tier, _) | some (.route, _) | some (.wuStore, _) => true
    | _ => false
  if low then 0 else min p.prio (prioCap p.init)

/-- Insert a request: it counts and waits for its response. -/
def Pkg.insert (s : Pkg) (p : RingPkt) (k : Nat) (remote : Option (Nat × Nat)) : Pkg :=
  let x : RingReq := { init := p.init, tag := p.tag, addr := p.addr, inst := p.inst, write := p.write, num := s.svc.num, remote := remote, prio := p.rank,
                       away := p.dst.isSome }
  ({ s with svc := { s.svc with out := s.svc.out ++ [x], num := s.svc.num + 1 } }.inc .SVC_REQ k).p .SVC_OUTST k (s.g .SVC_OUTST k + 1)

/-- RING_REQUEST: an initiator inserts a request under a free tag and its target performs it. -/
def Pkg.ringRequest (s : Pkg) (fu : Fuses) (p : RingPkt) (remote : Option (Nat × Nat) := none) : Pkg :=
  match localInit p.init with
  | some k => if s.hasInit p.init && s.tagFree p.init p.tag then (s.insert p k remote).carry fu p s.svc.num else s
  | none => s

/-! ## Responses and timeouts (R385, R386) -/

/-- The remote gateway returns a result to the package that asked: a response flit toward it, at the priority of its request. -/
def Pkg.remoteReturn (s : Pkg) (pkg tag prio : Nat) (write : Bool) (err : Nat) (data : List Nat) : Pkg :=
  match s.route pkg with
  | some q =>
    let op := if err ≠ 0 then 4 else if write then 3 else 2
    s.sendSvc q (ringHeader op prio none 0 pkg s.part.pkgId tag (max 1 data.length) 0 15 15 0 err + svcData data * 2 ^ 128)
  | none => s

/-- The debug port's access ends with a status and a cause (R415). -/
def Pkg.portResult (s : Pkg) (init tag status cause : Nat) (data : List Nat) : Pkg :=
  match s.dbg.busy with
  | some (t, addr, write) =>
    if isDebug init && t == tag then
      { s with dbg := { s.dbg with busy := none, status := status, cause := cause, addr := addr, data := if write then 0 else data.headD 0 } }
    else s
  | none => s

/-- A host read completes, with Completer Abort status where it was refused or timed out (R314, R386). -/
def Pkg.hostRead (s : Pkg) (init : Nat) (q : RingReq) (abort : Bool) : Pkg :=
  if isHost init && !q.write then { s with svc := { s.svc with ca := s.svc.ca.put init (b2n abort) } } else s

/-- A command that depended on a failed access ends (R386). -/
def Pkg.accessFailed (s : Pkg) (dep : Option (Nat × Nat)) : Pkg :=
  match dep with
  | some (m, seq) => s.failCmd m seq .engineFault
  | none => s

/-- The response to a request that waits for it reaches its initiator: in time, or late and discarded. -/
def Pkg.responseIn (s : Pkg) (k : Nat) (r : RingRsp) (dep : Option (Nat × Nat)) : Pkg :=
  match s.svc.out.find? fun x => x.num == r.num with
  | some q =>
    let s := { s with svc := { s.svc with out := s.svc.out.erase q, got := Store.set [] s.svc.got r.init r.data } }
    let s := (s.inc (if r.err = 0 then .SVC_RSP else .SVC_ERR) k).p .SVC_OUTST k (s.g .SVC_OUTST k - 1)
    let s := (s.portResult r.init r.tag (if r.err = 0 then 0 else 2) r.err r.data).hostRead r.init q (r.err != 0)
    let s := match q.remote with
      | some (pkg, t) => s.remoteReturn pkg t q.prio q.write r.err r.data
      | none => s
    if r.err = 0 then s else s.accessFailed dep
  | none => ({ s with svc := { s.svc with late := s.svc.late.filter fun x => x.num != r.num } }).inc .SVC_LATE k

/-- RING_RESPONSE: the oldest response to initiator `init` under `tag` is removed at its stop; one with an error that cannot be corrected is discarded,
and its request times out (R384). `dep` is the command that a refusal ends: one whose MP access this was, or whose DMA access failed a second time. -/
def Pkg.ringResponse (s : Pkg) (init tag : Nat) (dep : Option (Nat × Nat)) : Pkg :=
  match s.svc.rsp.find? fun x => x.init == init && x.tag == tag, localInit init with
  | some r, some k =>
    let s := { s with svc := { s.svc with rsp := s.svc.rsp.erase r } }
    if r.ecc = 2 then s.svcUe (initDie init)
    else (if r.ecc = 1 then s.svcCe (initDie init) else s).responseIn k r dep
  | _, _ => s

/-- RING_TIMEOUT: no response within SVC_TMO. -/
def Pkg.ringTimeout (s : Pkg) (init tag : Nat) (dep : Option (Nat × Nat)) : Pkg :=
  match s.svc.out.find? fun x => x.init == init && x.tag == tag, localInit init with
  | some q, some k =>
    let d := k / 10
    let s := { s with svc := { s.svc with out := s.svc.out.erase q, late := s.svc.late ++ [q] } }
    let s := ((s.inc .SVC_TMO_CNT k).p .SVC_OUTST k (s.g .SVC_OUTST k - 1)).p .SVC_STAT_TMO d 1
    let s := if s.b .SVC_TMO_LOG_INFO_VALID d then s
      else s.ps [(.SVC_TMO_LOG_ADDR, d, q.addr), (.SVC_TMO_LOG_INFO_INITIATOR, d, initCode init), (.SVC_TMO_LOG_INFO_INST, d, q.inst.getD 0),
        (.SVC_TMO_LOG_INFO_INST_VALID, d, b2n q.inst.isSome), (.SVC_TMO_LOG_INFO_WRITE, d, b2n q.write), (.SVC_TMO_LOG_INFO_VALID, d, 1)]
    let s := (s.portResult init tag 3 0 []).hostRead init q true
    let s := match q.remote with
      | some (pkg, t) =>
        let (c, s) := s.draw 4
        s.remoteReturn pkg t q.prio q.write c []
      | none => s
    s.accessFailed dep
  | _, _ => s

/-- TIMED_OUT_TAG_RELEASE. -/
def Pkg.tagRelease (s : Pkg) (init tag : Nat) : Pkg :=
  { s with svc := { s.svc with late := s.svc.late.filter fun x => !(x.init == init && x.tag == tag) } }

/-- The event, if any, that a management processor's firmware forms of a notification (Table 171): TURNER_BAD for each instance of the frame (R214),
BANK_VFAULT (R222). -/
def Pkg.noteEvent (s : Pkg) (n : Nat) : Pkg :=
  let a := n / 16
  if n % 16 = Note.ctorIdx .supply then s.event 8 (s.bankOwner a) [a / 4, a % 4]
  else if n % 16 = Note.ctorIdx .turner then match faddr a with
    | some f => s.each (s.frameInsts f) fun s i => s.event 3 (some i) (leVals f.code 4 ++ leVals (s.virtFrame i f) 4)
    | none => s
  else s

/-- RING_MSG: the oldest notification to die `d` reaches its management processor, and waits while that one does not act. -/
def Pkg.ringMsg (s : Pkg) (d : Nat) : Pkg :=
  match s.notes.find? fun e => e.1 == d with
  | some e =>
    if s.mpActs d then { s with notes := s.notes.erase e, svc := { s.svc with inbox := s.svc.inbox ++ [e] } }.noteEvent e.2 else s
  | none => s

/-! ## Drain of a region (R389) -/

/-- Region of a unit that has one. -/
def RUnit.placeOf : RUnit → Option Nat
  | .region p => some p
  | .bank b => some (b / 16)
  | _ => none

/-- Region that a register word at offset `o` of die `d` belongs to. -/
def regRegion (d o : Nat) : Option Nat :=
  match slotAt o with
  | some (b, kind, base) => match slotLoc b kind d (o / 4 * 4 - base) with
    | .reg r idx _ => (r.unit idx).placeOf
    | _ => none
  | none => none

/-- Package region that a request on the rings is for. -/
def RingReq.placeOf (x : RingReq) : Option Nat :=
  let d := bits x.addr 37 3
  let o := x.addr % 2 ^ 37
  if x.away then none
  else match winAt o with
    | some (w, off, _) => (winUnit w d off).placeOf
    | none => if aliasBase ≤ o then regRegion d ((o - aliasBase) / 128 * 4) else regRegion d o

/-- Everything step 2 of Table 195 waits for. -/
def Pkg.quiet (s : Pkg) (p : Nat) : Bool := s.unitsQuiet p && s.svc.out.all fun x => x.placeOf != some p

/-- REGION_DRAINED: the drain is complete and the clamps are set: every fabric line from the region is not valid. -/
def Pkg.regionDrained (s : Pkg) (p : Nat) : Pkg :=
  if s.pdState p = 1 ∧ s.quiet p then
    let s := { s with fab.exp := s.fab.exp.drop (fun k => k / 512 == p), fab.egr := s.fab.egr.drop (fun k => k / 32 == p),
                      fab.ing := s.fab.ing.drop (fun k => k / 32 == p), cav.lines := s.cav.lines.drop fun k => k / 32 == p }
    s.p .SVC_PD_STAT_STATE p 2
  else s

/-- DRAIN_TIMEOUT: the drain has not ended within 1 ms. -/
def Pkg.drainTimeout (s : Pkg) (p : Nat) : Pkg :=
  if s.pdState p = 1 ∧ !s.quiet p then s.ps [(.SVC_PD_STAT_STATE, p, 0), (.SVC_PD_STAT_TMO, p, 1)] else s

/-! ## Remote requests (R383) -/

/-- A request from another package, of a flit received on die `d`. -/
def svcRequest (d w tag : Nat) : RingPkt :=
  { write := w % 16 == 1, init := 0x60 + d, tag := tag, inst := if bit w 6 then some (bits w 7 4) else none, cls := bits w 47 4, srcPkg := bits w 22 6,
    len := bits w 41 6 + 1, fbe := bits w 51 4, lbe := bits w 55 4, addr := bits w 59 40, prio := bits w 4 2,
    data := (List.range 4).map fun k => bits w (128 + 32 * k) 32 }

/-- An accepted SVC flit of port `q` (R383): forwarded toward its package, or placed on the rings of this one. -/
def Pkg.svcTake (s : Pkg) (fu : Fuses) (q w : Nat) : Pkg :=
  let w := w % 2 ^ 256
  let op := w % 16
  let src := bits w 22 6
  let dst := if op = 0 ∨ op = 1 then bits w 28 6 else src
  if bits w 112 16 ≠ headerChk w then s.svcUe (q / 4)
  else if dst ≠ s.part.pkgId then
    match s.route dst with
    | some p => s.sendSvc p w
    | none =>
      if op = 0 ∨ op = 1 then
        ((s.refuse .SVC (q / 4) 1 (svcRequest (q / 4) w 0).access).2).remoteReturn src (bits w 35 6) (bits w 4 2) (op == 1) 1 []
      else s
  else if op = 0 ∨ op = 1 then
    match s.freeTag (0x60 + q / 4) with
    | some tag => s.ringRequest fu (svcRequest (q / 4) w tag) (some (src, bits w 35 6))
    | none => s
  else if op ≤ 4 then
    let tag := bits w 35 6
    let n := match (s.svc.out ++ s.svc.late).find? fun x => x.init == 0 && x.tag == tag with
      | some x => x.num
      | none => s.svc.num
    s.respond 0 tag n (bits w 99 4) (if op = 2 then (List.range (min 4 (bits w 41 6 + 1))).map fun k => bits w (128 + 32 * k) 32 else [])
  else s

/-- SVC_FLIT: its place in the port's flow control is free once it is taken. -/
def Pkg.svcFlit (s : Pkg) (fu : Fuses) (q seq w : Nat) : Pkg :=
  let (s, ok) := s.rxSeq q seq 2
  if ok then (s.freeVc q 2 1).svcTake fu q w else s

end Sys2Proof.Machine
end

