-- ==== Sys2Proof/Machine/DebugPort.lean ====
section
/-!
DEFINITION. The debug port's scans (R414-R416), instructions fed to a halted management processor (R418) and the accesses its watchpoints see
(R422).
-/
namespace Sys2Proof.Machine

/-! ## Scans (Tables 204 and 205) -/

/-- What the 4-bit instruction register of the port captures (R414). -/
def portIrCapture : Nat := 0b0001

/-- An instruction of the port is selected, its instruction register having captured `portIrCapture`, and its data register captured. -/
def Pkg.scan (s : Pkg) (ir cap : Nat) : Pkg := { s with dbg := { s.dbg with ir := ir, irOut := portIrCapture, cap := cap } }

/-- What an ACCESS scan shifts out. -/
def Pkg.accessCapture (s : Pkg) : Nat :=
  let (status, cause) :=
    if !s.b .DBG_PORT_CTL 0 then (2, 4) else if s.dbg.busy.isSome then (1, 0) else (s.dbg.status, s.dbg.cause)
  s.dbg.data % 2 ^ 32 + s.dbg.addr % 2 ^ 40 * 2 ^ 32 + status * 2 ^ 72 + cause % 16 * 2 ^ 74

/-- The request that an ACCESS scan asks for. -/
def accessPkt (dr tag : Nat) : RingPkt :=
  { write := bit dr 72, init := 0x38, tag := tag, inst := if bit dr 77 then some (bits dr 73 4) else none, cls := 5, addr := bits dr 32 40,
    data := if bit dr 72 then [bits dr 0 32] else [], prio := 2 }

/-- DBG_ACCESS: the capture, then the update of an ACCESS scan. -/
def Pkg.dbgAccess (s : Pkg) (fu : Fuses) (dr : Nat) : Pkg :=
  let s := s.scan 8 s.accessCapture
  if bit dr 79 then s
  else if !s.b .DBG_PORT_CTL 0 then s.incSat .DBG_PORT_REFUSED 0
  else if !bit dr 78 then s
  else if s.dbg.busy.isSome then s.p .DBG_PORT_STAT_OVERRUN 0 1
  else match s.freeTag 0x38 with
    | some tag =>
      let s := { s with dbg := { s.dbg with busy := some (tag, bits dr 32 40, bit dr 72) } }.inc .DBG_PORT_CNT 0
      s.ringRequest fu (accessPkt dr tag)
    | none => s

/-- DBG_PSTAT: DBG_PORT_STAT is captured. -/
def Pkg.dbgPstat (s : Pkg) : Pkg := s.scan 9 (s.g .DBG_PORT_STAT_OVERRUN 0 + 2 * b2n s.dbg.busy.isSome)

/-- DBG_XTRIG: the channels that have fired are captured, then channels are pulsed. -/
def Pkg.dbgXtrig (s : Pkg) (mask : Nat) : Pkg := (s.scan 10 (s.g .DBG_XT_STAT 0)).xtPulse (mask % 16)

/-- DBG_IDCODE. -/
def Pkg.dbgIdcode (s : Pkg) : Pkg := s.scan 1 s.idcode

/-- DBG_BYPASS: any other opcode. -/
def Pkg.dbgBypass (s : Pkg) : Pkg := s.scan 15 0

/-! ## Management processors (R418, R420, R422) -/

/-- CTX of a management processor (R420). -/
def Pkg.mpCtx (s : Pkg) (d : Nat) : Option Nat := if s.b .DBG_MP_CTX_VALID d then some (s.g .DBG_MP_CTX_INST d) else none

/-- A fetch, load or store of die `d`'s management processor as its own watchpoints see it. -/
def Pkg.mpSees (s : Pkg) (d src : Nat) (write : Bool) (addr n : Nat) (data : List Nat) : Pkg :=
  s.wpSee d { src := src, write := write, addr := addr, n := n, inst := s.mpCtx d, init := d, data := data }

/-- MP_WATCHPOINT_MATCH: a processor that is not halted fetches or accesses. -/
def Pkg.mpAccess (s : Pkg) (d : Nat) (fetch write : Bool) (addr n : Nat) (data : List Nat) : Pkg :=
  if s.b .DBG_MP_STAT_HALTED d then s else s.mpSees d (if fetch then 0 else 1) (write && !fetch) addr n data

/-- Words of a read as one number. -/
def wordsNat (l : List Nat) : Nat := l.foldr (fun w v => w % 2 ^ 32 + 2 ^ 32 * v) 0

/-- A fed instruction has its effect on the halted context of die `d` (R418). -/
def Pkg.fed (s : Pkg) (fu : Fuses) (d : Nat) (o : FeedOut) : Pkg :=
  match o with
  | .err => s.p .DBG_MP_STAT_FEED_ERR d 1
  | .regs l => s.each (l.filter fun e => e.1 != 32) fun s e => s.mpRegSet d e.1 e.2
  | .load reg addr n signed =>
    let s := s.mpSees d 1 false addr n []
    let (r, s) := s.access fu { write := false, init := d, inst := s.mpCtx d, addr := addr, len := n }
    if r.err ≠ 0 then s.p .DBG_MP_STAT_FEED_ERR d 1
    else
      let v := wordsNat r.data
      if reg = 32 then s else s.mpRegSet d reg (if signed then wrapN 64 (sgn (8 * n) v) else v)
  | .store addr data =>
    let s := s.mpSees d 1 true addr (4 * data.length) data
    let (r, s) := s.access fu { write := true, init := d, inst := s.mpCtx d, addr := addr, len := 4 * data.length, data := data }
    if r.err ≠ 0 then s.p .DBG_MP_STAT_FEED_ERR d 1 else s

/-- MP_FEED: a write of DBG_MP_FEED whose instruction has the effect `o`. -/
def Pkg.mpFeed (s : Pkg) (fu : Fuses) (d init insn : Nat) (o : FeedOut) : Pkg :=
  match specOf .DBG .DBG_MP_FEED with
  | some r => s.regCmdBy .DBG r d init insn 0 fun s => if s.mpBarred d init then .inl 4 else .inr (s.fed fu d o)
  | none => s

end Sys2Proof.Machine
end

