-- ==== Sys2Proof/Machine/Commands.lean ====
section
/-!
DEFINITION. The firmware commands of Table 169 that only report or copy, and those that name an instance, a cave bank, a region or a link port
(R141, R345-R348, R357, R370, R373). RUN_CTL, RELOCATE, the key and fuse commands and MP_RESTART have files of their own.
-/
namespace Sys2Proof.Machine

/-! ## Host buffers -/

/-- Byte values as bytes. -/
def bytesOf (l : List Nat) : List Byte := l.map (BitVec.ofNat 8)

/-- A command's bytes are in its host buffer and it completes. `fail` tells after how many bytes the transfer fails, if it does: the effects
already made stand (R345). -/
def Pkg.copied (s : Pkg) (m seq addr : Nat) (l : List Byte) (fail : Option Nat) (result : List Nat) : Pkg :=
  match fail with
  | some n => { s with host := writeBytes s.host addr (l.take n) }.finish m seq .fault .hostDma
  | none => { s with host := writeBytes s.host addr l }.finish m seq .ok .none result

/-- Command `j` copies bytes to a host buffer, in DMA items, and completes. -/
def Pkg.toHost (s : Pkg) (m seq : Nat) (j : Msg) (addr : Nat) (l : List Byte) (fail : Option Nat) (result : List Nat) : Pkg :=
  s.transfer m seq false j (fun s => s.copied m seq addr l fail result) (j.items l.length fail)

/-- A command that names an instance is turned away while the instance is being reset (R344). -/
def Pkg.performOn (s : Pkg) (m seq op : Nat) (k : Msg → Pkg → Pkg) : Pkg :=
  s.perform m seq op fun j s => if s.resetting j.inst then (s.cmdItemPurge m seq).finish m seq .rejected .instReset else k j s

/-! ## Information -/

/-- PING; `ms` is the time since ready. -/
def Pkg.ping (s : Pkg) (m seq ms : Nat) : Pkg :=
  s.perform m seq 0x01 fun _ s => s.finish m seq .ok .none (leVals (s.g .ADC_FW_VER 0) 4 ++ List.replicate 4 0 ++ leVals ms 8)

/-- GET_INFO. -/
def Pkg.getInfo (s : Pkg) (fu : Fuses) (m seq : Nat) : Pkg :=
  s.perform m seq 0x02 fun _ s =>
    s.finish m seq .ok .none (leVals (bits s.idcode 12 16) 2 ++ [b2n s.part.slow, s.part.stepping, s.part.model.dies, s.part.pkgId,
      b2n s.part.masterSel + 2 * b2n s.part.bscanCe + 4 * b2n fu.secure, 0] ++ leVals s.part.uid 8)

/-- Mask of the good clusters of a package region. -/
def Pkg.goodMask (s : Pkg) (p : Nat) : Nat := maskOf 32 fun c => (s.goodClusters p).contains c

/-- The fuse map block: for each die its 64 good-cluster masks, then its 64 CAV_AVAIL values. -/
def Pkg.fuseMap (s : Pkg) : List Nat :=
  s.dies.flatMap fun d => ((List.range 64).flatMap fun g => leVals (s.goodMask (d * 64 + g)) 4) ++
    (List.range 64).flatMap fun g => leVals (s.g .CAV_AVAIL (d * 64 + g)) 2

/-- GET_FUSEMAP. -/
def Pkg.getFusemap (s : Pkg) (m seq : Nat) (fail : Option Nat) : Pkg :=
  s.perform m seq 0x03 fun j s =>
    let full := s.dies.map fun d => ((List.range 64).filter fun g => (s.goodClusters (d * 64 + g)).length == 32).length
    s.toHost m seq j (j.arg 0 8) (bytesOf s.fuseMap) fail (leVals (384 * s.part.model.dies) 8 ++ full)

/-- The health block of one die (R450). -/
def Pkg.healthDie (s : Pkg) (d : Nat) : List Nat :=
  let rail := s.wordOf {} regsADC .ADC_MON_RAIL d
  [b2n (s.dieOk d) + 2 * s.g .ADC_CTRL_HOST d, 0] ++ ((List.range 13).flatMap fun n => leVals (s.boot.health.at (d * 16 + n)) 2) ++ leVals rail 2 ++
    leVals (s.wordOf {} regsADC .ADC_MON_TEMP d) 2 ++ leVals (s.g .ADC_MON_UV_CNT d) 4 ++ List.replicate 28 0

/-- The health block of the package (R450). -/
def Pkg.healthBlock (s : Pkg) : List Nat :=
  leVals s.nt 8 ++ [s.part.model.dies, s.wordOf {} regsADC .ADC_REF_STAT 0 % 256, s.g .ADC_BOOT_STAT_FAIL 0, s.g .ADC_BOOT_STAT_DIE_FAIL 0] ++
    leVals (s.g .ADC_REF_SW_CNT 0) 4 ++ List.replicate 48 0 ++ s.dies.flatMap s.healthDie

/-- GET_HEALTH. -/
def Pkg.getHealth (s : Pkg) (m seq : Nat) (fail : Option Nat) : Pkg :=
  s.perform m seq 0x04 fun j s => s.toHost m seq j (j.arg 0 8) (bytesOf s.healthBlock) fail (leVals (64 + 64 * s.part.model.dies) 8)

/-! ## Loading (R178, R194, R346) -/

/-- LOAD: accepted, unless a stream is in progress or boundary scan is held (R178, R232, R345). -/
def Pkg.loadCmd (s : Pkg) (m seq : Nat) : Pkg :=
  s.perform m seq 0x10 fun j s =>
    if s.load.active then s.busyCmd m seq .resourceBusy 1
    else if s.part.bscanCe then s.finish m seq .rejected .policy
    else s.loadAccept m seq (bit j.flags 0)

/-- LOAD_ABORT: CFG_CTRL.ABORT (R194). -/
def Pkg.loadAbortCmd (s : Pkg) (m seq : Nat) : Pkg :=
  s.perform m seq 0x11 fun _ s => (s.cfgAbort).finish m seq .ok .none [s.g .CFG_LOAD_STAT_PHASE 0]

/-- Words of a placement entry (R170): the ARY_VMAP words 0x00 to 0x24. -/
def Pkg.vmapWords (s : Pkg) (k : Nat) : List Nat :=
  (List.range 10).map fun n => match findReg regsARY (fun _ => true) (0x100000 + k / 512 * 0x8000 + k % 512 * 0x40 + 4 * n) with
    | some (r, idx, hi) => (s.regWord {} r idx hi).1
    | none => 0

/-- Placement part of the load report. -/
def Pkg.reportPlaced (s : Pkg) (i : Nat) : List (List Nat) :=
  (s.placed i).map fun e => [e.1, e.2.1, 0, 0, 0, 0, 0, 0] ++ (s.vmapWords (vkey i e.1 e.2.1)).flatMap fun w => leVals w 4

/-- Virtual region and cluster of a physical region and cluster, 255 where there is none. -/
def Pkg.virtNames (s : Pkg) (i p c : Nat) : Nat × Nat :=
  match s.virtRegion i p with
  | some (v, r) => (r, (s.virtCluster i v r c).getD 255)
  | none => (255, 255)

/-- Refusals recorded on die `d`, the `v`th virtual die of instance `i` (R61, R89, R118, R158, R346). -/
def Pkg.reportRefused (s : Pkg) (i v d : Nat) : List (List Nat) :=
  let raw := fun (l : List RegSpec) (a : Reg) (b : Option Reg) => leVals (s.wordOf {} l a d) 4 ++ match b with
    | some x => leVals (s.wordOf {} l x d) 4
    | none => [0, 0, 0, 0]
  let entry := fun (src reason region cluster bp slot : Nat) (r : List Nat) =>
    let n := if region < 64 then s.virtNames i (d * 64 + region) cluster else (255, 255)
    [src, reason, v, n.1, n.2, bp] ++ leVals slot 2 ++ r
  (if s.b .ARY_BP_REFUSE_VALID d then [entry 0 (s.g .ARY_BP_REFUSE_REASON d) (s.g .ARY_BP_REFUSE_REGION d) (s.g .ARY_BP_REFUSE_CLUSTER d)
      (s.g .ARY_BP_REFUSE_BP d) (s.g .ARY_BP_REFUSE_SLOT d) (raw regsARY .ARY_BP_REFUSE none)] else []) ++
  (if s.b .XBR_ROUTE_REFUSE0_VALID d then
      let lvl := s.g .XBR_ROUTE_REFUSE0_LEVEL d
      let f := s.g .XBR_ROUTE_REFUSE0_FIELD d
      [entry 1 (s.g .XBR_ROUTE_REFUSE1 d) (if lvl = 2 then 64 else s.g .XBR_ROUTE_REFUSE0_REGION d) (if lvl = 0 then f / 64 else 32) (if lvl = 0 then f % 64 else 0)
        (s.g .XBR_ROUTE_REFUSE0_SLOT d) (raw regsXBR .XBR_ROUTE_REFUSE0 (some .XBR_ROUTE_REFUSE1))] else []) ++
  (if s.b .WU_REFUSE_VALID d then [entry 2 (s.g .WU_REFUSE_REASON d) (s.g .WU_REFUSE_REGION d) (s.g .WU_REFUSE_CLUSTER d) 0
      (s.g .WU_REFUSE_WADDR d) (raw regsWU .WU_REFUSE none)] else []) ++
  (if s.b .QUE_REFUSE_VALID d then [entry 3 (s.g .QUE_REFUSE_REASON d) (s.g .QUE_REFUSE_REGION d) 32 (s.g .QUE_REFUSE_PORT d)
      (s.g .QUE_REFUSE_DESC d) (raw regsQUE .QUE_REFUSE none)] else [])

/-- Blocks that instance `i` owns: kind, die, index. -/
def Pkg.reportOwned (s : Pkg) (i : Nat) : List (List Nat) :=
  let e := fun (kind d n : Nat) => [kind, d] ++ leVals n 2
  let per := fun (n : Nat) (p : Nat → Nat → Bool) (kind : Nat) => s.dies.flatMap fun d => ((List.range n).filter (p d)).map fun j => e kind d j
  per 32 (fun d n => s.brgOwner d (n / 8) (n % 8) == some i) 0 ++ per 8 (fun d j => s.thrOwner d j == some i) 1 ++
    ((s.banksOf i).map fun b => e 2 (b / 1024) (b % 1024)) ++ ((s.queuesOf i).map fun k => e 3 (k / 512) (k % 512)) ++
    per 4 (fun d k => s.bankOwner (d * 4 + k) == some i) 4 ++ per 4 (fun d p => s.portOwner (d * 4 + p) == some i) 5 ++
    ((List.range (s.part.model.stacks * 144)).filter fun k => s.g .QUE_SEG_OWN_KIND k == 1 && s.g .QUE_SEG_OWN_INST k == i).map fun k =>
      e 6 ((s.diesOf (k / 144)).headD 0) (k % 144)

/-- Bad frames of instance `i`. -/
def Pkg.reportBad (s : Pkg) (i : Nat) : List (List Nat) :=
  s.trn.bad.filterMap fun e => match faddr e.1 with
    | some f => if (s.frameInsts f).contains i then some (leVals f.code 4 ++ leVals (s.virtFrame i f) 4) else none
    | none => none

/-- Probe map of instance `i`: its cluster probe slots in use. -/
def Pkg.reportProbes (s : Pkg) (i : Nat) : List (List Nat) :=
  if s.traced ≠ some i then []
  else (s.placed i).flatMap fun (v, r, p) => (s.usedClusters i p).flatMap fun c => ((List.range 32).filter fun j =>
      bit (s.trc.probe.at ((p * 32 + c) * 32 + j)) 31).map fun j =>
    leVals ((p % 64 * 32 + c) * 32 + j + p / 64 * 2 ^ 16) 4 ++ [v, r, (s.virtCluster i v r c).getD 255, j]

/-- The load report of instance `i` (Table 170). -/
def Pkg.loadReport (s : Pkg) (i : Nat) : List Nat :=
  let pl := s.reportPlaced i
  let rf := (s.inst i).desc.dies.zipIdx.flatMap fun e => s.reportRefused i e.2 e.1
  let ow := s.reportOwned i
  let bd := s.reportBad i
  let pr := s.reportProbes i
  let len := 64 + 48 * pl.length + 16 * rf.length + 4 * ow.length + 8 * bd.length + 8 * pr.length
  [i, s.g .ARY_RUN_STAT_STATE i] ++ leVals (s.depth i) 2 ++ leVals s.loadStat 4 ++ leVals (s.inst i).desc.stream 8 ++ leVals len 8 ++
    ([pl, rf, ow, bd, pr].flatMap fun x => leVals x.length 4) ++ List.replicate 20 0 ++ (pl ++ rf ++ ow ++ bd ++ pr).flatten

/-- The command was accepted after a LOAD with REPLACE that is loading its instance afresh (R344). -/
def Pkg.behindReplace (s : Pkg) (j : Msg) : Bool :=
  s.load.active && s.load.replace && s.runState j.inst == .loading && match s.load.cmd with
    | some (m, seq) => (s.job m seq).any fun x => decide (x.order < j.order)
    | none => false

/-- LOAD_REPORT. -/
def Pkg.loadReportCmd (s : Pkg) (m seq : Nat) (fail : Option Nat) : Pkg :=
  s.performOn m seq 0x12 fun j s =>
    if s.runState j.inst = .unloaded ∨ s.behindReplace j then s.finish m seq .rejected .instState
    else
      let l := s.loadReport j.inst
      let n := min l.length (j.arg 8 4)
      s.toHost m seq j (j.arg 0 8) (bytesOf (l.take n)) fail (leVals n 4 ++ leVals l.length 4)

/-! ## Instances (R370, R373) -/

/-- INST_RESET or UNLOAD: refused, waiting for what must end first, or begun. -/
def Pkg.endInst (s : Pkg) (m seq op : Nat) (unload : Bool) : Pkg :=
  match s.take m seq op with
  | none => s
  | some j =>
    let i := j.inst
    let t := s.dispatchCmd m seq
    if !s.mpTakes m seq j then s
    else if s.resetting i then (t.cmdItemPurge m seq).finish m seq .rejected .instReset
    else if s.runState i = .unloaded ∨ s.runState i = .loading then t.finish m seq .rejected .instState
    else if !unload ∧ s.b .TRN_INST_STAT_INIT_BAD i then t.finish m seq .rejected .initBad
    else if !s.resetReady i then t
    else (t.started m seq).resetBegin i { unload := unload, mbx := some (m, seq) }

/-- UNLOAD. -/
def Pkg.unloadCmd (s : Pkg) (m seq : Nat) : Pkg := s.endInst m seq 0x13 true
/-- INST_RESET. -/
def Pkg.instResetCmd (s : Pkg) (m seq : Nat) : Pkg := s.endInst m seq 0x21 false

/-- RELOCATE. -/
def Pkg.relocateCmd (s : Pkg) (m seq : Nat) (expired : Bool) : Pkg := s.relocate m seq expired

/-! ## Caves (R132, R133, R141) -/

/-- CAVE_OWN: all of the banks are handed over, or none. -/
def Pkg.caveOwnCmd (s : Pkg) (m seq : Nat) : Pkg :=
  s.perform m seq 0x30 fun j s =>
    let d := j.arg 0 1
    let r := d * 64 + j.arg 1 1
    let kind := bits (j.arg 4 1) 0 2
    let inst := bits (j.arg 4 1) 4 4
    let l := banksIn r (j.arg 2 2)
    let runs := l.any fun b => match s.bankOwn b with
      | .inst i => s.runs i
      | _ => false
    if kind = 0 ∧ (s.runState inst = .unloaded ∨ s.runState inst = .loading) then s.finish m seq .rejected .instState
    else if kind = 0 ∧ s.regionOwner r ≠ some inst then s.finish m seq .rejected .notOwner
    else if runs then s.finish m seq .rejected .instState
    else (s.each l fun s b => (s.ownWrite b d kind inst).1).finish m seq .ok .none (leVals (j.arg 2 2) 2)

/-- MARCH; `fails` are the failing reads by bank of the die (R139, R141). -/
def Pkg.marchCmd (s : Pkg) (m seq : Nat) (fails : List (Nat × MarchFail)) : Pkg :=
  s.perform m seq 0x31 fun j s =>
    let d := j.arg 0 1
    let set := j.arg 2 2
    let regs := ((List.range 64).filter (bit (j.arg 8 8))).map fun g => d * 64 + g
    if regs.any fun r => s.b .CAV_MARCH_STAT_BUSY r then s.busyCmd m seq .resourceBusy 1
    else if regs.any fun r => (s.marchStart r (j.arg 1 1) set).2.isSome then s.finish m seq .rejected .notOwner
    else
      let of := fun (r : Nat) => (fails.filter fun e => e.1 / 16 == r % 64 && !e.2.isEmpty).map fun e => (e.1 % 16, e.2)
      let bad := fun (r : Nat) => (banksIn r set).filter fun b => (of r).any fun e => e.1 == b % 16
      let s := s.each regs fun s r => s.marchEnd r (j.arg 1 1) set (of r)
      s.finish m seq .ok .none (leVals (maskOf 64 fun g => regs.contains (d * 64 + g) && !(bad (d * 64 + g)).isEmpty) 8 ++
        leVals (regs.foldl (fun n r => n + (bad r).length) 0) 2)

/-! ## Memory (R154, R155, R345) -/

/-- MEM_READ and MEM_WRITE: `ue` is the slice address of the first uncorrectable block the copy meets, if it meets one; what lies below it is
copied. Such a block ends a relocation of the instance (R173). -/
def Pkg.memCmd (s : Pkg) (m seq op : Nat) (ue fail : Option Nat) (copy : Msg → Nat → Pkg → Pkg) : Pkg :=
  s.performOn m seq op fun j s =>
    let i := j.inst
    let a := j.arg 0 8
    let len := j.arg 16 4
    if s.runState i = .unloaded ∨ s.runState i = .loading then s.finish m seq .rejected .instState
    else if s.sliceBytes i < a + len then s.finish m seq .rejected .badArgs
    else
      let upto := match ue with
        | some x => if a ≤ x / 32 * 32 + 31 ∧ x < a + len then some (x / 32 * 32) else none
        | none => none
      let n := match upto with
        | some x => x - a
        | none => len
      s.transfer m seq false j (fun s => match fail with
        | some k => (copy j (min k n) (s.useSlice i a (min k n) .svc)).finish m seq .fault .hostDma
        | none =>
          let s := copy j n (s.useSlice i a n .svc)
          match upto with
          | some x => ((s.eccCount ((s.sliceAddr i x).getD 0) .uncorrectable).ueAbandon i .uncorrectable).finish m seq .fault .engineFault (leVals n 4 ++ List.replicate 4 0 ++ leVals x 8)
          | none => s.finish m seq .ok .none (leVals n 4)) (j.items len fail)

/-- MEM_READ. -/
def Pkg.memRead (s : Pkg) (m seq : Nat) (ue fail : Option Nat) : Pkg :=
  s.memCmd m seq 0x32 ue fail fun j n s => { s with host := writeBytes s.host (j.arg 8 8) (s.sliceRead j.inst (j.arg 0 8) n) }

/-- MEM_WRITE; `bytes` is what the transfer brings from the host buffer. -/
def Pkg.memWrite (s : Pkg) (m seq : Nat) (bytes : List Nat) (ue fail : Option Nat) : Pkg :=
  s.memCmd m seq 0x33 ue fail fun j n s => s.sliceWrite j.inst (j.arg 0 8) (bytesOf ((List.range n).map fun k => bytes.getD k 0))

/-- `n` bytes of die `d`'s ring from offset `o`, going round at its end (R294, R295). -/
def Pkg.ringRead (s : Pkg) (d o n : Nat) : List Byte :=
  (List.range n).map fun k =>
    let x := (o + k) % max 1 (s.ringLen d)
    let seg := d * 144 + x / segBytes
    readByte s.que.hbm (s.g .WHY_RING_SEG_STACK seg * stackBytes + s.g .WHY_RING_SEG_SEGMENT seg * segBytes + x % segBytes)

/-- TRACE_READ (R295): TRC items. -/
def Pkg.traceRead (s : Pkg) (m seq : Nat) (fail : Option Nat) : Pkg :=
  s.perform m seq 0x40 fun j s =>
    let d := j.arg 0 1
    let n := j.arg 24 4
    if s.ringLen d = 0 ∨ s.ringLen d ≤ j.arg 8 8 ∨ s.ringLen d < n then s.finish m seq .rejected .badArgs
    else s.transfer m seq true j (fun s =>
      (s.ringAccesses d (j.arg 8 8) (min n (fail.getD n))).copied m seq (j.arg 16 8) (s.ringRead d (j.arg 8 8) n) fail
        (leVals (s.g .WHY_RING_WPTR d) 8 ++ leVals n 4)) (j.items n fail)

/-! ## Link ports (R238, R348) -/

/-- Payload of a LINK_SEND flit. -/
def sendFlit (d : Nat) (l : List Byte) (last : Bool) : Nat := 2 + d * 16 + b2n last * 2 ^ 7 + l.length * 2 ^ 8 + leNat l * 2 ^ 16

/-- The flits of a message, at most 30 bytes each. `fuel` bounds them; the last is marked where `ends`. -/
def sendFlits (d : Nat) (ends : Bool) : Nat → List Byte → List Flit
  | 0, _ => []
  | _ + 1, [] => []
  | fuel + 1, l => .mem (sendFlit d (l.take 30) (ends && decide (l.length ≤ 30))) :: sendFlits d ends fuel (l.drop 30)

/-- LINK_SEND: the bytes that the transfer brings are queued on the port, which leaves its low-power state for them; the command is answered
DEFERRED while a lane of the port settles. -/
def Pkg.linkSend (s : Pkg) (m seq : Nat) (bytes : List Nat) (fail : Option Nat) : Pkg :=
  s.perform m seq 0x50 fun j s =>
    let q := j.arg 0 1
    let n := j.arg 16 4
    if (s.portOwner q).isNone then s.finish m seq .rejected .notOwner
    else if s.portSt q = .down then s.finish m seq .rejected .instState
    else
      let l := bytesOf ((List.range n).map fun k => bytes.getD k 0)
      let put := fun (s : Pkg) (l : List Byte) (ends : Bool) =>
        (s.updPort q fun x => { x with txMem := x.txMem ++ sendFlits (q / 4) ends l.length l })
      s.transfer m seq false j (fun s => match fail with
      | some k => ((put s (l.take k) false).lpExit q).finish m seq .fault .hostDma
      | none =>
        let settling := (portLanes q).any fun x => s.laneSt x == .cal || s.laneSt x == .cold
        let s := ((put s l true).lpExit q).each ((portLanes q).filter fun x => s.laneSt x == .cold) fun s x =>
          if s.laneSt x = .cold then s.coldExit x else s
        let eta := (portLanes q).foldl (fun n x => max n (s.g .LNK_LANE_STAT_ETA_US x)) 0
        let job : SendJob := { mbx := m, seq := seq, port := q, bytes := n, deferred := settling }
        let s := { s with sends := s.sends ++ [job] }
        if settling then s.finish m seq .deferred .settling (leVals eta 4) else s.started m seq) (j.items n fail)

/-- LINK_RECV: a buffer is posted, and takes what waits. `fail` tells after how many delivered bytes its transfer to the host fails. -/
def Pkg.linkRecv (s : Pkg) (m seq : Nat) (fail : Option Nat) : Pkg :=
  s.perform m seq 0x51 fun j s =>
    let q := j.arg 0 1
    if (s.portOwner q).isNone then s.finish m seq .rejected .notOwner
    else
      let job : RecvJob := { mbx := m, seq := seq, port := q, addr := j.arg 8 8, len := j.arg 16 4, fail := fail }
      let s := s.started m seq
      { s with recvs := s.recvs ++ [job] }.memDrain q

/-- DEFERRED_ACTION_DONE: a deferred send ends in an error once a lane of its port is in FAULT (R250, R343); one that succeeds ends with the
acknowledgement of its last flit. -/
def Pkg.deferredEnd (s : Pkg) (m seq : Nat) : Pkg :=
  match s.sends.find? fun x => x.mbx == m && x.seq == seq && x.deferred && !x.ended with
  | some x =>
    if (portLanes x.port).any fun l => s.laneSt l == .fault then
      { s with sends := s.sends.map fun y => if y = x then { y with ended := true } else y }.deferredDone m seq .fault .laneFault
    else s
  | none => s

/-! ## Flows (R357) -/

/-- FLOW_BIND. -/
def Pkg.flowBindCmd (s : Pkg) (m seq : Nat) : Pkg :=
  s.perform m seq 0x80 fun j s =>
    let f := j.arg 0 2
    match s.bindCheck f (j.arg 2 1) (j.arg 3 1) (j.arg 4 4) with
    | .inl r => s.finish m seq .rejected r
    | .inr (_, u) => (s.flowBind f u (j.arg 2 1) (j.arg 3 1) (j.arg 4 4) (j.arg 8 8)).finish m seq .ok .none

/-- FLOW_UNBIND: the flow is purged, and the command completes when nothing of it is on an engine. -/
def Pkg.flowUnbindCmd (s : Pkg) (m seq : Nat) : Pkg :=
  s.perform m seq 0x81 fun j s =>
    let f := j.arg 0 2
    match s.unbindCheck f with
    | some r => s.finish m seq .rejected r
    | none =>
      let s := (s.started m seq).flowPurge f
      (s.setFlow f { s.flow f with unbind := some (m, seq) }).unbindEnd f

end Sys2Proof.Machine
end

