-- ==== Sys2Proof/Machine/KeyCommands.lean ====
section
/-!
DEFINITION. The commands that write keys and fuses, and MP_RESTART (R199-R202, R345, R347, R350), and the loss of power (R453, R454).
-/
namespace Sys2Proof.Machine

/-- `Pkg.perform` for a command that may write fuses. -/
def Pkg.performF (s : Pkg) (fu : Fuses) (m seq op : Nat) (k : Msg → Pkg → Pkg × Fuses) : Pkg × Fuses :=
  match s.take m seq op with
  | some j => if s.mpTakes m seq j then k j (s.dispatchCmd m seq) else (s, fu)
  | none => (s, fu)

/-- A fuse write is allowed (R202): every rail is in range, as it was for the 10 ms before (`steady`). -/
def Pkg.fuseSupply (s : Pkg) (steady : Bool) : Bool := steady && s.railsIn

/-! ## Keys (R199-R201) -/

/-- Key and expected check value of a key command. -/
def Msg.key (j : Msg) : Nat := j.arg 0 32
@[inherit_doc Msg.key] def Msg.kcv (j : Msg) : Nat := j.arg 32 4

/-- KEY_EF_PROGRAM may blow nothing: a bit of the key or its check field is blown, or EF_KEY_DIS is set (R200). -/
def Fuses.keyBarred (fu : Fuses) : Bool := fu.efKeyDis || fu.key != 0 || fu.check != 0

/-- KEY_EF_PROGRAM; `reads` tells that every written bit reads back. A key that does not verify is disabled in the same operation; what it
reads as is then not stated. -/
def Pkg.efProgram (s : Pkg) (fu : Fuses) (m seq : Nat) (steady reads : Bool) : Pkg × Fuses :=
  s.performF fu m seq 0x60 fun j s =>
    if fu.keyBarred then (s.finish m seq .rejected .policy, fu)
    else if !s.fuseSupply steady then (s.finish m seq .rejected .supply, fu)
    else if j.kcv ≠ kcvOf j.key then (s.finish m seq .rejected .badArgs, fu)
    else if reads then (s.finish m seq .ok .none (leVals j.kcv 4), { fu with key := j.key, check := j.kcv, keyOk := true })
    else
      let (v, s) := s.draw 256
      let (c, s) := s.draw 32
      (s.finish m seq .fault .verify, { fu with key := v, check := c, keyOk := false, efKeyDis := true })

/-- Slot A, or slot B, is replaced. -/
def Pkg.setSlot (s : Pkg) (b : Bool) (x : KeySlot) : Pkg := if b then { s with slotB := x } else { s with slotA := x }

/-- The slot a key write goes to and the sequence number its commit word gets (R201). With no valid slot, neither is stated. -/
def Pkg.slotNext (s : Pkg) : (Bool × Nat) × Pkg :=
  match s.slotActive with
  | some b => ((!b, ((if b then s.slotB.seq else s.slotA.seq) + 1) % 2 ^ 16), s)
  | none =>
    let (b, s) := s.draw 1
    let (n, s) := s.draw 16
    ((b == 1, n), s)

/-- A slot whose write did not end: it does not check, and what it holds is not stated. -/
def Pkg.brokenSlot (s : Pkg) : KeySlot × Pkg :=
  let (k, s) := s.draw 256
  let (c, s) := s.draw 32
  let (n, s) := s.draw 16
  ({ key := k, kcv := c, seq := n, ok := false }, s)

/-- KEY_BB_WRITE; `reads` tells that key and check value read back. -/
def Pkg.bbWrite (s : Pkg) (fu : Fuses) (m seq : Nat) (reads : Bool) : Pkg :=
  s.perform m seq 0x61 fun j s =>
    if fu.bbKeyDis then s.finish m seq .rejected .policy
    else if j.kcv ≠ kcvOf j.key then s.finish m seq .rejected .badArgs
    else
      let ((b, n), s) := s.slotNext
      if reads then
        (s.setSlot b { key := j.key, kcv := j.kcv, seq := n, ok := true }).finish m seq .ok .none (leVals j.kcv 4 ++ [b2n b])
      else
        let (x, s) := s.brokenSlot
        (s.setSlot b x).finish m seq .fault .verify

/-- KEY_BB_ZERO. -/
def Pkg.bbZero (s : Pkg) (m seq : Nat) : Pkg :=
  s.perform m seq 0x62 fun _ s => { s with slotA := {}, slotB := {} }.finish m seq .ok .none

/-! ## Policy fuses (R199, R202) -/

/-- Blow the policy bits of a mask. -/
def Fuses.blow (fu : Fuses) (mask : Nat) : Fuses :=
  { fu with secure := fu.secure || bit mask 0, efKeyDis := fu.efKeyDis || bit mask 1, bbKeyDis := fu.bbKeyDis || bit mask 2 }

/-- CFG_SEC[2:0]. -/
def Fuses.sec (fu : Fuses) : Nat := b2n fu.secure + 2 * b2n fu.efKeyDis + 4 * b2n fu.bbKeyDis

/-- FUSE_POLICY; `stuck` masks the bits that do not read back when written twice. -/
def Pkg.fusePolicy (s : Pkg) (fu : Fuses) (m seq : Nat) (steady : Bool) (stuck : Nat) : Pkg × Fuses :=
  s.performF fu m seq 0x63 fun j s =>
    let ask := j.arg 0 1 % 8
    if !s.fuseSupply steady then (s.finish m seq .rejected .supply, fu)
    else
      let got := maskOf 3 fun b => bit ask b && (!bit stuck b || bit fu.sec b)
      let fu := fu.blow got
      (if got = ask then s.finish m seq .ok .none [fu.sec] else s.finish m seq .fault .verify, fu)

/-! ## Management processors (R350) -/

/-- MP_RESTART. A die whose processor has FAILED does not come back. -/
def Pkg.mpRestartCmd (s : Pkg) (m seq : Nat) : Pkg :=
  s.perform m seq 0x70 fun j s =>
    let d := j.arg 0 1
    let st := s.g .MBX_MP_STAT_STATE d
    if st = 4 ∨ !s.dieOk d then s.finish m seq .fault .mpFailed
    else if st = 3 then s.started m seq
    else (s.started m seq).mpRestart d

/-! ## Loss of power (R453, R454) -/

/-- The command of mailbox `m` that a loss of power interrupts was being performed. -/
def Pkg.cutCmd (s : Pkg) (m seq op : Nat) : Option Msg := (s.take m seq op).filter fun j => s.mpTakes m seq j

/-- What the fuses read after an interrupted write. Generation bits are written in phase 6 alone (R195): the power is lost within the commit that
was due next, and some of its bits are blown. -/
def Pkg.cutFuses (s : Pkg) (fu : Fuses) (c : CutWrite) : Fuses :=
  match c with
  | .efKey m seq key check =>
    match s.cutCmd m seq 0x60 with
    | some j =>
      if fu.keyBarred || !s.railsIn || j.kcv != kcvOf j.key then fu
      else
        let k := j.key &&& key
        let c := j.kcv &&& check
        { fu with key := k, check := c, keyOk := (k != 0 || c != 0) && c == kcvOf k }
    | none => fu
  | .policy m seq set =>
    match s.cutCmd m seq 0x63 with
    | some j => if s.railsIn then fu.blow (j.arg 0 1 &&& set) else fu
    | none => fu
  | .gen n =>
    let r := if s.waiting then s.commit fu.gen (some 64) else s.loadCheck fu.gen true (some 64)
    if s.load.active && (s.waiting || s.loadersAct) && r.1.g .CFG_LOAD_STAT_PHASE 0 == 6 then { fu with gen := max fu.gen (min n r.2) } else fu
  | _ => fu

/-- The key memory after an interrupted write. -/
def Pkg.cutSlots (s : Pkg) (fu : Fuses) (c : CutWrite) : Pkg :=
  match c with
  | .bbKey m seq =>
    match s.cutCmd m seq 0x61 with
    | some j =>
      if fu.bbKeyDis || j.kcv != kcvOf j.key then s
      else
        let ((b, _), s) := s.slotNext
        let (x, s) := s.brokenSlot
        s.setSlot b x
    | none => s
  | _ => s

/-- The package in reset: the part, the key memory, what is outside the package, and nothing else of what it held (R453). -/
def Pkg.unpowered (s : Pkg) (fu : Fuses) : Pkg :=
  let t : Pkg := { part := s.part, fresh := s.fresh, slotA := s.slotA, slotB := s.slotB, pins := { pad := s.pins.pad, supply := s.pins.supply },
                   host := s.host }
  t.p .DBG_PORT_CTL 0 (b2n !fu.secure)

/-- POWER_LOSS. -/
def Pkg.powerLoss (s : Pkg) (fu : Fuses) (c : CutWrite) : Pkg × Fuses :=
  let fu' := s.cutFuses fu c
  ((s.cutSlots fu c).unpowered fu', fu')

end Sys2Proof.Machine
end

