-- ==== Sys2Proof/Machine/CmdOps.lean ====
section
/-!
DEFINITION. How a command of the table reaches the shared operations: the bus requests that window, register and alias writes make, the write of
one field of a register, and the taking in of flits.
-/
namespace Sys2Proof.Machine

/-! ## Register and window accesses (R312, R317, R322) -/

/-- A write of the service address space. -/
def busWrite (init : Nat) (inst : Option Nat) (addr : Nat) (data : List Nat) (be : Option Nat) : BusReq :=
  { write := true, init := init, inst := inst, addr := addr, len := 4 * data.length, be := be, data := data }

/-- A write of a window of die `die` at its offset `off`; `base` is the window's offset in the die. -/
def winWrite (init : Nat) (inst : Option Nat) (base die off : Nat) (data : List Nat) (be : Option Nat) : BusReq :=
  busWrite init inst (die * 2 ^ 37 + base + off) data be

/-- Alias address of bit `n` of the register word `o` of die `d` (R322). -/
def aliasAddr (d o n : Nat) : Nat := d * 2 ^ 37 + aliasBase + o * 128 + n * 4

/-- A write of `v` to the `wd` bits from `lo` of a register by its name; no other field is written. -/
def Pkg.fieldCmd (s : Pkg) (b : Blk) (n : Reg) (idx init lo wd v : Nat) : Pkg :=
  match specOf b n with
  | none => s
  | some r =>
    let m := (2 ^ wd - 1) * 2 ^ lo
    s.regCmdBy b r idx init (s.fullWord r idx (v * 2 ^ lo) m) 0 fun s => s.regWrite init none r idx (v * 2 ^ lo) m

/-- A write of SCH_FLOW_ANS_HI, or of the pair (R361). -/
def Pkg.answerCall (s : Pkg) (f init : Nat) (lo : Option Nat) (hi : Nat) : Pkg :=
  match lo, specOf .SCH .SCH_FLOW_ANS_LO, specOf .SCH .SCH_FLOW_ANS_HI with
  | some l, some rl, some rh => s.regCmdBy .SCH rl f init (l % 2 ^ 32 + hi * 2 ^ 32) 2 fun s => s.pairWrite init none rl rh f (l % 2 ^ 32 + hi * 2 ^ 32)
  | _, _, _ => s.regCmd .SCH .SCH_FLOW_ANS_HI f init hi

/-- A write of ADC_REF_CTRL where it is known whether the two references lie far apart (R436). -/
def Pkg.refCtrlCmd (s : Pkg) (init w : Nat) (far : Bool) : Pkg :=
  match specOf .ADC .ADC_REF_CTRL with
  | none => s
  | some r => s.regCmdBy .ADC r 0 init w 0 fun s => s.refCtrl (s.fullWord r 0 w 0xFFFFFFFF) far

/-! ## Queues (R149, R173) -/

/-- A request in flight returns; an uncorrectable block also ends a relocation of its instance. -/
def Pkg.queueReturn (s : Pkg) (k n lat : Nat) (e : Ecc) : Pkg :=
  match (s.qport k).fly[n]? with
  | none => s
  | some r =>
    let t := s.resultReturn k n lat e
    if (t.qport k).fly.length < (s.qport k).fly.length then t.ueAbandon r.inst e else t

/-- Patrol scrub reads a block; an uncorrectable one of an instance's slice ends a relocation of it. -/
def Pkg.patrolRead (s : Pkg) (j a : Nat) (e : Ecc) : Pkg :=
  if j < s.part.model.stacks ∧ a < stackBytes then (s.patrol j a e).segAbandon j a e else s

/-! ## Boundary scan (R233, R234) -/

/-- Opcode `ir` with a scan of the register it selects: the boundary-scan register captures the pads and takes what is shifted in (R232, R233). -/
def Pkg.scanCells (s : Pkg) (ir : Nat) (upd pads : List (Nat × Nat)) : Pkg :=
  let s := (s.setPads pads).scanIR ir
  if s.tapReg ir = .bscan then s.scanCapture.scanUpdate upd else s
/-- EXTEST: the cells are then driven from the register. -/
def Pkg.extest (s : Pkg) (upd pads : List (Nat × Nat)) : Pkg := s.scanCells 0 upd pads
/-- SAMPLE/PRELOAD: the cells are left alone. -/
def Pkg.samplePreload (s : Pkg) (upd pads : List (Nat × Nat)) : Pkg := s.scanCells 2 upd pads

/-! ## Flits (R256, R259, R277) -/

/-- An IDLE flit carries nothing; it shows that the link is alive (R272). -/
def Pkg.idleFlit (s : Pkg) (q : Nat) : Pkg := if s.portSt q = .up then s.life q else s

/-- A sequenced flit on channel `v`: its payload is taken when it is accepted. -/
def Pkg.seqFlit (s : Pkg) (q seq v : Nat) (f : Pkg → Pkg) : Pkg :=
  let (s, ok) := s.rxSeq q seq v
  if ok then f s else s

/-- The flit that `w` spells reaches port `q` bad or out of order (R256, R259): a bad one is answered with a NAK, a sequenced one by its class. One
that is good and due is a flit of its own type, whose command says what it does. -/
def Pkg.oddFlit (s : Pkg) (q w : Nat) : Pkg :=
  match Flit.ofImage (s.strapped q) w with
  | none => s.badFlit q
  | some (seq, f) =>
    match f.vc with
    | some v => if s.portSt q = .up ∧ seq ≠ s.g .LNK_SEQ_RX_EXP q then (s.rxSeq q seq v).1 else s
    | none => s

/-- A MEM flit (R256). A Series 1 port has no MEM channel: there the flit is bad (R283). -/
def Pkg.memFlit (s : Pkg) (q seq : Nat) (f : Pkg → Pkg) : Pkg := if s.strapped q then s.badFlit q else s.seqFlit q seq 1 f

/-- Where a MEM flit of KIND 3 may write: the reserved area, segments 0 to 7 of stack 0 (R144). -/
def reservedKey (a : Nat) : Option Nat := if a < 8 * segBytes then some a else none

/-- A control message as a CTL flit carries it. -/
def ctlMsg (src dst : Nat) (bcast : Bool) (inst : Nat) (body : Ctl) : CtlMsg :=
  { src := src, dst := dst, bcast := bcast, inst := inst, body := body }

/-- `Pkg.ctlIn` for a message whose effect may advance the fused generation. -/
def Pkg.ctlGen (s : Pkg) (q seq : Nat) (m : CtlMsg) (gen : Nat) (act : Pkg → Pkg × Nat) : Pkg × Nat :=
  let (s, mine) := s.ctlTake q seq m
  if mine then act s else (s, gen)

end Sys2Proof.Machine
end

