-- ==== Sys2Proof/Machine/State.lean ====
section
/-!
DEFINITION. The state of the machine: the package, its one-time fuses, and the queue of commands that wait.
-/
namespace Sys2Proof.Machine

/-- The state. `pending` holds the commands that wait, first in, first out; `fuses` the one-time fuses (R199-R203); `pkg` everything else. -/
structure State where
  pending : List Instr := []
  fuses   : Fuses := {}
  pkg     : Pkg := {}
deriving DecidableEq, Repr

/-- Why the machine could stop with a fault: no command does. Every fault that the spec describes is an effect on the state. -/
inductive Fault where
deriving DecidableEq, Repr

/-- Why the machine could answer no meaning. -/
inductive Refusal where
  /-- Raised by `exec` on a row of the table that has no meaning yet; no arm raises it. Safe: the machine goes no further. -/
  | notModelled (mnemonic : String)
deriving DecidableEq, Repr

/-- The part before it leaves reset (R318, R431): every register at its reset value, every memory unwritten, no fuse blown, no command waiting. A
log entry names each value that the spec does not give. -/
def State.reset : State := {}

/-! ## How a command changes the state -/

/-- A command that changes the package only. -/
def State.onPkg (st : State) (f : Pkg → Pkg) : Host.Outcome State Fault Refusal := .next { st with pkg := f st.pkg }
/-- A command that changes the package only, and that the fuses govern. -/
def State.onPkgF (st : State) (f : Fuses → Pkg → Pkg) : Host.Outcome State Fault Refusal := .next { st with pkg := f st.fuses st.pkg }
/-- A command that may blow fuses. -/
def State.onBoth (st : State) (f : Fuses → Pkg → Pkg × Fuses) : Host.Outcome State Fault Refusal :=
  .next { st with pkg := (f st.fuses st.pkg).1, fuses := (f st.fuses st.pkg).2 }
/-- A command that may advance the fused generation (R203). -/
def State.onGen (st : State) (f : Nat → Pkg → Pkg × Nat) : Host.Outcome State Fault Refusal :=
  .next { st with pkg := (f st.fuses.gen st.pkg).1, fuses := { st.fuses with gen := (f st.fuses.gen st.pkg).2 } }

end Sys2Proof.Machine
end

