-- ==== Sys2Proof/Machine/CmdArray.lean ====
section
/-!
DEFINITION. The commands of the array: its steps and boundaries, run control, the data-store and word-unit windows, and the die bridges (R18-R43, R57-R92).
-/
namespace Sys2Proof.Machine

/-- ARRAY_STEP (R18): Every BP and word unit of a RUNNING instance executes its slot for the current step index, and every fabric stage moves its bit.
-/
def execArrayStep (i : Fin 16) (perr : List (Fin 32 × Fin 8 × BitVec 33) × List (BitVec 32 × List (Fin 4128))) (st : State) :
    Host.Outcome State Fault Refusal :=
  st.onPkg fun s => (s.upsets (perr.2.map fun e => (e.1.toNat, e.2.map Fin.val))).arrayStep i.val (perr.1.map fun e => (e.1.val, e.2.1.val, e.2.2.toNat))

/-- STALL_RELEASE (R30): The awaited data arrives and the held step executes 2 step periods later. -/
def execStallRelease (i : Fin 16) (st : State) : Host.Outcome State Fault Refusal :=
  st.onPkg fun s => s.stallRelease i.val

/-- MAJOR_CYCLE_BOUNDARY (R22): After step D - 1 the device performs the boundary sequence of Table 10 in order. -/
def execMajorCycleBoundary (i : Fin 16) (pads : List (Fin 1024 × Fin 3)) (st : State) : Host.Outcome State Fault Refusal :=
  st.onPkg fun s => (s.setPads (pads.map fun e => (e.1.val, e.2.val))).majorBoundary i.val

/-- FLOW_HOLD_RELEASE (R30): An entry frees and the held boundary continues from row 5 two periods later. -/
def execFlowHoldRelease (i : Fin 16) (pads : List (Fin 1024 × Fin 3)) (st : State) : Host.Outcome State Fault Refusal :=
  st.onPkg fun s => (s.setPads (pads.map fun e => (e.1.val, e.2.val))).holdRelease i.val

/-- CALL_TIMEOUT (R32): A CALL stall reaches ARY_CALL_TMO and the instance becomes FAULTED. -/
def execCallTimeout (i : Fin 16) (st : State) : Host.Outcome State Fault Refusal :=
  st.onPkg fun s => s.callTimeout i.val

/-- START (R41): ARY_RUN_CTL.START moves a LOADED instance to RUNNING. -/
def execStart (i : Fin 16) (init : Fin 128) (pads : List (Fin 1024 × Fin 3)) (st : State) : Host.Outcome State Fault Refusal :=
  st.onPkg fun s => (s.setPads (pads.map fun e => (e.1.val, e.2.val))).regCmd .ARY .ARY_RUN_CTL i.val init.val 1

/-- PAUSE (R41): ARY_RUN_CTL.PAUSE requests PAUSED at the next boundary. -/
def execPause (i : Fin 16) (init : Fin 128) (st : State) : Host.Outcome State Fault Refusal :=
  st.onPkg fun s => s.regCmd .ARY .ARY_RUN_CTL i.val init.val 2

/-- RESUME (R41): ARY_RUN_CTL.RESUME returns a PAUSED or FROZEN instance to RUNNING. -/
def execResume (i : Fin 16) (init : Fin 128) (st : State) : Host.Outcome State Fault Refusal :=
  st.onPkg fun s => s.regCmd .ARY .ARY_RUN_CTL i.val init.val 4

/-- FREEZE (R41): ARY_RUN_CTL.FREEZE requests FROZEN with cause HOST_FREEZE at the next boundary. -/
def execFreeze (i : Fin 16) (init : Fin 128) (st : State) : Host.Outcome State Fault Refusal :=
  st.onPkg fun s => s.regCmd .ARY .ARY_RUN_CTL i.val init.val 8

/-- SNAP (R41): ARY_RUN_CTL.SNAP captures the instance counters at one step boundary. -/
def execSnap (i : Fin 16) (init : Fin 128) (st : State) : Host.Outcome State Fault Refusal :=
  st.onPkg fun s => s.regCmd .ARY .ARY_RUN_CTL i.val init.val 16

/-- DATA_STORE_WRITE (R62): A write to the ARY data-store window, served or refused by run state. -/
def execDataStoreWrite (init : Fin 128) (inst : Option (Fin 16)) (d : Fin 8) (off : Fin 33554432) (data : List (BitVec 32)) (be : Option Nat) (st :
    State) : Host.Outcome State Fault Refusal :=
  st.onPkgF fun fu s => (s.access fu (winWrite init.val (inst.map Fin.val) 0x04000000 d.val off.val (data.map BitVec.toNat) be)).2

/-- WU_STATE_WRITE (R119): A write to the word-unit state window, with its refusals. -/
def execWuStateWrite (init : Fin 128) (inst : Option (Fin 16)) (d : Fin 8) (off : Fin 8388608) (data : List (BitVec 32)) (be : Option Nat) (st :
    State) : Host.Outcome State Fault Refusal :=
  st.onPkgF fun fu s => (s.access fu (winWrite init.val (inst.map Fin.val) 0x08000000 d.val off.val (data.map BitVec.toNat) be)).2

/-- BRIDGE_ALIGNMENT_LOSS (R79): A bridge phase error leaves its window, and instances owning its blocks become FAULTED. -/
def execBridgeAlignmentLoss (d : Fin 8) (k : Fin 4) (st : State) : Host.Outcome State Fault Refusal :=
  st.onPkg fun s => s.alignmentLoss d.val k.val

/-- BRIDGE_REALIGNMENT (R79): The firmware realigns a Leard bridge once no instance owns a block on it, and ALIGNED is set again. -/
def execBridgeRealignment (d : Fin 8) (k : Fin 4) (st : State) : Host.Outcome State Fault Refusal :=
  st.onPkg fun s => s.realignBridge d.val k.val

end Sys2Proof.Machine
end

