-- ==== Sys2Proof/Machine/CmdCaves.lean ====
section
/-!
DEFINITION. The commands of the cave memory: owners and handover, atoms, the window and the march (R122-R142).
-/
namespace Sys2Proof.Machine

/-- CAV_OWN_WRITE (R133): A write to CAV_OWN requests a bank handover. -/
def execCavOwnWrite (b : Fin 8192) (init : Fin 128) (w : BitVec 32) (st : State) : Host.Outcome State Fault Refusal :=
  st.onPkg fun s => s.regCmd .CAV .CAV_OWN b.val init.val w.toNat

/-- HANDOVER_COMPLETE (R133): A waiting bank handover takes effect once old-owner accesses complete or the boundary is reached. -/
def execHandoverComplete (b : Fin 8192) (st : State) : Host.Outcome State Fault Refusal :=
  st.onPkg fun s => s.handover b.val

/-- CAVE_ATOM_ADD (R137): CAV_ATOM_CMD with OP ADD performs an atomic add for a non-instance owner. -/
def execCaveAtomAdd (b : Fin 8192) (init : Fin 128) (a : BitVec 14) (v : BitVec 16) (st : State) : Host.Outcome State Fault Refusal :=
  st.onPkg fun s => s.regCmd .CAV .CAV_ATOM_CMD b.val init.val (a.toNat + 2 * 2 ^ 14 + v.toNat * 2 ^ 16)

/-- CAVE_ATOM_SWAP (R137): CAV_ATOM_CMD with OP SWAP performs an atomic swap for a non-instance owner. -/
def execCaveAtomSwap (b : Fin 8192) (init : Fin 128) (a : BitVec 14) (v : BitVec 16) (st : State) : Host.Outcome State Fault Refusal :=
  st.onPkg fun s => s.regCmd .CAV .CAV_ATOM_CMD b.val init.val (a.toNat + 3 * 2 ^ 14 + v.toNat * 2 ^ 16)

/-- CAVE_WINDOW_WRITE (R136): A write to the CAV window, served or refused by owner and run state. -/
def execCaveWindowWrite (init : Fin 128) (inst : Option (Fin 16)) (d : Fin 8) (off : Fin 33554432) (data : List (BitVec 32)) (be : Option Nat) (st :
    State) : Host.Outcome State Fault Refusal :=
  st.onPkgF fun fu s => (s.access fu (winWrite init.val (inst.map Fin.val) 0x06000000 d.val off.val (data.map BitVec.toNat) be)).2

/-- MARCH_START (R141): CAV_MARCH_CTL.START begins a march on firmware-owned banks. -/
def execMarchStart (p : Fin 512) (init : Fin 128) (mode : Fin 2) (set : BitVec 16) (st : State) : Host.Outcome State Fault Refusal :=
  st.onPkg fun s => s.regCmd .CAV .CAV_MARCH_CTL p.val init.val (1 + mode.val * 2 + set.toNat * 2 ^ 16)

/-- MARCH_DONE (R139): A march ends and results and CAV_AVAIL are rewritten. -/
def execMarchDone (p : Fin 512) (fails : List (Fin 16 × List (BitVec 14 × BitVec 16))) (st : State) : Host.Outcome State Fault Refusal :=
  st.onPkg fun s => s.marchDone p.val (fails.map fun e => (e.1.val, e.2.map fun x => (x.1.toNat, x.2.toNat)))

end Sys2Proof.Machine
end

