-- ==== Sys2Proof/Machine/CmdControl.lean ====
section
/-!
DEFINITION. The control messages of a cascade and their time limits (R192, R276-R283).
-/
namespace Sys2Proof.Machine

/-- READY (R192): A READY control message reaches the master during a cascade commit. -/
def execReady (q : Fin 32) (seq : BitVec 12) (src : Fin 64) (dst : Fin 64) (bcast : Bool) (uid : BitVec 64) (mask : BitVec 16) (blow : Option (BitVec 7)) (st :
    State) : Host.Outcome State Fault Refusal :=
  st.onGen fun gen s => s.ctlGen q.val seq.toNat (ctlMsg src.val dst.val bcast 0 (.ready uid.toNat mask.toNat)) gen fun s => s.onReady src.val
    uid.toNat mask.toNat gen (blow.map BitVec.toNat)

/-- FAIL (R192): A FAIL control message reaches the master and it sends ABORT. -/
def execFail (q : Fin 32) (seq : BitVec 12) (src : Fin 64) (dst : Fin 64) (bcast : Bool) (code : BitVec 4) (st : State) : Host.Outcome State Fault
    Refusal :=
  st.onPkg fun s => s.ctlIn q.val seq.toNat (ctlMsg src.val dst.val bcast 0 (.fail code.toNat)) fun s => s.onFail

/-- COMMIT (R192): A COMMIT message makes a package commit its load. -/
def execCommit (q : Fin 32) (seq : BitVec 12) (src : Fin 64) (dst : Fin 64) (bcast : Bool) (blow : Option (BitVec 7)) (st : State) : Host.Outcome State Fault
    Refusal :=
  st.onGen fun gen s => s.ctlGen q.val seq.toNat (ctlMsg src.val dst.val bcast 0 .commit) gen fun s => s.onCommit gen (blow.map BitVec.toNat)

/-- ABORT (R192): An ABORT message fails the load with PEER_FAIL. -/
def execAbort (q : Fin 32) (seq : BitVec 12) (src : Fin 64) (dst : Fin 64) (bcast : Bool) (st : State) : Host.Outcome State Fault Refusal :=
  st.onPkg fun s => s.ctlIn q.val seq.toNat (ctlMsg src.val dst.val bcast 0 .abort) fun s => s.onAbort bcast

/-- COMMIT_ACK (R192): A package's acknowledgement of COMMIT reaches the master. -/
def execCommitAck (q : Fin 32) (seq : BitVec 12) (src : Fin 64) (dst : Fin 64) (bcast : Bool) (st : State) : Host.Outcome State Fault Refusal :=
  st.onPkg fun s => s.ctlIn q.val seq.toNat (ctlMsg src.val dst.val bcast 0 .commitAck) fun s => s.onCommitAck src.val

/-- CAS_START (R279): A START control message asks a package to start or resume at start count C. -/
def execCasStart (q : Fin 32) (seq : BitVec 12) (src : Fin 64) (dst : Fin 64) (bcast : Bool) (i : Fin 16) (count : BitVec 64) (resume : Bool) (told :
    BitVec 64) (st : State) : Host.Outcome State Fault Refusal :=
  st.onPkg fun s => s.ctlIn q.val seq.toNat (ctlMsg src.val dst.val bcast i.val (.start count.toNat resume)) fun s => s.onStart i.val count.toNat
    resume told.toNat

/-- START_ACK (R279): A START_ACK reports acceptance or refusal to the master. -/
def execStartAck (q : Fin 32) (seq : BitVec 12) (src : Fin 64) (dst : Fin 64) (bcast : Bool) (i : Fin 16) (code : BitVec 4) (st : State) :
    Host.Outcome State Fault Refusal :=
  st.onPkg fun s => s.ctlIn q.val seq.toNat (ctlMsg src.val dst.val bcast i.val (.startAck code.toNat)) fun s => s.startAckIn i.val src.val
    code.toNat

/-- START_CANCEL (R279): A START_CANCEL message keeps the package LOADED. -/
def execStartCancel (q : Fin 32) (seq : BitVec 12) (src : Fin 64) (dst : Fin 64) (bcast : Bool) (i : Fin 16) (st : State) : Host.Outcome State Fault
    Refusal :=
  st.onPkg fun s => s.ctlIn q.val seq.toNat (ctlMsg src.val dst.val bcast i.val .startCancel) fun s => s.onStartCancel i.val

/-- CAS_STOP_AT (R280): A STOP_AT message writes the common stop cycle, or faults a package already past it. -/
def execCasStopAt (q : Fin 32) (seq : BitVec 12) (src : Fin 64) (dst : Fin 64) (bcast : Bool) (i : Fin 16) (cycle : BitVec 64) (cause : BitVec 4) (st
    : State) : Host.Outcome State Fault Refusal :=
  st.onPkg fun s => s.ctlIn q.val seq.toNat (ctlMsg src.val dst.val bcast i.val (.stopAt cycle.toNat cause.toNat)) fun s => s.takeStopAt i.val
    cycle.toNat cause.toNat

/-- FREEZE_NOW (R213): A FREEZE_NOW message freezes the package at its current step. -/
def execFreezeNow (q : Fin 32) (seq : BitVec 12) (src : Fin 64) (dst : Fin 64) (bcast : Bool) (i : Fin 16) (cause : BitVec 4) (st : State) :
    Host.Outcome State Fault Refusal :=
  st.onPkg fun s => s.ctlIn q.val seq.toNat (ctlMsg src.val dst.val bcast i.val (.freezeNow cause.toNat)) fun s => s.freezeNow i.val cause.toNat

/-- CAS_EVENT (R280): An EVENT message asks the master to stop the cascade with a cause. -/
def execCasEvent (q : Fin 32) (seq : BitVec 12) (src : Fin 64) (dst : Fin 64) (bcast : Bool) (i : Fin 16) (cause : BitVec 4) (mcc : BitVec 64) (st :
    State) : Host.Outcome State Fault Refusal :=
  st.onPkg fun s => s.ctlIn q.val seq.toNat (ctlMsg src.val dst.val bcast i.val (.event cause.toNat mcc.toNat)) fun s => s.onEvent i.val cause.toNat

/-- HALT (R278): A HALT message makes the cascade instance FAULTED with PEER_LOST. -/
def execHalt (q : Fin 32) (seq : BitVec 12) (src : Fin 64) (dst : Fin 64) (bcast : Bool) (i : Fin 16) (pkg : Fin 64) (st : State) : Host.Outcome State
    Fault Refusal :=
  st.onPkg fun s => s.ctlIn q.val seq.toNat (ctlMsg src.val dst.val bcast i.val (.halt pkg.val)) fun s => s.peerLost i.val

/-- HEARTBEAT (R278): A HEARTBEAT message marks its package alive at the master. -/
def execHeartbeat (q : Fin 32) (seq : BitVec 12) (src : Fin 64) (dst : Fin 64) (bcast : Bool) (st : State) : Host.Outcome State Fault Refusal :=
  st.onPkg fun s => s.ctlIn q.val seq.toNat (ctlMsg src.val dst.val bcast 0 .heartbeat) fun s => s

/-- FLUSH (R264): A FLUSH message exchanges flush request or done for SCH entries on a port. -/
def execFlush (q : Fin 32) (seq : BitVec 12) (src : Fin 64) (dst : Fin 64) (bcast : Bool) (i : Fin 16) (done : Bool) (st : State) : Host.Outcome State
    Fault Refusal :=
  st.onPkg fun s => s.ctlIn q.val seq.toNat (ctlMsg src.val dst.val bcast i.val (.flush done)) fun s => s.onFlush q.val done

/-- LP_REQ (R275): An LP_REQ message carries the partner's low-power request. -/
def execLpReq (q : Fin 32) (seq : BitVec 12) (src : Fin 64) (dst : Fin 64) (bcast : Bool) (i : Fin 16) (lp : Fin 4) (st : State) : Host.Outcome State
    Fault Refusal :=
  st.onPkg fun s => s.ctlIn q.val seq.toNat (ctlMsg src.val dst.val bcast i.val (.lpReq lp.val)) fun s => s.onLpReq q.val lp.val

/-- FAULT_NOTE (R278): A FAULT_NOTE message faults the cascade instance with PEER_LOST. -/
def execFaultNote (q : Fin 32) (seq : BitVec 12) (src : Fin 64) (dst : Fin 64) (bcast : Bool) (i : Fin 16) (st : State) : Host.Outcome State Fault
    Refusal :=
  st.onPkg fun s => s.ctlIn q.val seq.toNat (ctlMsg src.val dst.val bcast i.val .faultNote) fun s => s.onFaultNote q.val

/-- HEARTBEAT_SEND (R278): Every 100 µs a slave sends HEARTBEAT. -/
def execHeartbeatSend (st : State) : Host.Outcome State Fault Refusal :=
  st.onPkg fun s => s.heartbeatSend

/-- PEER_TIMEOUT (R278): A package is silent for LNK_CAS_PEER_TMO and the master records it lost and sends HALT. -/
def execPeerTimeout (n : Fin 64) (st : State) : Host.Outcome State Fault Refusal :=
  st.onPkg fun s => s.peerTimeout n.val

/-- START_ACK_DEADLINE (R279): START_ACKs are incomplete at C minus 10 µs and the master cancels the start. -/
def execStartAckDeadline (st : State) : Host.Outcome State Fault Refusal :=
  st.onPkg fun s => s.startDeadline

/-- CASCADE_START_COUNT (R279): LNK_STEP_CNT reaches C and the package enters RUNNING. -/
def execCascadeStartCount (i : Fin 16) (pads : List (Fin 1024 × Fin 3)) (st : State) : Host.Outcome State Fault Refusal :=
  st.onPkg fun s => (s.setPads (pads.map fun e => (e.1.val, e.2.val))).startCountDue i.val

end Sys2Proof.Machine
end

