-- ==== Sys2Proof/Machine/CmdDebug.lean ====
section
/-!
DEFINITION. The commands of debug and run control (R414-R430).
-/
namespace Sys2Proof.Machine

/-- DBG_ACCESS (R415): An ACCESS scan issues one service-ring access from the debug port. -/
def execDbgAccess (dr : BitVec 80) (st : State) : Host.Outcome State Fault Refusal :=
  st.onPkgF fun fu s => s.dbgAccess fu dr.toNat

/-- DBG_PSTAT (R414): A PSTAT scan captures DBG_PORT_STAT. -/
def execDbgPstat (st : State) : Host.Outcome State Fault Refusal :=
  st.onPkg fun s => s.dbgPstat

/-- DBG_XTRIG (R424): An XTRIG scan captures channel status and pulses chosen channels. -/
def execDbgXtrig (mask : BitVec 4) (st : State) : Host.Outcome State Fault Refusal :=
  st.onPkg fun s => s.dbgXtrig mask.toNat

/-- DBG_IDCODE (R414): A debug-port IDCODE scan returns the IDCODE. -/
def execDbgIdcode (st : State) : Host.Outcome State Fault Refusal :=
  st.onPkg fun s => s.dbgIdcode

/-- DBG_BYPASS (R414): A debug-port BYPASS selects the bypass register. -/
def execDbgBypass (st : State) : Host.Outcome State Fault Refusal :=
  st.onPkg fun s => s.dbgBypass

/-- MP_HALT (R417): DBG_MP_CTL.HALT halts an MP at its next instruction boundary. -/
def execMpHalt (d : Fin 8) (init : Fin 128) (st : State) : Host.Outcome State Fault Refusal :=
  st.onPkg fun s => s.fieldCmd .DBG .DBG_MP_CTL d.val init.val 0 1 1

/-- MP_RESUME (R417): DBG_MP_CTL.RESUME continues a halted MP. -/
def execMpResume (d : Fin 8) (init : Fin 128) (st : State) : Host.Outcome State Fault Refusal :=
  st.onPkg fun s => s.fieldCmd .DBG .DBG_MP_CTL d.val init.val 1 1 1

/-- MP_STEP (R417): DBG_MP_CTL.STEP executes one instruction and halts again. -/
def execMpStep (d : Fin 8) (init : Fin 128) (st : State) : Host.Outcome State Fault Refusal :=
  st.onPkg fun s => s.fieldCmd .DBG .DBG_MP_CTL d.val init.val 2 1 1

/-- MP_BREAKPOINT (R417): An MP executes a breakpoint instruction and halts. -/
def execMpBreakpoint (d : Fin 8) (st : State) : Host.Outcome State Fault Refusal :=
  st.onPkg fun s => s.mpBreak d.val

/-- MP_REG_WRITE (R418): A write to DBG_MP_REG changes a halted MP register. -/
def execMpRegWrite (d : Fin 8) (init : Fin 128) (w : BitVec 64) (st : State) : Host.Outcome State Fault Refusal :=
  st.onPkg fun s => s.regCmd .DBG .DBG_MP_REG d.val init.val w.toNat 2

/-- MP_FEED (R418): A write to DBG_MP_FEED executes one instruction in the halted context. -/
def execMpFeed (d : Fin 8) (init : Fin 128) (insn : BitVec 32) (o : FeedOut) (st : State) : Host.Outcome State Fault Refusal :=
  st.onPkgF fun fu s => s.mpFeed fu d.val init.val insn.toNat o

/-- XT_PULSE (R424): DBG_XT_PULSE pulses cross-trigger channels, which act on their sinks. -/
def execXtPulse (init : Fin 128) (mask : BitVec 4) (st : State) : Host.Outcome State Fault Refusal :=
  st.onPkg fun s => s.regCmd .DBG .DBG_XT_PULSE 0 init.val mask.toNat

/-- XTRIG_IN (R424): A falling edge on DBG_XTRIG_IN pulses selected channels. -/
def execXtrigIn (st : State) : Host.Outcome State Fault Refusal :=
  st.onPkg fun s => s.xtrigIn

/-- DEBUG_FREEZE (R425): DBG_INST_CTL.FREEZE requests FROZEN with cause DEBUG at the next boundary. -/
def execDebugFreeze (i : Fin 16) (init : Fin 128) (st : State) : Host.Outcome State Fault Refusal :=
  st.onPkg fun s => s.regCmd .DBG .DBG_INST_CTL i.val init.val 1

/-- DEBUG_RELEASE (R426): DBG_INST_CTL.RELEASE clears HOLD so RESUME is accepted. -/
def execDebugRelease (i : Fin 16) (init : Fin 128) (st : State) : Host.Outcome State Fault Refusal :=
  st.onPkg fun s => s.regCmd .DBG .DBG_INST_CTL i.val init.val 2

/-- DEBUG_STEP (R427): DBG_INST_CTL.STEP runs an instance for N major cycles and freezes it. -/
def execDebugStep (i : Fin 16) (init : Fin 128) (st : State) : Host.Outcome State Fault Refusal :=
  st.onPkg fun s => s.regCmd .DBG .DBG_INST_CTL i.val init.val 4

/-- MP_WATCHPOINT_MATCH (R423): An MP instruction fetch or load/store matches a SRC 0 or SRC 1 watchpoint, which then counts and takes its halt and
cross-trigger actions. -/
def execMpWatchpointMatch (d : Fin 8) (fetch : Bool) (write : Bool) (addr : BitVec 64) (n : Fin 9) (data : List (BitVec 32)) (st : State) :
    Host.Outcome State Fault Refusal :=
  st.onPkg fun s => s.mpAccess d.val fetch write addr.toNat n.val (data.map BitVec.toNat)

end Sys2Proof.Machine
end

