-- ==== Sys2Proof/Machine/CmdFirmware.lean ====
section
/-!
DEFINITION. The commands a mailbox carries (Table 169).
-/
namespace Sys2Proof.Machine

/-- PING (R345): Returns the firmware version and time since ready. -/
def execPing (m : Fin 16) (seq : BitVec 16) (ms : BitVec 64) (st : State) : Host.Outcome State Fault Refusal :=
  st.onPkg fun s => s.ping m.val seq.toNat ms.toNat

/-- GET_INFO (R345): Returns part, grade, stepping and identity. -/
def execGetInfo (m : Fin 16) (seq : BitVec 16) (st : State) : Host.Outcome State Fault Refusal :=
  st.onPkgF fun fu s => s.getInfo fu m.val seq.toNat

/-- GET_FUSEMAP (R345): Writes the fuse map and CAV_AVAIL to a host buffer. -/
def execGetFusemap (m : Fin 16) (seq : BitVec 16) (fail : Option Nat) (st : State) : Host.Outcome State Fault Refusal :=
  st.onPkg fun s => s.getFusemap m.val seq.toNat fail

/-- GET_HEALTH (R450): Writes the health block to a host buffer. -/
def execGetHealth (m : Fin 16) (seq : BitVec 16) (fail : Option Nat) (st : State) : Host.Outcome State Fault Refusal :=
  st.onPkg fun s => s.getHealth m.val seq.toNat fail

/-- LOAD_ABORT (R345): Aborts the current load as CFG_CTRL.ABORT does. -/
def execLoadAbort (m : Fin 16) (seq : BitVec 16) (st : State) : Host.Outcome State Fault Refusal :=
  st.onPkg fun s => s.loadAbortCmd m.val seq.toNat

/-- LOAD_REPORT (R346): Writes the load report of an instance to a host buffer. -/
def execLoadReport (m : Fin 16) (seq : BitVec 16) (fail : Option Nat) (st : State) : Host.Outcome State Fault Refusal :=
  st.onPkg fun s => s.loadReportCmd m.val seq.toNat fail

/-- UNLOAD (R373): Unloads an instance and releases every resource. -/
def execUnload (m : Fin 16) (seq : BitVec 16) (st : State) : Host.Outcome State Fault Refusal :=
  st.onPkg fun s => s.unloadCmd m.val seq.toNat

/-- RUN_CTL_START (R345): RUN_CTL action START, optionally at a network launch time. -/
def execRunCtlStart (m : Fin 16) (seq : BitVec 16) (st : State) : Host.Outcome State Fault Refusal :=
  st.onPkg fun s => s.runCmd m.val seq.toNat 1

/-- RUN_CTL_PAUSE (R345): RUN_CTL action PAUSE. -/
def execRunCtlPause (m : Fin 16) (seq : BitVec 16) (st : State) : Host.Outcome State Fault Refusal :=
  st.onPkg fun s => s.runCmd m.val seq.toNat 2

/-- RUN_CTL_RESUME (R345): RUN_CTL action RESUME, optionally at a network launch time. -/
def execRunCtlResume (m : Fin 16) (seq : BitVec 16) (st : State) : Host.Outcome State Fault Refusal :=
  st.onPkg fun s => s.runCmd m.val seq.toNat 3

/-- RUN_CTL_FREEZE (R345): RUN_CTL action FREEZE. -/
def execRunCtlFreeze (m : Fin 16) (seq : BitVec 16) (st : State) : Host.Outcome State Fault Refusal :=
  st.onPkg fun s => s.runCmd m.val seq.toNat 4

/-- RUN_CTL_SET_STOP_AT (R345): RUN_CTL action setting ARY_STOP_AT and STOP_AT_EN. -/
def execRunCtlSetStopAt (m : Fin 16) (seq : BitVec 16) (st : State) : Host.Outcome State Fault Refusal :=
  st.onPkg fun s => s.runCmd m.val seq.toNat 5

/-- RUN_CTL_CLEAR_STOP_AT (R345): RUN_CTL action clearing STOP_AT_EN. -/
def execRunCtlClearStopAt (m : Fin 16) (seq : BitVec 16) (st : State) : Host.Outcome State Fault Refusal :=
  st.onPkg fun s => s.runCmd m.val seq.toNat 6

/-- INST_RESET (R371): Resets one instance through the phases STOP, PURGE and DRAIN. -/
def execInstReset (m : Fin 16) (seq : BitVec 16) (st : State) : Host.Outcome State Fault Refusal :=
  st.onPkg fun s => s.instResetCmd m.val seq.toNat

/-- RESET_DRAIN_COMPLETE (R371): The outstanding count reaches 0 and the reset ends DONE with the instance LOADED. -/
def execResetDrainComplete (i : Fin 16) (ns : Nat) (st : State) : Host.Outcome State Fault Refusal :=
  st.onPkg fun s => (s.pass ns).drainComplete i.val

/-- RESET_OVERRUN (R372): A reset exceeds 2 ms and the instance becomes FAULTED with ENGINE_FAULT. -/
def execResetOverrun (i : Fin 16) (ns : Nat) (st : State) : Host.Outcome State Fault Refusal :=
  st.onPkg fun s => (s.pass ns).resetOverrun i.val

/-- CAVE_OWN (R345): The CAVE_OWN command hands banks to a new owner. -/
def execCaveOwn (m : Fin 16) (seq : BitVec 16) (st : State) : Host.Outcome State Fault Refusal :=
  st.onPkg fun s => s.caveOwnCmd m.val seq.toNat

/-- MARCH (R345): The MARCH command runs a march on firmware-owned banks. -/
def execMarch (m : Fin 16) (seq : BitVec 16) (fails : List (Fin 1024 × List (BitVec 14 × BitVec 16))) (st : State) : Host.Outcome State Fault Refusal
    :=
  st.onPkg fun s => s.marchCmd m.val seq.toNat (fails.map fun e => (e.1.val, e.2.map fun x => (x.1.toNat, x.2.toNat)))

/-- MEM_READ (R345): Copies bytes of an instance slice to a host buffer. -/
def execMemRead (m : Fin 16) (seq : BitVec 16) (ue : Option Nat) (fail : Option Nat) (st : State) : Host.Outcome State Fault Refusal :=
  st.onPkg fun s => s.memRead m.val seq.toNat ue fail

/-- MEM_WRITE (R345): Copies bytes from a host buffer into an instance slice. -/
def execMemWrite (m : Fin 16) (seq : BitVec 16) (bytes : List (BitVec 8)) (ue : Option Nat) (fail : Option Nat) (st : State) : Host.Outcome State
    Fault Refusal :=
  st.onPkg fun s => s.memWrite m.val seq.toNat (bytes.map BitVec.toNat) ue fail

/-- TRACE_READ (R345): Copies bytes of a Whey ring to a host buffer. -/
def execTraceRead (m : Fin 16) (seq : BitVec 16) (fail : Option Nat) (st : State) : Host.Outcome State Fault Refusal :=
  st.onPkg fun s => s.traceRead m.val seq.toNat fail

/-- LINK_SEND (R348): Sends host bytes in MEM flits on a package port. -/
def execLinkSend (m : Fin 16) (seq : BitVec 16) (bytes : List (BitVec 8)) (fail : Option Nat) (st : State) : Host.Outcome State Fault Refusal :=
  st.onPkg fun s => s.linkSend m.val seq.toNat (bytes.map BitVec.toNat) fail

/-- LINK_RECV (R348): Posts a buffer to receive LINK_SEND bytes on a port. -/
def execLinkRecv (m : Fin 16) (seq : BitVec 16) (fail : Option Nat) (st : State) : Host.Outcome State Fault Refusal :=
  st.onPkg fun s => s.linkRecv m.val seq.toNat fail

/-- KEY_EF_PROGRAM (R200): Programs and verifies the eFuse key. -/
def execKeyEfProgram (m : Fin 16) (seq : BitVec 16) (steady : Bool) (reads : Bool) (st : State) : Host.Outcome State Fault Refusal :=
  st.onBoth fun fu s => s.efProgram fu m.val seq.toNat steady reads

/-- KEY_BB_WRITE (R201): Writes a key into the inactive battery-backed slot. -/
def execKeyBbWrite (m : Fin 16) (seq : BitVec 16) (reads : Bool) (st : State) : Host.Outcome State Fault Refusal :=
  st.onPkgF fun fu s => s.bbWrite fu m.val seq.toNat reads

/-- KEY_BB_ZERO (R345): Zeroises both battery-backed key slots. -/
def execKeyBbZero (m : Fin 16) (seq : BitVec 16) (st : State) : Host.Outcome State Fault Refusal :=
  st.onPkg fun s => s.bbZero m.val seq.toNat

/-- FUSE_POLICY (R345): Blows configuration policy fuses irreversibly. -/
def execFusePolicy (m : Fin 16) (seq : BitVec 16) (steady : Bool) (stuck : BitVec 3) (st : State) : Host.Outcome State Fault Refusal :=
  st.onBoth fun fu s => s.fusePolicy fu m.val seq.toNat steady stuck.toNat

/-- MP_RESTART (R350): Restarts the management processor of a die. -/
def execMpRestart (m : Fin 16) (seq : BitVec 16) (st : State) : Host.Outcome State Fault Refusal :=
  st.onPkg fun s => s.mpRestartCmd m.val seq.toNat

/-- FLOW_BIND (R357): Binds an owned flow to a host ring and starts it afresh. -/
def execFlowBind (m : Fin 16) (seq : BitVec 16) (st : State) : Host.Outcome State Fault Refusal :=
  st.onPkg fun s => s.flowBindCmd m.val seq.toNat

/-- FLOW_UNBIND (R357): Unbinds a flow, purging its entries. -/
def execFlowUnbind (m : Fin 16) (seq : BitVec 16) (st : State) : Host.Outcome State Fault Refusal :=
  st.onPkg fun s => s.flowUnbindCmd m.val seq.toNat

end Sys2Proof.Machine
end

