-- ==== Sys2Proof/Machine/CmdLanes.lean ====
section
/-!
DEFINITION. The commands of the SerDes lanes: enabling, training, power states and the PRBS test (R237-R252).
-/
namespace Sys2Proof.Machine

/-- LANE_EN (R238): A write to LNK_LANE_CTRL.EN enables a lane into CAL or turns it OFF. -/
def execLaneEn (l : Fin 128) (init : Fin 128) (on : Bool) (st : State) : Host.Outcome State Fault Refusal :=
  st.onPkg fun s => s.fieldCmd .LNK .LNK_LANE_CTRL l.val init.val 0 1 (b2n on)

/-- LANE_TGT_APPLY (R247): A buffered TGT write applies at the flit boundary and moves the lane toward ACTIVE, IDLE or COLD. -/
def execLaneTgtApply (l : Fin 128) (st : State) : Host.Outcome State Fault Refusal :=
  st.onPkg fun s => s.tgtApply l.val

/-- RETRAIN (R252): LNK_LANE_CTRL.RETRAIN returns the lane to T1 or begins a Cold exit. -/
def execRetrain (l : Fin 128) (init : Fin 128) (st : State) : Host.Outcome State Fault Refusal :=
  st.onPkg fun s => s.fieldCmd .LNK .LNK_LANE_CTRL l.val init.val 4 1 1

/-- LANE_FAULT_CLR (R250): LNK_LANE_CTRL.FAULT_CLR takes a lane out of FAULT into CAL. -/
def execLaneFaultClr (l : Fin 128) (init : Fin 128) (st : State) : Host.Outcome State Fault Refusal :=
  st.onPkg fun s => s.fieldCmd .LNK .LNK_LANE_CTRL l.val init.val 5 1 1

/-- SYNTH_LOCK (R245): The lane synthesiser locks and the lane enters training. -/
def execSynthLock (l : Fin 128) (st : State) : Host.Outcome State Fault Refusal :=
  st.onPkg fun s => s.synthLock l.val

/-- SYNTH_LOCK_TIMEOUT (R245): The synthesiser has not locked 50 ms after CAL and the lane enters FAULT with LOCK_TMO. -/
def execSynthLockTimeout (l : Fin 128) (noBand : Bool) (st : State) : Host.Outcome State Fault Refusal :=
  st.onPkg fun s => s.synthFail l.val noBand

/-- SYNTH_LOCK_LOSS (R245): Synthesiser lock is lost and the lane returns to CAL with its driver squelched. -/
def execSynthLockLoss (l : Fin 128) (st : State) : Host.Outcome State Fault Refusal :=
  st.onPkg fun s => s.synthLoss l.val

/-- CDR_LOCK_LOSS (R245): The CDR loses lock and the lane returns to T1. -/
def execCdrLockLoss (l : Fin 128) (st : State) : Host.Outcome State Fault Refusal :=
  st.onPkg fun s => s.cdrLoss l.val

/-- TRAINING_FRAME (R239): A training frame is received and drives the training phase machine. -/
def execTrainingFrame (l : Fin 128) (f : BitVec 64 × BitVec 64 × Bool) (st : State) : Host.Outcome State Fault Refusal :=
  st.onPkg fun s => s.trainFrame l.val f.1.toNat f.2.1.toNat f.2.2

/-- PAM4_ATTEMPT_END (R242): A T4 attempt finishes counting 2^28 fill bits and passes or fails. -/
def execPam4AttemptEnd (l : Fin 128) (errs : BitVec 32) (st : State) : Host.Outcome State Fault Refusal :=
  st.onPkg fun s => s.pam4End l.val errs.toNat

/-- TRAINING_TIMEOUT (R243): A lane not in T5 within LNK_TRAIN_TMO returns to T1 and counts TRAIN_FAIL. -/
def execTrainingTimeout (l : Fin 128) (st : State) : Host.Outcome State Fault Refusal :=
  st.onPkg fun s => s.trainTimeout l.val

/-- WAKE_TONE_DETECT (R246): A lane in COLD detects a wake tone or data and begins its own exit. -/
def execWakeToneDetect (l : Fin 128) (st : State) : Host.Outcome State Fault Refusal :=
  st.onPkg fun s => s.wakeTone l.val

/-- PRBS_CFG_WRITE (R248): A write to LNK_PRBS_CFG enters or leaves TEST, or is refused. -/
def execPrbsCfgWrite (l : Fin 128) (init : Fin 128) (w : BitVec 32) (st : State) : Host.Outcome State Fault Refusal :=
  st.onPkg fun s => s.regCmd .LNK .LNK_PRBS_CFG l.val init.val w.toNat

/-- INJ_SHOT (R249): LNK_PRBS_CFG.INJ_SHOT injects one bit error. -/
def execInjShot (l : Fin 128) (init : Fin 128) (st : State) : Host.Outcome State Fault Refusal :=
  st.onPkg fun s => s.fieldCmd .LNK .LNK_PRBS_CFG l.val init.val 12 1 1

/-- PERIODIC_INJECTION (R249): Every 2^INJ_PERIOD bits one bit error is injected. -/
def execPeriodicInjection (l : Fin 128) (st : State) : Host.Outcome State Fault Refusal :=
  st.onPkg fun s => s.injPeriodic l.val

/-- PRBS_CHECKER_RECEIVE (R248): In TEST, the checker compares received bits, gains or drops CHK_LOCK and counts bits and errors. -/
def execPrbsCheckerReceive (l : Fin 128) (b : Bool) (more : List Bool) (st : State) : Host.Outcome State Fault Refusal :=
  st.onPkg fun s => s.chkReceive l.val (b :: more)

end Sys2Proof.Machine
end

