-- ==== Sys2Proof/Machine/CmdLink.lean ====
section
/-!
DEFINITION. The commands of the link ports: bonding, flits, replay, and port control (R253-R275).
-/
namespace Sys2Proof.Machine

/-- PORT_BOND (R255): All four lanes reach T5, and the port checks identity, rate and frequency and deskews. -/
def execPortBond (q : Fin 32) (ppb : Nat) (skewPs : Nat) (st : State) : Host.Outcome State Fault Refusal :=
  st.onPkg fun s => s.portBond q.val ppb skewPs

/-- FLIT_SEND (R258): In a flit period the transmitter sends the first ready flit by rank, given credit and replay room. -/
def execFlitSend (q : Fin 32) (st : State) : Host.Outcome State Fault Refusal :=
  st.onPkg fun s => (s.lpWake q.val).flitSend q.val

/-- IDLE_FLIT (R271): An IDLE flit is received as a sign of life. -/
def execIdleFlit (q : Fin 32) (st : State) : Host.Outcome State Fault Refusal :=
  st.onPkg fun s => s.idleFlit q.val

/-- LACK (R260): A LACK acknowledges flits, returns credits and on NAK starts a replay. -/
def execLack (q : Fin 32) (ack : BitVec 12) (nak : Bool) (freed : List (BitVec 16)) (st : State) : Host.Outcome State Fault Refusal :=
  st.onPkg fun s => s.lack q.val ack.toNat nak (freed.map BitVec.toNat)

/-- SCHED (R266): A SCHED flit is accepted and its slots are presented on the receive lines. -/
def execSched (q : Fin 32) (seq : BitVec 12) (payload : BitVec 256) (st : State) : Host.Outcome State Fault Refusal :=
  st.onPkg fun s => s.seqFlit q.val seq.toNat 0 fun s => s.schedTake q.val payload.toNat

/-- SCHSYNC (R266): A SCHSYNC flit is checked against the expected cycle and depth. -/
def execSchsync (q : Fin 32) (seq : BitVec 12) (mcc : BitVec 64) (depth : BitVec 16) (st : State) : Host.Outcome State Fault Refusal :=
  st.onPkg fun s => s.seqFlit q.val seq.toNat 0 fun s => s.schsyncTake q.val mcc.toNat depth.toNat

/-- MEM_FLIT (R256): A MEM flit delivers Whey, LINK_SEND or DMA bytes to its engine. -/
def execMemFlit (q : Fin 32) (seq : BitVec 12) (w : BitVec 256) (st : State) : Host.Outcome State Fault Refusal :=
  st.onPkg fun s => s.memFlit q.val seq.toNat fun s => s.memTake q.val w.toNat reservedKey

/-- SVC_FLIT (R383): An SVC flit carries a remote service-ring packet onward or onto the rings. -/
def execSvcFlit (q : Fin 32) (seq : BitVec 12) (w : BitVec 256) (st : State) : Host.Outcome State Fault Refusal :=
  st.onPkgF fun fu s => s.svcFlit fu q.val seq.toNat w.toNat

/-- PHASE_FLIT (R274): A PHASE flit is used to measure the step-phase offset and align the port. -/
def execPhaseFlit (q : Fin 32) (elapsed : Nat) (theirs : BitVec 64) (echo : BitVec 64) (at_ : BitVec 64) (st : State) : Host.Outcome State Fault
    Refusal :=
  st.onPkg fun s => s.phaseFlit q.val elapsed theirs.toNat echo.toNat at_.toNat

/-- BAD_FLIT (R259): A bad or out-of-order flit is discarded and answered with a NAK. -/
def execBadFlit (q : Fin 32 × BitVec 288) (st : State) : Host.Outcome State Fault Refusal :=
  st.onPkg fun s => s.oddFlit q.1.val q.2.toNat

/-- REPLAY_TIMEOUT (R260): No LACK advances ACK_SEQ for 2 µs and the transmitter replays. -/
def execReplayTimeout (q : Fin 32) (st : State) : Host.Outcome State Fault Refusal :=
  st.onPkg fun s => s.replayTimeout q.val

/-- LINK_SILENCE (R272): An UP port receives no error-free flit for 1 µs and starts its link-down timer. -/
def execLinkSilence (q : Fin 32) (st : State) : Host.Outcome State Fault Refusal :=
  st.onPkg fun s => s.linkSilence q.val

/-- LINK_DOWN_TIMEOUT (R272): The link-down timer reaches LNK_DOWN_TMO and the port enters DOWN, faulting its instance. -/
def execLinkDownTimeout (q : Fin 32) (st : State) : Host.Outcome State Fault Refusal :=
  st.onPkg fun s => s.linkDownTimeout q.val

/-- PORT_FAULT_CLR (R273): LNK_PORT_CTRL.FAULT_CLR moves a DOWN port to WAIT. -/
def execPortFaultClr (q : Fin 32) (init : Fin 128) (st : State) : Host.Outcome State Fault Refusal :=
  st.onPkg fun s => s.fieldCmd .LNK .LNK_PORT_CTRL q.val init.val 1 1 1

/-- PORT_SNAP (R285): LNK_PORT_CTRL.SNAP captures the port counters at one flit boundary. -/
def execPortSnap (q : Fin 32) (init : Fin 128) (st : State) : Host.Outcome State Fault Refusal :=
  st.onPkg fun s => s.fieldCmd .LNK .LNK_PORT_CTRL q.val init.val 2 1 1

/-- PORT_LP_APPLY (R275): A buffered LP write applies and the port sends LP_REQ. -/
def execPortLpApply (q : Fin 32) (st : State) : Host.Outcome State Fault Refusal :=
  st.onPkg fun s => s.lpBoundary q.val

/-- LOWPWR_ENTRY (R275): Once all sequenced flits are acknowledged the port enters LOWPWR and sets lane targets. -/
def execLowpwrEntry (q : Fin 32) (partnerDone : Bool) (st : State) : Host.Outcome State Fault Refusal :=
  st.onPkg fun s => s.lowpwrEntry q.val partnerDone

/-- PORT_REALIGN (R274): LNK_PORT_CTRL.REALIGN requests a full realignment at the next ALIGN. -/
def execPortRealign (q : Fin 32) (init : Fin 128) (st : State) : Host.Outcome State Fault Refusal :=
  st.onPkg fun s => s.fieldCmd .LNK .LNK_PORT_CTRL q.val init.val 5 1 1

end Sys2Proof.Machine
end

