-- ==== Sys2Proof/Machine/CmdLoad.lean ====
section
/-!
DEFINITION. The commands of configuration loading: the stream, its chunks and records, the check and commit, and Turner (R178-R214).
-/
namespace Sys2Proof.Machine

/-- LOAD (R178): The LOAD command starts fetching a Stoiraby stream from host buffers. -/
def execLoad (m : Fin 16) (seq : BitVec 16) (st : State) : Host.Outcome State Fault Refusal :=
  st.onPkg fun s => s.loadCmd m.val seq.toNat

/-- STREAM_HEADER (R180): The stream header is authenticated and checked against policy, generation and master role. -/
def execStreamHeader (b : List (BitVec 8)) (st : State) : Host.Outcome State Fault Refusal :=
  st.onPkgF fun fu s => s.byLoaders fun s => s.header fu (b.map BitVec.toNat)

/-- CHUNK (R182): A chunk is skipped, or authenticated, decrypted and decompressed in COUNTER order. -/
def execChunk (c : ChunkData) (st : State) : Host.Outcome State Fault Refusal :=
  st.onPkg fun s => s.byLoaders fun s => s.chunk c

/-- SECTION_BEGIN (R190): The record claims and places an instance, which enters LOADING. -/
def execSectionBegin (h : RecHdr) (x : ImgDesc) (st : State) : Host.Outcome State Fault Refusal :=
  st.onPkg fun s => s.byLoaders fun s => s.sectionBegin h x

/-- PATCH_BEGIN (R204): The record opens a patch section for a loaded instance. -/
def execPatchBegin (h : RecHdr) (st : State) : Host.Outcome State Fault Refusal :=
  st.onPkg fun s => s.byLoaders fun s => s.patchBegin h

/-- SECTION_END (R185): The record closes a section and its counts are checked. -/
def execSectionEnd (h : RecHdr) (frames : BitVec 64) (records : BitVec 64) (st : State) : Host.Outcome State Fault Refusal :=
  st.onPkg fun s => s.byLoaders fun s => s.sectionEnd h frames.toNat records.toNat

/-- FRAMES (R188): The record writes configuration frames at mapped physical addresses. -/
def execFrames (h : RecHdr) (l : List (BitVec 4096)) (verified : Bool) (st : State) : Host.Outcome State Fault Refusal :=
  st.onPkg fun s => s.byLoaders fun s => s.frames h (l.map BitVec.toNat) verified

/-- CAVE (R184): The record writes cave words of a bank. -/
def execCave (h : RecHdr) (words : List (BitVec 16)) (st : State) : Host.Outcome State Fault Refusal :=
  st.onPkg fun s => s.byLoaders fun s => s.caveRec h (words.map BitVec.toNat)

/-- PORTCFG (R184): The record writes CAV_PORT_CFG of a bank. -/
def execPortcfg (h : RecHdr) (cfg : BitVec 8) (rsv : BitVec 56) (st : State) : Host.Outcome State Fault Refusal :=
  st.onPkg fun s => s.byLoaders fun s => s.portcfgRec h cfg.toNat rsv.toNat

/-- QENTRY (R204): The record sets a queue entry DONE with a result word. -/
def execQentry (h : RecHdr) (word : BitVec 64) (st : State) : Host.Outcome State Fault Refusal :=
  st.onPkg fun s => s.byLoaders fun s => s.qentryRec h word.toNat

/-- HBM (R184): The record writes bytes of the instance's HBM slice. -/
def execHbm (h : RecHdr) (bytes : List (BitVec 8)) (st : State) : Host.Outcome State Fault Refusal :=
  st.onPkg fun s => s.byLoaders fun s => s.hbmRec h (bytes.map BitVec.toNat)

/-- EDGE (R184): The record gives the instance's edge pattern. -/
def execEdge (h : RecHdr) (l : List (BitVec 64)) (st : State) : Host.Outcome State Fault Refusal :=
  st.onPkg fun s => s.byLoaders fun s => s.edgeRec h (l.map BitVec.toNat)

/-- GDL (R184): The record configures the global design lines. -/
def execGdl (h : RecHdr) (l : List (BitVec 32)) (st : State) : Host.Outcome State Fault Refusal :=
  st.onPkg fun s => s.byLoaders fun s => s.gdlRec h (l.map BitVec.toNat)

/-- IOCFG (R230): The record configures one I/O bank. -/
def execIocfg (h : RecHdr) (vio : BitVec 8) (rsv : BitVec 56) (cells : List (BitVec 32)) (st : State) : Host.Outcome State Fault Refusal :=
  st.onPkg fun s => s.byLoaders fun s => s.iocfgRec h vio.toNat rsv.toNat (cells.map BitVec.toNat)

/-- LINKCFG (R284): The record configures one link port. -/
def execLinkcfg (h : RecHdr) (mode : BitVec 8) (roles : BitVec 8) (pkg : BitVec 8) (port : BitVec 8) (rsv : BitVec 96) (st : State) : Host.Outcome
    State Fault Refusal :=
  st.onPkg fun s => s.byLoaders fun s => s.linkcfgRec h mode.toNat roles.toNat pkg.toNat port.toNat rsv.toNat

/-- TRACECFG (R310): The record configures trace and trigger for the traced instance. -/
def execTracecfg (h : RecHdr) (words : List (BitVec 32)) (st : State) : Host.Outcome State Fault Refusal :=
  st.onPkg fun s => s.byLoaders fun s => s.tracecfgRec h (words.map BitVec.toNat)

/-- LOAD_CHECK (R189): After the last chunk and frame writes, the checks of Table 85 run and READY is sent or the package commits. -/
def execLoadCheck (tierOk : Bool) (blow : Option (BitVec 7)) (st : State) : Host.Outcome State Fault Refusal :=
  st.onGen fun gen s => if s.loadersAct then s.loadCheck gen tierOk (blow.map BitVec.toNat) else (s, gen)

/-- COMMIT_TIMEOUT (R192): The master's wait for READY exceeds CFG_COMMIT_TMO and it sends ABORT. -/
def execCommitTimeout (st : State) : Host.Outcome State Fault Refusal :=
  st.onPkg fun s => s.commitTimeout

/-- SLAVE_COMMIT_TIMEOUT (R192): A slave gets neither COMMIT nor ABORT within twice CFG_COMMIT_TMO and fails with PEER_FAIL. -/
def execSlaveCommitTimeout (st : State) : Host.Outcome State Fault Refusal :=
  st.onPkg fun s => s.slaveTimeout

/-- COMMIT_ACK_TIMEOUT (R192): A missing COMMIT acknowledgement sets PEER_MISSING on the master. -/
def execCommitAckTimeout (st : State) : Host.Outcome State Fault Refusal :=
  st.onPkg fun s => s.ackTimeout

/-- STREAM_STALL (R194): No stream byte arrives for CFG_STALL_TMO and the load fails. -/
def execStreamStall (st : State) : Host.Outcome State Fault Refusal :=
  st.onPkg fun s => s.streamStall

/-- CFG_ABORT (R194): CFG_CTRL.ABORT fails a load in phases 1 to 5. -/
def execCfgAbort (init : Fin 128) (st : State) : Host.Outcome State Fault Refusal :=
  st.onPkg fun s => s.regCmd .CFG .CFG_CTRL 0 init.val 1

/-- ERR_CLR (R196): CFG_CTRL.ERR_CLR releases CFG_ERR_N. -/
def execErrClr (init : Fin 128) (st : State) : Host.Outcome State Fault Refusal :=
  st.onPkg fun s => s.regCmd .CFG .CFG_CTRL 0 init.val 2

/-- TURNER_FRAME_CHECK (R209): A Turner engine reads one frame at its interval and classifies its syndrome. -/
def execTurnerFrameCheck (d : Fin 8) (g : Fin 64) (a : BitVec 32) (flips : List (Fin 4128)) (stuck : Bool) (us : BitVec 32) (st : State) :
    Host.Outcome State Fault Refusal :=
  st.onPkg fun s => s.frameCheck d.val g.val a.toNat (flips.map Fin.val) stuck us.toNat

end Sys2Proof.Machine
end

