-- ==== Sys2Proof/Machine/CmdMailbox.lean ====
section
/-!
DEFINITION. The commands of the mailboxes, the event ring, and the watchdogs (R327-R353).
-/
namespace Sys2Proof.Machine

/-- DOORBELL (R332): The host writes MBX_CMD_TAIL to post slots. -/
def execDoorbell (m : Fin 16) (init : Fin 128) (tail : BitVec 16) (st : State) : Host.Outcome State Fault Refusal :=
  st.onPkg fun s => s.regCmd .MBX .MBX_CMD_TAIL m.val init.val tail.toNat

/-- SLOT_TAKE (R336): The device takes a posted slot and assembles it into a message. -/
def execSlotTake (m : Fin 16) (fetched : List (BitVec 8)) (st : State) : Host.Outcome State Fault Refusal :=
  st.onPkg fun s => s.slotTake m.val (fetched.map BitVec.toNat)

/-- PARTIAL_MESSAGE_TIMEOUT (R336): A message incomplete 50 ms after its first slot is discarded with INCOMPLETE. -/
def execPartialMessageTimeout (m : Fin 16) (st : State) : Host.Outcome State Fault Refusal :=
  st.onPkg fun s => s.partialTimeout m.val

/-- COMPLETION_WRITE (R332): A completion is written to the ring when there is room, and the vector raised. -/
def execCompletionWrite (m : Fin 16) (st : State) : Host.Outcome State Fault Refusal :=
  st.onPkg fun s => s.cplWrite m.val

/-- CPL_HEAD_WRITE (R332): The host writes MBX_CPL_HEAD to consume completions. -/
def execCplHeadWrite (m : Fin 16) (init : Fin 128) (head : BitVec 16) (st : State) : Host.Outcome State Fault Refusal :=
  st.onPkg fun s => s.regCmd .MBX .MBX_CPL_HEAD m.val init.val head.toNat

/-- MAILBOX_RESET (R340): MBX_CTRL.RESET clears pointers, cache and counters of a disabled mailbox. -/
def execMailboxReset (m : Fin 16) (init : Fin 128) (st : State) : Host.Outcome State Fault Refusal :=
  st.onPkg fun s => s.fieldCmd .MBX .MBX_CTRL m.val init.val 2 1 1

/-- FETCH_RETRY (R332): A failed mailbox DMA is retried after 1 ms. -/
def execFetchRetry (m : Fin 16) (st : State) : Host.Outcome State Fault Refusal :=
  st.onPkg fun s => s.fetchRetry m.val

/-- EVENT_WRITE (R349): An event is written to the event ring when there is room. -/
def execEventWrite (st : State) : Host.Outcome State Fault Refusal :=
  st.onPkg fun s => s.eventWrite

/-- DEFERRED_ACTION_DONE (R343): A deferred command's action ends and a DEFERRED_DONE event is posted. -/
def execDeferredActionDone (m : Fin 16) (seq : BitVec 16) (st : State) : Host.Outcome State Fault Refusal :=
  st.onPkg fun s => s.deferredEnd m.val seq.toNat

/-- WDOG_KICK (R350): An MP kicks its watchdog. -/
def execWdogKick (d : Fin 8) (init : Fin 128) (st : State) : Host.Outcome State Fault Refusal :=
  st.onPkg fun s => s.regCmd .MBX .MBX_WDOG_KICK d.val init.val 1

/-- WDOG_EXPIRY (R350): An MP does not kick for MBX_WDOG_CFG.MS and is held in reset and restarted. -/
def execWdogExpiry (d : Fin 8) (st : State) : Host.Outcome State Fault Refusal :=
  st.onPkg fun s => s.wdogExpiry d.val

/-- MP_REBOOT_DONE (R350): The restarted MP reaches READY and intake resumes. -/
def execMpRebootDone (d : Fin 8) (st : State) : Host.Outcome State Fault Refusal :=
  st.onPkg fun s => s.mpRebooted d.val

/-- MP_FAILED (R351): An MP not READY 600 ms after expiry becomes FAILED and faults its instances. -/
def execMpFailed (d : Fin 8) (st : State) : Host.Outcome State Fault Refusal :=
  st.onPkg fun s => s.mpFailed d.val

end Sys2Proof.Machine
end

