-- ==== Sys2Proof/Machine/CmdPins.lean ====
section
/-!
DEFINITION. The commands of the boundary cells: bank supplies and boundary scan (R215-R236).
-/
namespace Sys2Proof.Machine

/-- BANK_SUPPLY_FAULT (R222): A bank supply leaves its range and the bank is disabled. -/
def execBankSupplyFault (b : Fin 32) (st : State) : Host.Outcome State Fault Refusal :=
  st.onPkg fun s => s.supplyFault b.val

/-- BANK_SUPPLY_RESTORED (R222): A bank supply has been in range for 1 ms and VOK returns to 1. -/
def execBankSupplyRestored (b : Fin 32) (st : State) : Host.Outcome State Fault Refusal :=
  st.onPkg fun s => s.supplyBack b.val

/-- EXTEST (R233): Boundary-scan EXTEST drives cells from the register. -/
def execExtest (upd : List (Fin 3072 × Fin 2)) (pads : List (Fin 1024 × Fin 3)) (st : State) : Host.Outcome State Fault Refusal :=
  st.onPkg fun s => s.extest (upd.map fun e => (e.1.val, e.2.val)) (pads.map fun e => (e.1.val, e.2.val))

/-- BSCAN_IDCODE (R233): Boundary-scan IDCODE selects the IDCODE register. -/
def execBscanIdcode (st : State) : Host.Outcome State Fault Refusal :=
  st.onPkg fun s => s.scanIR 1

/-- SAMPLE_PRELOAD (R233): Boundary-scan SAMPLE/PRELOAD captures pads with cells disabled. -/
def execSamplePreload (upd : List (Fin 3072 × Fin 2)) (pads : List (Fin 1024 × Fin 3)) (st : State) : Host.Outcome State Fault Refusal :=
  st.onPkg fun s => s.samplePreload (upd.map fun e => (e.1.val, e.2.val)) (pads.map fun e => (e.1.val, e.2.val))

/-- CLAMP (R233): Boundary-scan CLAMP drives cells from the register with bypass selected. -/
def execClamp (st : State) : Host.Outcome State Fault Refusal :=
  st.onPkg fun s => s.scanIR 4

/-- HIGHZ (R233): Boundary-scan HIGHZ disables every cell. -/
def execHighz (st : State) : Host.Outcome State Fault Refusal :=
  st.onPkg fun s => s.scanIR 5

/-- BSCAN_BYPASS (R233): Boundary-scan BYPASS selects the bypass register. -/
def execBscanBypass (ir : BitVec 8) (st : State) : Host.Outcome State Fault Refusal :=
  st.onPkg fun s => s.scanIR ir.toNat

end Sys2Proof.Machine
end

