-- ==== Sys2Proof/Machine/CmdQueues.lean ====
section
/-!
DEFINITION. The commands of the HBM queues: requests in flight, scrub, segment owners, the access window, and relocation (R143-R173).
-/
namespace Sys2Proof.Machine

/-- HELD_REQUEST_SEND (R150): A HELD queue request is sent as room frees in the port. -/
def execHeldRequestSend (k : Fin 4096) (st : State) : Host.Outcome State Fault Refusal :=
  st.onPkg fun s => s.sendHeld k.val

/-- QUEUE_RESULT_RETURN (R149): An HBM request returns and its result is written into its entry, or discarded if superseded. -/
def execQueueResultReturn (k : Fin 4096) (n : Fin 256) (lat : Nat) (e : Ecc) (st : State) : Host.Outcome State Fault Refusal :=
  st.onPkg fun s => s.queueReturn k.val n.val lat e

/-- PATROL_SCRUB_READ (R155): Patrol scrub reads an HBM block and logs any uncorrectable error. -/
def execPatrolScrubRead (j : Fin 4) (a : BitVec 36) (e : Ecc) (st : State) : Host.Outcome State Fault Refusal :=
  st.onPkg fun s => s.patrolRead j.val (a.toNat / 32 * 32) e

/-- SEG_OWN_WRITE (R144): The die-0 MP writes QUE_SEG_OWN to change a segment owner. -/
def execSegOwnWrite (k : Fin 576) (init : Fin 128) (w : BitVec 32) (st : State) : Host.Outcome State Fault Refusal :=
  st.onPkg fun s => s.regCmd .QUE .QUE_SEG_OWN k.val init.val w.toNat

/-- RELOCATE (R171): The RELOCATE command moves chosen virtual regions of an instance to other free regions. -/
def execRelocate (m : Fin 16) (seq : BitVec 16) (expired : Bool) (st : State) : Host.Outcome State Fault Refusal :=
  st.onPkg fun s => s.relocateCmd m.val seq.toNat expired

/-- RELOCATION_SWITCH (R172): After the copy, ownership is transferred and ARY_VMAP updated. -/
def execRelocationSwitch (i : Fin 16) (copyOk : Bool) (st : State) : Host.Outcome State Fault Refusal :=
  st.onPkg fun s => s.relocSwitch i.val copyOk

/-- HBM_ACCESS_WINDOW (R154): A new 64-access window begins on a pseudo-channel, its class shares are reset and a pending QUE_HBM_CFG write applies.
-/
def execHbmAccessWindow (j : Fin 4) (pc : Fin 32) (st : State) : Host.Outcome State Fault Refusal :=
  st.onPkg fun s => s.accessWindow j.val pc.val

end Sys2Proof.Machine
end

