-- ==== Sys2Proof/Machine/CmdRegisters.lean ====
section
/-!
DEFINITION. Writes through the service address space and its bit-alias window (R312-R326).
-/
namespace Sys2Proof.Machine

/-- REGISTER_WRITE (R317): A write to a register with no row of its own, taken by each field's access type. -/
def execRegisterWrite (init : Fin 128) (inst : Option (Fin 16)) (addr : BitVec 40) (data : List (BitVec 32)) (be : Option Nat) (st : State) :
    Host.Outcome State Fault Refusal :=
  st.onPkgF fun fu s => (s.access fu (busWrite init.val (inst.map Fin.val) addr.toNat (data.map BitVec.toNat) be)).2

/-- ALIAS_WRITE (R323): A write through the bit-alias window acts on one bit by its access type. -/
def execAliasWrite (init : Fin 128) (inst : Option (Fin 16)) (d : Fin 8) (o : Fin 16777216) (n : Fin 32) (w : BitVec 32) (st : State) : Host.Outcome
    State Fault Refusal :=
  st.onPkgF fun fu s => (s.access fu (busWrite init.val (inst.map Fin.val) (aliasAddr d.val o.val n.val) [w.toNat] none)).2

end Sys2Proof.Machine
end

