-- ==== Sys2Proof/Machine/CmdRings.lean ====
section
/-!
DEFINITION. The commands of the service rings and of region power (R377-R396).
-/
namespace Sys2Proof.Machine

/-- RING_REQUEST (R378): A request packet is removed at its target stop and performed in arrival order. -/
def execRingRequest (r : RingPkt) (st : State) : Host.Outcome State Fault Refusal :=
  st.onPkgF fun fu s => s.ringRequest fu r

/-- RING_RESPONSE (R385): A response reaches its initiator, or is discarded as late. -/
def execRingResponse (init : Fin 128) (tag : BitVec 6) (dep : Option (Fin 16 × BitVec 16)) (st : State) : Host.Outcome State Fault Refusal :=
  st.onPkg fun s => s.ringResponse init.val tag.toNat (dep.map fun e => (e.1.val, e.2.toNat))

/-- RING_MSG (R378): A MSG packet delivers a notification to a management processor. -/
def execRingMsg (d : Fin 8) (st : State) : Host.Outcome State Fault Refusal :=
  st.onPkg fun s => s.ringMsg d.val

/-- RING_TIMEOUT (R385): No response within SVC_TMO and the initiator synthesises an ERR_RSP. -/
def execRingTimeout (init : Fin 128) (tag : BitVec 6) (dep : Option (Fin 16 × BitVec 16)) (st : State) : Host.Outcome State Fault Refusal :=
  st.onPkg fun s => s.ringTimeout init.val tag.toNat (dep.map fun e => (e.1.val, e.2.toNat))

/-- REGION_POWER_OFF (R389): SVC_PD_CTL.CMD = 1 starts draining an unowned region. -/
def execRegionPowerOff (p : Fin 512) (init : Fin 128) (st : State) : Host.Outcome State Fault Refusal :=
  st.onPkg fun s => s.regCmd .SVC .SVC_PD_CTL p.val init.val 1

/-- REGION_DRAINED (R389): The drain conditions hold and the region is fenced. -/
def execRegionDrained (p : Fin 512) (st : State) : Host.Outcome State Fault Refusal :=
  st.onPkg fun s => s.regionDrained p.val

/-- DRAIN_TIMEOUT (R389): The drain does not complete within 1 ms and the region returns to ON. -/
def execDrainTimeout (p : Fin 512) (st : State) : Host.Outcome State Fault Refusal :=
  st.onPkg fun s => s.drainTimeout p.val

/-- REGION_OFF (R389): The fenced region switches off and its contents are lost. -/
def execRegionOff (p : Fin 512) (us : BitVec 16) (st : State) : Host.Outcome State Fault Refusal :=
  st.onPkg fun s => s.regionOff p.val us.toNat

/-- REGION_POWER_ON (R389): SVC_PD_CTL.CMD = 2 starts powering a region on. -/
def execRegionPowerOn (p : Fin 512) (init : Fin 128) (st : State) : Host.Outcome State Fault Refusal :=
  st.onPkg fun s => s.regCmd .SVC .SVC_PD_CTL p.val init.val 2

/-- REGION_ON (R389): POWERING ends and the region is ON with undefined contents. -/
def execRegionOn (p : Fin 512) (us : BitVec 16) (st : State) : Host.Outcome State Fault Refusal :=
  st.onPkg fun s => s.regionOn p.val us.toNat

/-- AUTO_POWER_OFF (R391): A region unowned for SVC_PD_AUTO ms is fenced and switched off. -/
def execAutoPowerOff (p : Fin 512) (st : State) : Host.Outcome State Fault Refusal :=
  st.onPkg fun s => s.autoOff p.val

/-- TIMED_OUT_TAG_RELEASE (R385): Four times SVC_TMO after a timeout with no late response, the initiator frees the tag of the timed-out request for
reuse. -/
def execTimedOutTagRelease (init : Fin 128) (tag : BitVec 6) (st : State) : Host.Outcome State Fault Refusal :=
  st.onPkg fun s => s.tagRelease init.val tag.toNat

end Sys2Proof.Machine
end

