-- ==== Sys2Proof/Machine/CmdScheduler.lean ====
section
/-!
DEFINITION. The commands of the task scheduler and the transactor flows (R356-R376).
-/
namespace Sys2Proof.Machine

/-- OUTBOUND_ENTRY_WRITE_DONE (R361): A DMA write of an outbound entry completes and in-order entries are released. -/
def execOutboundEntryWriteDone (e : Fin 40) (ns : Nat) (st : State) : Host.Outcome State Fault Refusal :=
  st.onPkg fun s => (s.pass ns).outDone e.val

/-- CALL_ANSWER (R362): The host writes SCH_FLOW_ANS_HI to answer the oldest call. -/
def execCallAnswer (f : Fin 4096) (init : Fin 128) (lo : Option (BitVec 32)) (hi : BitVec 32) (st : State) : Host.Outcome State Fault Refusal :=
  st.onPkg fun s => s.answerCall f.val init.val (lo.map BitVec.toNat) hi.toNat

/-- FLOW_HOST_POINTER_WRITE (R359): The host writes SCH_FLOW_HOST, consuming or posting ring entries. -/
def execFlowHostPointerWrite (f : Fin 4096) (init : Fin 128) (ptr : BitVec 16) (st : State) : Host.Outcome State Fault Refusal :=
  st.onPkg fun s => s.regCmd .SCH .SCH_FLOW_HOST f.val init.val ptr.toNat

/-- INBOUND_FETCH_DONE (R363): An inbound host entry fetch completes and is staged or rejected. -/
def execInboundFetchDone (e : Fin 40) (ns : Nat) (fseq : BitVec 32) (len : BitVec 16) (words : List (BitVec 16)) (st : State) : Host.Outcome State
    Fault Refusal :=
  st.onPkg fun s => (s.pass ns).inbDone e.val fseq.toNat len.toNat (words.map BitVec.toNat)

/-- WORK_ITEM_DISPATCH (R367): A free engine is given the first eligible work item in scheduler order. -/
def execWorkItemDispatch (e : Fin 40) (ns : Nat) (st : State) : Host.Outcome State Fault Refusal :=
  st.onPkg fun s => (s.pass ns).dispatchTo e.val

/-- DMA_RETRY (R368): A failed host-memory DMA is retried after 1 ms. -/
def execDmaRetry (e : Fin 40) (st : State) : Host.Outcome State Fault Refusal :=
  st.onPkg fun s => s.dmaRetry e.val

/-- SCH_SNAP (R376): SCH_CTRL.SNAP captures the scheduler counters at one edge. -/
def execSchSnap (init : Fin 128) (st : State) : Host.Outcome State Fault Refusal :=
  st.onPkg fun s => s.regCmd .SCH .SCH_CTRL 0 init.val 1

/-- ENGINE_RETURN (R372): SCH_ENG_CTRL.RETURN puts an engine back in service. -/
def execEngineReturn (e : Fin 40) (init : Fin 128) (st : State) : Host.Outcome State Fault Refusal :=
  st.onPkg fun s => s.regCmd .SCH .SCH_ENG_CTRL e.val init.val 1

end Sys2Proof.Machine
end

