-- ==== Sys2Proof/Machine/CmdStartup.lean ====
section
/-!
DEFINITION. The commands of start-up, clocks and monitoring, and the loss of power (R431-R456).
-/
namespace Sys2Proof.Machine

/-- RESET_RELEASE (R432): Reset is released and the package boots through its phases. -/
def execResetRelease (env : BootEnv) (st : State) : Host.Outcome State Fault Refusal :=
  st.onPkg fun s => s.resetRelease env

/-- DIE_BOOT_TIMEOUT (R443): A die is not READY 200 ms after release and is marked failed. -/
def execDieBootTimeout (d : Fin 8) (st : State) : Host.Outcome State Fault Refusal :=
  st.onPkg fun s => s.dieTimeout d.val

/-- FIRMWARE_READY (R441): Boot completes and the package reports READY. -/
def execFirmwareReady (ms : BitVec 32) (st : State) : Host.Outcome State Fault Refusal :=
  st.onPkg fun s => s.firmwareReady ms.toNat

/-- PCIE_LINK_UP (R442): A PCIe endpoint links up and BAR0 answers. -/
def execPcieLinkUp (port : Fin 2) (st : State) : Host.Outcome State Fault Refusal :=
  st.onPkg fun s => s.pcieUp port.val

/-- REFERENCE_INVALID (R436): A reference input becomes invalid and the selector switches over or the reference is lost. -/
def execReferenceInvalid (k : Fin 3) (st : State) : Host.Outcome State Fault Refusal :=
  st.onPkg fun s => s.refInvalid k.val

/-- REFERENCE_VALID (R436): A reference input has been fault-free for 10 ms and becomes valid, with revert or relock. -/
def execReferenceValid (k : Fin 3) (st : State) : Host.Outcome State Fault Refusal :=
  st.onPkg fun s => s.refBack k.val

/-- REF_CTRL_WRITE (R437): A write to ADC_REF_CTRL selects a reference, hitless or relocking. -/
def execRefCtrlWrite (init : Fin 128) (w : BitVec 32) (far : Bool) (st : State) : Host.Outcome State Fault Refusal :=
  st.onPkg fun s => s.refCtrlCmd init.val w.toNat far

/-- ROOT_WRITE (R440): A write to ADC_CLK_CFG.ROOT relocks every root PLL. -/
def execRootWrite (init : Fin 128) (root : Bool) (st : State) : Host.Outcome State Fault Refusal :=
  st.onPkg fun s => s.fieldCmd .ADC .ADC_CLK_CFG 0 init.val 0 1 (b2n root)

/-- ROOT_LOCK_LOSS (R440): A root PLL loses lock and instances on its die become FAULTED. -/
def execRootLockLoss (d : Fin 8) (st : State) : Host.Outcome State Fault Refusal :=
  st.onPkg fun s => s.rootLoss d.val

/-- ADC_START (R446): ADC_CTRL.START requests one conversion at the next conversion boundary. -/
def execAdcStart (d : Fin 8) (init : Fin 128) (st : State) : Host.Outcome State Fault Refusal :=
  st.onPkg fun s => s.fieldCmd .ADC .ADC_CTRL d.val init.val 1 1 1

/-- ADC_CONVERSION_END (R446): A conversion ends and ADC_RESULT is replaced. -/
def execAdcConversionEnd (d : Fin 8) (code : BitVec 12) (st : State) : Host.Outcome State Fault Refusal :=
  st.onPkg fun s => s.adcEnd d.val code.toNat

/-- RAIL_DEPARTURE (R447): A rail leaves its window for 2 µs and its action is taken. -/
def execRailDeparture (d : Fin 8) (r : Fin 5) (mv : BitVec 16) (st : State) : Host.Outcome State Fault Refusal :=
  st.onPkg fun s => s.railOut d.val r.val mv.toNat

/-- TEMP_WARN (R448): A sensor reaches WARN and a HEALTH event is raised. -/
def execTempWarn (d : Fin 8) (n : Fin 4) (v : Int) (st : State) : Host.Outcome State Fault Refusal :=
  st.onPkg fun s => s.tempWarn d.val n.val v

/-- TEMP_CRIT (R448): A sensor reaches CRIT and running instances on the die are frozen. -/
def execTempCrit (d : Fin 8) (n : Fin 4) (v : Int) (st : State) : Host.Outcome State Fault Refusal :=
  st.onPkg fun s => s.tempCrit d.val n.val v

/-- THERMAL_TRIP (R448): A sensor reaches 125 °C and hardware stops the package. -/
def execThermalTrip (d : Fin 8) (n : Fin 4) (st : State) : Host.Outcome State Fault Refusal :=
  st.onPkg fun s => s.thermalTrip d.val n.val

/-- TEMP_CLEAR (R448): A level clears 5 °C below its threshold and TEMP_OK is raised. -/
def execTempClear (d : Fin 8) (n : Fin 4) (crit : Bool) (v : Int) (st : State) : Host.Outcome State Fault Refusal :=
  st.onPkg fun s => s.tempClear d.val n.val crit v

/-- POWER_LOSS (R453): A rail falls below 80 % or PORST_N goes low and the package enters reset, losing emulation state. -/
def execPowerLoss (c : CutWrite) (st : State) : Host.Outcome State Fault Refusal :=
  st.onBoth fun fu s => s.powerLoss fu c

/-- PLL_RELOCK (R440): A root PLL completes its relock after a lock loss, a ROOT write or a relocking reference switch, and ROOT_LOCK is set again. -/
def execPllRelock (d : Fin 8) (st : State) : Host.Outcome State Fault Refusal :=
  st.onPkg fun s => s.relocked d.val

/-- RAIL_RETURN (R447): A core, tier, auxiliary or SerDes rail comes back inside its window, its IN bit is set and a HEALTH RAIL_IN event is raised.
-/
def execRailReturn (d : Fin 8) (r : Fin 5) (mv : BitVec 16) (st : State) : Host.Outcome State Fault Refusal :=
  st.onPkg fun s => s.railIn d.val r.val mv.toNat

/-- VBAT_LOSS (R201): The VBAT supply is lost, the battery-backed key slots become invalid and BB_VALID reads 0. -/
def execVbatLoss (st : State) : Host.Outcome State Fault Refusal :=
  st.onPkg fun s => s.vbatLoss

/-- ADC_CONVERSION_BOUNDARY (R446): Every 1 µs a conversion period begins, pending RWB ADC fields apply, a requested or periodic conversion starts and
reference settling advances. -/
def execAdcConversionBoundary (d : Fin 8) (st : State) : Host.Outcome State Fault Refusal :=
  st.onPkg fun s => s.adcBoundary d.val

end Sys2Proof.Machine
end

