-- ==== Sys2Proof/Machine/CmdTime.lean ====
section
/-!
DEFINITION. The commands of the time unit (R397-R413).
-/
namespace Sys2Proof.Machine

/-- PTP_FRAME_RECEIVE (R399): An Ethernet frame is received, time-stamped if a PTP event message, or discarded. -/
def execPtpFrameReceive (x : EthFrame) (st : State) : Host.Outcome State Fault Refusal :=
  st.onPkg fun s => s.ptpReceive x

/-- PTP_FRAME_TRANSMIT (R400): A PTP event message leaves with its timestamp, inserted one-step where required. -/
def execPtpFrameTransmit (kind : Fin 5) (csum : Bool) (st : State) : Host.Outcome State Fault Refusal :=
  st.onPkg fun s => s.ptpSend kind.val csum

/-- SERVO_OFFSET (R403): The servo measures an offset and slews or steps the clock. -/
def execServoOffset (o : Int) (match_ : Int) (want : Int) (st : State) : Host.Outcome State Fault Refusal :=
  st.onPkg fun s => s.servo o match_ want

/-- MASTER_LOST (R404): Announce receipt or Sync timeout expires and the time unit enters HOLDOVER. -/
def execMasterLost (st : State) : Host.Outcome State Fault Refusal :=
  st.onPkg fun s => s.masterLost

/-- TIME_ADJUST (R405): A write of TIM_ADJ HI applies a signed offset in FREE or HOST mode. -/
def execTimeAdjust (init : Fin 128) (w : BitVec 64) (st : State) : Host.Outcome State Fault Refusal :=
  st.onPkg fun s => s.regCmd .TIM .TIM_ADJ 0 init.val w.toNat 2

/-- LAUNCH_PUSH (R407): TIM_LQ_PUSH enqueues a launch entry or refuses it. -/
def execLaunchPush (init : Fin 128) (st : State) : Host.Outcome State Fault Refusal :=
  st.onPkg fun s => s.regCmd .TIM .TIM_LQ_PUSH 0 init.val 1

/-- LAUNCH_FIRE (R408): A launch entry's time has come and it sends its frame or cascade message. -/
def execLaunchFire (n : Nat) (held : Bool) (csum : Bool) (st : State) : Host.Outcome State Fault Refusal :=
  st.onPkg fun s => s.launchFire n held csum

/-- LAUNCH_CANCEL (R410): TIM_LQ_CANCEL removes a pending launch entry. -/
def execLaunchCancel (init : Fin 128) (id : BitVec 6) (st : State) : Host.Outcome State Fault Refusal :=
  st.onPkg fun s => s.regCmd .TIM .TIM_LQ_CANCEL 0 init.val id.toNat

/-- NT_MICROSECOND (R413): Network time passes a whole microsecond and pending RWB time-unit registers such as TIM_RATE apply. -/
def execNtMicrosecond (n : Nat) (st : State) : Host.Outcome State Fault Refusal :=
  st.onPkg fun s => s.ntMicrosecond n

end Sys2Proof.Machine
end

