-- ==== Sys2Proof/Machine/CmdTrace.lean ====
section
/-!
DEFINITION. The commands of the Whey capture and the Rennet trigger (R286-R311).
-/
namespace Sys2Proof.Machine

/-- WHY_ARM (R308): WHY_CAP_CTL.ARM arms the capture at the next boundary. -/
def execWhyArm (init : Fin 128) (st : State) : Host.Outcome State Fault Refusal :=
  st.onPkg fun s => s.regCmd .WHY .WHY_CAP_CTL 0 init.val 1

/-- WHY_STOP (R308): WHY_CAP_CTL.STOP ends the capture with REASON STOP. -/
def execWhyStop (init : Fin 128) (st : State) : Host.Outcome State Fault Refusal :=
  st.onPkg fun s => s.regCmd .WHY .WHY_CAP_CTL 0 init.val 2

/-- WHY_SNAP (R298): WHY_CAP_CTL.SNAP captures every engine's counters at one Whey clock edge. -/
def execWhySnap (init : Fin 128) (st : State) : Host.Outcome State Fault Refusal :=
  st.onPkg fun s => s.regCmd .WHY .WHY_CAP_CTL 0 init.val 4

/-- DEFERRED_ARM (R308): An ARM issued in DONE applies once every Whey FIFO has drained. -/
def execDeferredArm (st : State) : Host.Outcome State Fault Refusal :=
  st.onPkg fun s => s.deferredArm

/-- FIFO_DRAIN (R294): Staged Whey bytes are written to the sink, with an OVERFLOW enqueued once room returns. -/
def execFifoDrain (d : Fin 8) (n : Nat) (st : State) : Host.Outcome State Fault Refusal :=
  st.onPkg fun s => s.fifoDrain d.val n

/-- RING_RPTR_WRITE (R295): The host advances WHY_RING_RPTR in STREAM mode. -/
def execRingRptrWrite (d : Fin 8) (init : Fin 128) (w : BitVec 64) (st : State) : Host.Outcome State Fault Refusal :=
  st.onPkg fun s => s.regCmd .WHY .WHY_RING_RPTR d.val init.val w.toNat 2

/-- AUTO_TRIGGER_TIMEOUT (R307): The capture has been ARMED for RNT_AUTO_TMO without a trigger and the next sample forces one. -/
def execAutoTriggerTimeout (st : State) : Host.Outcome State Fault Refusal :=
  st.onPkg fun s => s.autoTimeout

end Sys2Proof.Machine
end

