-- ==== Sys2Proof/Machine/Dispatch.lean ====
section
/-!
DEFINITION. The meaning of every command of the table, one arm for each.
-/
namespace Sys2Proof.Machine

/-- What a command does to everything but the queue. -/
def exec (cmd : Instr) (s : State) : Host.Outcome State Fault Refusal :=
  match cmd with
  | .arrayStep i perr => Sys2Proof.Machine.execArrayStep i perr s
  | .stallRelease i => Sys2Proof.Machine.execStallRelease i s
  | .majorCycleBoundary i pads => Sys2Proof.Machine.execMajorCycleBoundary i pads s
  | .flowHoldRelease i pads => Sys2Proof.Machine.execFlowHoldRelease i pads s
  | .callTimeout i => Sys2Proof.Machine.execCallTimeout i s
  | .start i init pads => Sys2Proof.Machine.execStart i init pads s
  | .pause i init => Sys2Proof.Machine.execPause i init s
  | .resume i init => Sys2Proof.Machine.execResume i init s
  | .freeze i init => Sys2Proof.Machine.execFreeze i init s
  | .snap i init => Sys2Proof.Machine.execSnap i init s
  | .dataStoreWrite init inst d off data be => Sys2Proof.Machine.execDataStoreWrite init inst d off data be s
  | .wuStateWrite init inst d off data be => Sys2Proof.Machine.execWuStateWrite init inst d off data be s
  | .bridgeAlignmentLoss d k => Sys2Proof.Machine.execBridgeAlignmentLoss d k s
  | .cavOwnWrite b init w => Sys2Proof.Machine.execCavOwnWrite b init w s
  | .handoverComplete b => Sys2Proof.Machine.execHandoverComplete b s
  | .caveAtomAdd b init a v => Sys2Proof.Machine.execCaveAtomAdd b init a v s
  | .caveAtomSwap b init a v => Sys2Proof.Machine.execCaveAtomSwap b init a v s
  | .caveWindowWrite init inst d off data be => Sys2Proof.Machine.execCaveWindowWrite init inst d off data be s
  | .marchStart p init mode set => Sys2Proof.Machine.execMarchStart p init mode set s
  | .marchDone p fails => Sys2Proof.Machine.execMarchDone p fails s
  | .heldRequestSend k => Sys2Proof.Machine.execHeldRequestSend k s
  | .queueResultReturn k n lat e => Sys2Proof.Machine.execQueueResultReturn k n lat e s
  | .patrolScrubRead j a e => Sys2Proof.Machine.execPatrolScrubRead j a e s
  | .segOwnWrite k init w => Sys2Proof.Machine.execSegOwnWrite k init w s
  | .relocate m seq expired => Sys2Proof.Machine.execRelocate m seq expired s
  | .relocationSwitch i copyOk => Sys2Proof.Machine.execRelocationSwitch i copyOk s
  | .load m seq => Sys2Proof.Machine.execLoad m seq s
  | .streamHeader b => Sys2Proof.Machine.execStreamHeader b s
  | .chunk c => Sys2Proof.Machine.execChunk c s
  | .sectionBegin h x => Sys2Proof.Machine.execSectionBegin h x s
  | .patchBegin h => Sys2Proof.Machine.execPatchBegin h s
  | .sectionEnd h frames records => Sys2Proof.Machine.execSectionEnd h frames records s
  | .frames h l verified => Sys2Proof.Machine.execFrames h l verified s
  | .cave h words => Sys2Proof.Machine.execCave h words s
  | .portcfg h cfg rsv => Sys2Proof.Machine.execPortcfg h cfg rsv s
  | .qentry h word => Sys2Proof.Machine.execQentry h word s
  | .hbm h bytes => Sys2Proof.Machine.execHbm h bytes s
  | .edge h l => Sys2Proof.Machine.execEdge h l s
  | .gdl h l => Sys2Proof.Machine.execGdl h l s
  | .iocfg h vio rsv cells => Sys2Proof.Machine.execIocfg h vio rsv cells s
  | .linkcfg h mode roles pkg port rsv => Sys2Proof.Machine.execLinkcfg h mode roles pkg port rsv s
  | .tracecfg h words => Sys2Proof.Machine.execTracecfg h words s
  | .loadCheck tierOk blow => Sys2Proof.Machine.execLoadCheck tierOk blow s
  | .commitTimeout => Sys2Proof.Machine.execCommitTimeout s
  | .slaveCommitTimeout => Sys2Proof.Machine.execSlaveCommitTimeout s
  | .commitAckTimeout => Sys2Proof.Machine.execCommitAckTimeout s
  | .streamStall => Sys2Proof.Machine.execStreamStall s
  | .cfgAbort init => Sys2Proof.Machine.execCfgAbort init s
  | .errClr init => Sys2Proof.Machine.execErrClr init s
  | .turnerFrameCheck d g a flips stuck passUs => Sys2Proof.Machine.execTurnerFrameCheck d g a flips stuck passUs s
  | .bankSupplyFault b => Sys2Proof.Machine.execBankSupplyFault b s
  | .bankSupplyRestored b => Sys2Proof.Machine.execBankSupplyRestored b s
  | .extest upd pads => Sys2Proof.Machine.execExtest upd pads s
  | .bscanIdcode => Sys2Proof.Machine.execBscanIdcode s
  | .samplePreload upd pads => Sys2Proof.Machine.execSamplePreload upd pads s
  | .clamp => Sys2Proof.Machine.execClamp s
  | .highz => Sys2Proof.Machine.execHighz s
  | .bscanBypass ir => Sys2Proof.Machine.execBscanBypass ir s
  | .laneEn l init on => Sys2Proof.Machine.execLaneEn l init on s
  | .laneTgtApply l => Sys2Proof.Machine.execLaneTgtApply l s
  | .retrain l init => Sys2Proof.Machine.execRetrain l init s
  | .laneFaultClr l init => Sys2Proof.Machine.execLaneFaultClr l init s
  | .synthLock l => Sys2Proof.Machine.execSynthLock l s
  | .synthLockTimeout l noBand => Sys2Proof.Machine.execSynthLockTimeout l noBand s
  | .synthLockLoss l => Sys2Proof.Machine.execSynthLockLoss l s
  | .cdrLockLoss l => Sys2Proof.Machine.execCdrLockLoss l s
  | .trainingFrame l f => Sys2Proof.Machine.execTrainingFrame l f s
  | .pam4AttemptEnd l errs => Sys2Proof.Machine.execPam4AttemptEnd l errs s
  | .trainingTimeout l => Sys2Proof.Machine.execTrainingTimeout l s
  | .wakeToneDetect l => Sys2Proof.Machine.execWakeToneDetect l s
  | .prbsCfgWrite l init w => Sys2Proof.Machine.execPrbsCfgWrite l init w s
  | .injShot l init => Sys2Proof.Machine.execInjShot l init s
  | .periodicInjection l => Sys2Proof.Machine.execPeriodicInjection l s
  | .portBond q ppb skewPs => Sys2Proof.Machine.execPortBond q ppb skewPs s
  | .flitSend q => Sys2Proof.Machine.execFlitSend q s
  | .idleFlit q => Sys2Proof.Machine.execIdleFlit q s
  | .lack q ack nak freed => Sys2Proof.Machine.execLack q ack nak freed s
  | .sched q seq payload => Sys2Proof.Machine.execSched q seq payload s
  | .schsync q seq mcc depth => Sys2Proof.Machine.execSchsync q seq mcc depth s
  | .memFlit q seq w => Sys2Proof.Machine.execMemFlit q seq w s
  | .svcFlit q seq w => Sys2Proof.Machine.execSvcFlit q seq w s
  | .phaseFlit q elapsed theirs echo at_ => Sys2Proof.Machine.execPhaseFlit q elapsed theirs echo at_ s
  | .badFlit q => Sys2Proof.Machine.execBadFlit q s
  | .replayTimeout q => Sys2Proof.Machine.execReplayTimeout q s
  | .linkSilence q => Sys2Proof.Machine.execLinkSilence q s
  | .linkDownTimeout q => Sys2Proof.Machine.execLinkDownTimeout q s
  | .portFaultClr q init => Sys2Proof.Machine.execPortFaultClr q init s
  | .portSnap q init => Sys2Proof.Machine.execPortSnap q init s
  | .portLpApply q => Sys2Proof.Machine.execPortLpApply q s
  | .lowpwrEntry q partnerDone => Sys2Proof.Machine.execLowpwrEntry q partnerDone s
  | .portRealign q init => Sys2Proof.Machine.execPortRealign q init s
  | .ready q seq src dst bcast uid mask blow => Sys2Proof.Machine.execReady q seq src dst bcast uid mask blow s
  | .fail q seq src dst bcast code => Sys2Proof.Machine.execFail q seq src dst bcast code s
  | .commit q seq src dst bcast blow => Sys2Proof.Machine.execCommit q seq src dst bcast blow s
  | .abort q seq src dst bcast => Sys2Proof.Machine.execAbort q seq src dst bcast s
  | .commitAck q seq src dst bcast => Sys2Proof.Machine.execCommitAck q seq src dst bcast s
  | .casStart q seq src dst bcast i count resume told => Sys2Proof.Machine.execCasStart q seq src dst bcast i count resume told s
  | .startAck q seq src dst bcast i code => Sys2Proof.Machine.execStartAck q seq src dst bcast i code s
  | .startCancel q seq src dst bcast i => Sys2Proof.Machine.execStartCancel q seq src dst bcast i s
  | .casStopAt q seq src dst bcast i cycle cause => Sys2Proof.Machine.execCasStopAt q seq src dst bcast i cycle cause s
  | .freezeNow q seq src dst bcast i cause => Sys2Proof.Machine.execFreezeNow q seq src dst bcast i cause s
  | .casEvent q seq src dst bcast i cause mcc => Sys2Proof.Machine.execCasEvent q seq src dst bcast i cause mcc s
  | .halt q seq src dst bcast i pkg => Sys2Proof.Machine.execHalt q seq src dst bcast i pkg s
  | .heartbeat q seq src dst bcast => Sys2Proof.Machine.execHeartbeat q seq src dst bcast s
  | .flush q seq src dst bcast i done => Sys2Proof.Machine.execFlush q seq src dst bcast i done s
  | .lpReq q seq src dst bcast i lp => Sys2Proof.Machine.execLpReq q seq src dst bcast i lp s
  | .faultNote q seq src dst bcast i => Sys2Proof.Machine.execFaultNote q seq src dst bcast i s
  | .heartbeatSend => Sys2Proof.Machine.execHeartbeatSend s
  | .peerTimeout n => Sys2Proof.Machine.execPeerTimeout n s
  | .startAckDeadline => Sys2Proof.Machine.execStartAckDeadline s
  | .cascadeStartCount i pads => Sys2Proof.Machine.execCascadeStartCount i pads s
  | .whyArm init => Sys2Proof.Machine.execWhyArm init s
  | .whyStop init => Sys2Proof.Machine.execWhyStop init s
  | .whySnap init => Sys2Proof.Machine.execWhySnap init s
  | .deferredArm => Sys2Proof.Machine.execDeferredArm s
  | .fifoDrain d n => Sys2Proof.Machine.execFifoDrain d n s
  | .ringRptrWrite d init w => Sys2Proof.Machine.execRingRptrWrite d init w s
  | .autoTriggerTimeout => Sys2Proof.Machine.execAutoTriggerTimeout s
  | .registerWrite init inst addr data be => Sys2Proof.Machine.execRegisterWrite init inst addr data be s
  | .aliasWrite init inst d o n w => Sys2Proof.Machine.execAliasWrite init inst d o n w s
  | .doorbell m init tail => Sys2Proof.Machine.execDoorbell m init tail s
  | .slotTake m fetched => Sys2Proof.Machine.execSlotTake m fetched s
  | .partialMessageTimeout m => Sys2Proof.Machine.execPartialMessageTimeout m s
  | .completionWrite m => Sys2Proof.Machine.execCompletionWrite m s
  | .cplHeadWrite m init head => Sys2Proof.Machine.execCplHeadWrite m init head s
  | .mailboxReset m init => Sys2Proof.Machine.execMailboxReset m init s
  | .fetchRetry m => Sys2Proof.Machine.execFetchRetry m s
  | .eventWrite => Sys2Proof.Machine.execEventWrite s
  | .deferredActionDone m seq => Sys2Proof.Machine.execDeferredActionDone m seq s
  | .ping m seq ms => Sys2Proof.Machine.execPing m seq ms s
  | .getInfo m seq => Sys2Proof.Machine.execGetInfo m seq s
  | .getFusemap m seq fail => Sys2Proof.Machine.execGetFusemap m seq fail s
  | .getHealth m seq fail => Sys2Proof.Machine.execGetHealth m seq fail s
  | .loadAbort m seq => Sys2Proof.Machine.execLoadAbort m seq s
  | .loadReport m seq fail => Sys2Proof.Machine.execLoadReport m seq fail s
  | .unload m seq => Sys2Proof.Machine.execUnload m seq s
  | .runCtlStart m seq => Sys2Proof.Machine.execRunCtlStart m seq s
  | .runCtlPause m seq => Sys2Proof.Machine.execRunCtlPause m seq s
  | .runCtlResume m seq => Sys2Proof.Machine.execRunCtlResume m seq s
  | .runCtlFreeze m seq => Sys2Proof.Machine.execRunCtlFreeze m seq s
  | .runCtlSetStopAt m seq => Sys2Proof.Machine.execRunCtlSetStopAt m seq s
  | .runCtlClearStopAt m seq => Sys2Proof.Machine.execRunCtlClearStopAt m seq s
  | .instReset m seq => Sys2Proof.Machine.execInstReset m seq s
  | .resetDrainComplete i ns => Sys2Proof.Machine.execResetDrainComplete i ns s
  | .resetOverrun i ns => Sys2Proof.Machine.execResetOverrun i ns s
  | .caveOwn m seq => Sys2Proof.Machine.execCaveOwn m seq s
  | .march m seq fails => Sys2Proof.Machine.execMarch m seq fails s
  | .memRead m seq ue fail => Sys2Proof.Machine.execMemRead m seq ue fail s
  | .memWrite m seq bytes ue fail => Sys2Proof.Machine.execMemWrite m seq bytes ue fail s
  | .traceRead m seq fail => Sys2Proof.Machine.execTraceRead m seq fail s
  | .linkSend m seq bytes fail => Sys2Proof.Machine.execLinkSend m seq bytes fail s
  | .linkRecv m seq fail => Sys2Proof.Machine.execLinkRecv m seq fail s
  | .keyEfProgram m seq steady reads => Sys2Proof.Machine.execKeyEfProgram m seq steady reads s
  | .keyBbWrite m seq reads => Sys2Proof.Machine.execKeyBbWrite m seq reads s
  | .keyBbZero m seq => Sys2Proof.Machine.execKeyBbZero m seq s
  | .fusePolicy m seq steady stuck => Sys2Proof.Machine.execFusePolicy m seq steady stuck s
  | .mpRestart m seq => Sys2Proof.Machine.execMpRestart m seq s
  | .flowBind m seq => Sys2Proof.Machine.execFlowBind m seq s
  | .flowUnbind m seq => Sys2Proof.Machine.execFlowUnbind m seq s
  | .wdogKick d init => Sys2Proof.Machine.execWdogKick d init s
  | .wdogExpiry d => Sys2Proof.Machine.execWdogExpiry d s
  | .mpRebootDone d => Sys2Proof.Machine.execMpRebootDone d s
  | .mpFailed d => Sys2Proof.Machine.execMpFailed d s
  | .outboundEntryWriteDone e ns => Sys2Proof.Machine.execOutboundEntryWriteDone e ns s
  | .callAnswer f init lo hi => Sys2Proof.Machine.execCallAnswer f init lo hi s
  | .flowHostPointerWrite f init ptr => Sys2Proof.Machine.execFlowHostPointerWrite f init ptr s
  | .inboundFetchDone e ns fseq len words => Sys2Proof.Machine.execInboundFetchDone e ns fseq len words s
  | .workItemDispatch e ns => Sys2Proof.Machine.execWorkItemDispatch e ns s
  | .dmaRetry e => Sys2Proof.Machine.execDmaRetry e s
  | .schSnap init => Sys2Proof.Machine.execSchSnap init s
  | .engineReturn e init => Sys2Proof.Machine.execEngineReturn e init s
  | .ringRequest r => Sys2Proof.Machine.execRingRequest r s
  | .ringResponse init tag dep => Sys2Proof.Machine.execRingResponse init tag dep s
  | .ringMsg d => Sys2Proof.Machine.execRingMsg d s
  | .ringTimeout init tag dep => Sys2Proof.Machine.execRingTimeout init tag dep s
  | .regionPowerOff p init => Sys2Proof.Machine.execRegionPowerOff p init s
  | .regionDrained p => Sys2Proof.Machine.execRegionDrained p s
  | .drainTimeout p => Sys2Proof.Machine.execDrainTimeout p s
  | .regionOff p us => Sys2Proof.Machine.execRegionOff p us s
  | .regionPowerOn p init => Sys2Proof.Machine.execRegionPowerOn p init s
  | .regionOn p us => Sys2Proof.Machine.execRegionOn p us s
  | .autoPowerOff p => Sys2Proof.Machine.execAutoPowerOff p s
  | .ptpFrameReceive x => Sys2Proof.Machine.execPtpFrameReceive x s
  | .ptpFrameTransmit kind csum => Sys2Proof.Machine.execPtpFrameTransmit kind csum s
  | .servoOffset o match_ want => Sys2Proof.Machine.execServoOffset o match_ want s
  | .masterLost => Sys2Proof.Machine.execMasterLost s
  | .timeAdjust init w => Sys2Proof.Machine.execTimeAdjust init w s
  | .launchPush init => Sys2Proof.Machine.execLaunchPush init s
  | .launchFire n held csum => Sys2Proof.Machine.execLaunchFire n held csum s
  | .launchCancel init id => Sys2Proof.Machine.execLaunchCancel init id s
  | .dbgAccess dr => Sys2Proof.Machine.execDbgAccess dr s
  | .dbgPstat => Sys2Proof.Machine.execDbgPstat s
  | .dbgXtrig mask => Sys2Proof.Machine.execDbgXtrig mask s
  | .dbgIdcode => Sys2Proof.Machine.execDbgIdcode s
  | .dbgBypass => Sys2Proof.Machine.execDbgBypass s
  | .mpHalt d init => Sys2Proof.Machine.execMpHalt d init s
  | .mpResume d init => Sys2Proof.Machine.execMpResume d init s
  | .mpStep d init => Sys2Proof.Machine.execMpStep d init s
  | .mpBreakpoint d => Sys2Proof.Machine.execMpBreakpoint d s
  | .mpRegWrite d init w => Sys2Proof.Machine.execMpRegWrite d init w s
  | .mpFeed d init insn o => Sys2Proof.Machine.execMpFeed d init insn o s
  | .xtPulse init mask => Sys2Proof.Machine.execXtPulse init mask s
  | .xtrigIn => Sys2Proof.Machine.execXtrigIn s
  | .debugFreeze i init => Sys2Proof.Machine.execDebugFreeze i init s
  | .debugRelease i init => Sys2Proof.Machine.execDebugRelease i init s
  | .debugStep i init => Sys2Proof.Machine.execDebugStep i init s
  | .resetRelease env => Sys2Proof.Machine.execResetRelease env s
  | .dieBootTimeout d => Sys2Proof.Machine.execDieBootTimeout d s
  | .firmwareReady ms => Sys2Proof.Machine.execFirmwareReady ms s
  | .pcieLinkUp port => Sys2Proof.Machine.execPcieLinkUp port s
  | .referenceInvalid k => Sys2Proof.Machine.execReferenceInvalid k s
  | .referenceValid k => Sys2Proof.Machine.execReferenceValid k s
  | .refCtrlWrite init w far => Sys2Proof.Machine.execRefCtrlWrite init w far s
  | .rootWrite init root => Sys2Proof.Machine.execRootWrite init root s
  | .rootLockLoss d => Sys2Proof.Machine.execRootLockLoss d s
  | .adcStart d init => Sys2Proof.Machine.execAdcStart d init s
  | .adcConversionEnd d code => Sys2Proof.Machine.execAdcConversionEnd d code s
  | .railDeparture d r mv => Sys2Proof.Machine.execRailDeparture d r mv s
  | .tempWarn d n v => Sys2Proof.Machine.execTempWarn d n v s
  | .tempCrit d n v => Sys2Proof.Machine.execTempCrit d n v s
  | .thermalTrip d n => Sys2Proof.Machine.execThermalTrip d n s
  | .tempClear d n crit v => Sys2Proof.Machine.execTempClear d n crit v s
  | .powerLoss c => Sys2Proof.Machine.execPowerLoss c s
  | .bridgeRealignment d k => Sys2Proof.Machine.execBridgeRealignment d k s
  | .pllRelock d => Sys2Proof.Machine.execPllRelock d s
  | .railReturn d r mv => Sys2Proof.Machine.execRailReturn d r mv s
  | .vbatLoss => Sys2Proof.Machine.execVbatLoss s
  | .prbsCheckerReceive l b more => Sys2Proof.Machine.execPrbsCheckerReceive l b more s
  | .mpWatchpointMatch d fetch write addr n data => Sys2Proof.Machine.execMpWatchpointMatch d fetch write addr n data s
  | .adcConversionBoundary d => Sys2Proof.Machine.execAdcConversionBoundary d s
  | .ntMicrosecond n => Sys2Proof.Machine.execNtMicrosecond n s
  | .hbmAccessWindow j pc => Sys2Proof.Machine.execHbmAccessWindow j pc s
  | .timedOutTagRelease init tag => Sys2Proof.Machine.execTimedOutTagRelease init tag s

end Sys2Proof.Machine
end

