-- ==== Sys2Proof/Machine/Step.lean ====
section
/-!
DEFINITION. One step: the command at the front of the queue is performed. On an empty queue the part idles; time passes only by its commands.
-/
namespace Sys2Proof.Machine

/-- One step. -/
def step (s : State) : Host.Outcome State Fault Refusal :=
  match s.pending with
  | [] => .next s
  | cmd :: rest => exec cmd { s with pending := rest }

/-- The state with the command of a table word put at the front of its queue; no word spells one. -/
def State.withFetchWord (s : State) (nbits w : Nat) : State :=
  match decodeTableWord nbits w with
  | some cmd => { s with pending := cmd :: s.pending }
  | none => s

end Sys2Proof.Machine
end

