-- ==== Sys2Proof/Safety.lean ====
section
/-!
DEFINITION. The terms claims are made in: what a command gives, what it leaves as it was, and the fuses that stay blown.
-/
namespace Sys2Proof.Machine

/-- Command `cmd` completes in state `s`: the next state differs from `s` in its package alone, which becomes `p`. -/
def Becomes (cmd : Instr) (s : State) (p : Pkg) : Prop := exec cmd s = .next { s with pkg := p }

/-- Command `cmd` completes in state `s`: the next state differs from `s` in its package alone, and the package then has property `P`. -/
def Yields (cmd : Instr) (s : State) (P : Pkg → Prop) : Prop := ∃ p, Becomes cmd s p ∧ P p

/-- `t` differs from `s` in nothing but register fields, and in none but those of the list, each named with its unit. -/
def Pkg.onlyFields (s t : Pkg) (l : List (Fld × Nat)) : Prop :=
  t = { s with flds := t.flds } ∧ ∀ f i, (f, i) ∉ l → t.g f i = s.g f i

/-- No register field outside the list differs between `s` and `t`. -/
def Pkg.fieldsOutside (s t : Pkg) (l : List (Fld × Nat)) : Prop := ∀ f i, (f, i) ∉ l → t.g f i = s.g f i

/-- Every byte of HBM, host memory, processor SRAM and the frame buffer reads in `t` as in `s`. -/
def Pkg.sameBytes (s t : Pkg) : Prop :=
  ∀ a, readByte t.que.hbm a = readByte s.que.hbm a ∧ readByte t.host a = readByte s.host a ∧ readByte t.sram a = readByte s.sram a ∧
    readByte t.tim.buf a = readByte s.tim.buf a

/-- Counter field `f` of unit `i` with `n` added, held to its width. -/
def Pkg.plus (s : Pkg) (f : Fld) (i n : Nat) : Nat := (s.g f i + n) % 2 ^ f.width

/-- The bridge blocks that a command of the array carries, by receiving side and block. -/
def wrongBlocks (l : List (Fin 32 × Fin 8 × BitVec 33)) : List (Nat × Nat × Nat) := l.map fun e => (e.1.val, e.2.1.val, e.2.2.toNat)

/-- The step a period of instance `i` finds, once the frame bits have upset, its bridge errors are noted and the queue requests that a WAIT of the
step awaits are issued. -/
def State.due (s : State) (i : Nat) (l : List (Fin 32 × Fin 8 × BitVec 33)) (ups : List (BitVec 32 × List (Fin 4128))) : Pkg :=
  ((s.pkg.upsets (ups.map fun e => (e.1.toNat, e.2.map Fin.val))).bridgeErrors (wrongBlocks l)).issueEarly i

/-- The state with the pad levels that a command carries. -/
def State.withPads (s : State) (l : List (Fin 1024 × Fin 3)) : Pkg := s.pkg.setPads (l.map fun e => (e.1.val, e.2.val))

/-- The fields of a block's refusal record, by the index of its common registers (R326). -/
def refusalFields (k : Nat) : List (Fld × Nat) :=
  [(.BLK_ERR_CNT, k), (.BLK_ERR_CAUSE, k), (.BLK_ERR_WRITE, k), (.BLK_ERR_ALIAS, k), (.BLK_ERR_INITIATOR, k), (.BLK_ERR_INST, k),
   (.BLK_ERR_ADDR, k), (.BLK_ERR_VALID, k)]

/-- `t` is `s` after a refused access of block `b` on die `d` by initiator `init` with cause `c` (R326): the refusal is counted, and recorded in full
where the record was empty; nothing else changes. -/
def Pkg.refused (s t : Pkg) (b : Blk) (d c init : Nat) : Prop :=
  let k := b.common d
  s.onlyFields t (refusalFields k) ∧ t.g .BLK_ERR_CNT k = min (s.g .BLK_ERR_CNT k + 1) (2 ^ 32 - 1) ∧ t.g .BLK_ERR_VALID k = 1 ∧
  (s.g .BLK_ERR_VALID k = 0 → t.g .BLK_ERR_CAUSE k = c ∧ t.g .BLK_ERR_INITIATOR k = initCode init) ∧
  (s.g .BLK_ERR_VALID k = 1 → t.g .BLK_ERR_CAUSE k = s.g .BLK_ERR_CAUSE k ∧ t.g .BLK_ERR_INITIATOR k = s.g .BLK_ERR_INITIATOR k)

/-- The command of mailbox `m` with sequence number `q` has ended in `t`: it is in progress no more, and a completion with this status, reason and
RESULT waits for the ring (R337, R341). -/
def Pkg.completed (t : Pkg) (m q : Nat) (st : Status) (r : Reason) (res : List Nat) : Prop :=
  t.job m q = none ∧ ∃ c ∈ (t.mail m).cplq, c.seq = q ∧ c.status = st.ctorIdx ∧ c.reason = r.ctorIdx ∧ c.result = res

/-- The load in progress has ended in `t` with a failure code of Table 103 (R193): phase 7, CFG_ERR_N low, no stream in progress. -/
def Pkg.loadFailed (t : Pkg) (code : Nat) : Prop :=
  t.load.active = false ∧ t.g .CFG_LOAD_STAT_FAIL 0 = code ∧ t.g .CFG_LOAD_STAT_PHASE 0 = 7 ∧ t.g .CFG_LOAD_STAT_ERR 0 = 1 ∧ t.pins.errN = false

/-- A record of instance `i` reaches its open section `x`, in a chunk of virtual die `v` (8 and above: of the whole package), while the processors that
carry the load out act. -/
def Pkg.inSection (s : Pkg) (h : RecHdr) (v : Nat) (x : Section) : Prop :=
  s.loadersAct = true ∧ s.load.active = true ∧ s.load.die = some v ∧ h.inst < 16 ∧ h.rsv = 0 ∧
  (s.load.secs.find? fun y => y.inst == h.inst) = some x ∧ x.closed = false

/-- The state with one more record counted in the section of instance `i`. -/
def Pkg.counted (s : Pkg) (i : Nat) : Pkg := s.updSec i fun y => { y with records := y.records + 1 }

/-- The counters and marks that the scheduler and the mailbox keep of the commands themselves. -/
def accounting (f : Fld) : Bool :=
  match f with
  | .SCH_CREATED | .SCH_DONE | .SCH_PURGED | .SCH_INST_PURGED | .SCH_POOL | .SCH_ENG_DONE | .SCH_LATE | .SCH_WAIT_HIST | .SCH_DMA_ISSUED | .SCH_DMA_DONE
  | .DBG_MP_CTX_INST | .DBG_MP_CTX_VALID | .MBX_MSG_BUSY => true
  | _ => false

/-- No register field differs between `s` and `t` but those accounts. -/
def Pkg.accounted (s t : Pkg) : Prop := ∀ f i, accounting f = false → t.g f i = s.g f i

/-- A command of a mailbox is answered and does nothing else of its own: only the accounts of commands, the mailboxes and the work items change. -/
def Pkg.onlyAnswer (s t : Pkg) : Prop := t = { s with flds := t.flds, mbx := t.mbx, sch := t.sch } ∧ s.accounted t

/-- The command of mailbox `m` with sequence number `q` and opcode `op` is `j`, its turn has come, and its management processor acts and takes or has
its item (R344, R366, R367). -/
def Pkg.inTurn (s : Pkg) (m q op : Nat) (j : Msg) : Prop := s.take m q op = some j ∧ s.mpTakes m q j = true

/-- The items of the transfer of command `q` of mailbox `m` are served as they are created (R366, R368): it has none out, the pool has a place, a DMA
engine is free, and nothing else waits for one. -/
def Pkg.dmaServes (s : Pkg) (m q : Nat) : Bool :=
  (s.moveItem m q).isNone && s.g .SCH_POOL 0 != 0 && ((List.range 32).any fun e => s.engRoom (8 + e)) &&
    s.sch.items.all fun x => x.engine.isSome || x.ref.code == 0

/-- The transfer of command `q` of mailbox `m` can have no item yet: it has none out, and the pool is empty (R368). -/
def Pkg.poolEmpty (s : Pkg) (m q : Nat) : Bool := (s.moveItem m q).isNone && s.g .SCH_POOL 0 == 0

/-- Memory `w` is `m` with the bytes of `l` written from `a`, and nothing else. -/
def written (m w : List Host.Cell) (a : Nat) (l : List Byte) : Prop :=
  ∀ x, readByte w x = if a ≤ x ∧ x < a + l.length then l.getD (x - a) 0 else readByte m x

/-- A command has copied bytes to host memory and is answered (R345). -/
def Pkg.toHostDone (s t : Pkg) (a : Nat) (l : List Byte) : Prop :=
  t = { s with flds := t.flds, mbx := t.mbx, sch := t.sch, host := t.host } ∧ s.accounted t ∧ written s.host t.host a l

/-- No watchpoint of the package is enabled (R422): a request on the service rings passes them unseen. -/
def Pkg.unwatched (s : Pkg) : Bool := (List.range 64).all fun n => s.g .DBG_WP_CTL_EN n == 0

/-- Every policy fuse blown in `f` is blown in `f'`, the fused generation of `f'` is no lower, and a key that may be programmed no more keeps its fuses
(R199, R200, R203). -/
def Fuses.growsTo (f f' : Fuses) : Prop :=
  f.gen ≤ f'.gen ∧ (f.secure = true → f'.secure = true) ∧ (f.efKeyDis = true → f'.efKeyDis = true) ∧ (f.bbKeyDis = true → f'.bbKeyDis = true) ∧
  (f.keyBarred = true → f'.keyBarred = true ∧ f'.key = f.key ∧ f'.check = f.check)

end Sys2Proof.Machine
end

