-- ==== Sys2Proof/Certificates/Slice0/Obligations.lean ====
section
/-!
DEFINITION. The statements for the provers. Each says under which conditions on the state and the operands commands complete and what they leave;
`Becomes` and `Yields` say with it that the queue and the fuses stay as they were.
-/
open Sys2Proof Sys2Proof.Machine

/-! ## The machine -/

/-- A step with a command at the front of the queue is `exec` of that command on the state with the queue's rest; on an empty queue the part idles, which is
the model's choice (log entry 1). -/
def Obligations.StepPerformsTheFrontCommand : Prop :=
  (∀ (cmd : Instr) (rest : List Instr) (s : State), s.pending = cmd :: rest → step s = exec cmd { s with pending := rest }) ∧
  ∀ s : State, s.pending = [] → step s = .next s

/-- Every step answers a next state, and leaves every waiting command but the first in its place. Where it rests on the model's choices, they are those of log
entries 1, 2. -/
def Obligations.EveryStepAnswers : Prop := ∀ s : State, ∃ t, step s = .next t ∧ t.pending = s.pending.tail

/-- Every command answers a next state on every state, with its effect or, where the condition of an event does not hold, with none, and leaves the queue as it
is. Where it rests on the model's choices, they are those of log entries 2. -/
def Obligations.EveryCommandAnswers : Prop := ∀ (cmd : Instr) (s : State), ∃ t, exec cmd s = .next t ∧ t.pending = s.pending

/-- One-time fuses stay blown and the fused generation never falls, whatever command a step performs (R199, R203). Where it rests on the model's choices, they
are those of log entries 60, 114. -/
def Obligations.FusesNeverUnblow : Prop :=
  ∀ (f : Fuses) (s t : State), f.growsTo s.fuses → step s = .next t → f.growsTo t.fuses

/-- No command changes a fuse but KEY_EF_PROGRAM and FUSE_POLICY, the three that end a load or a commit, and a loss of power during one of them. Where it rests
on the model's choices, they are those of log entries 60, 114. -/
def Obligations.FewCommandsReachTheFuses : Prop :=
  ∀ (cmd : Instr) (s t : State), exec cmd s = .next t →
    (match cmd with
      | .keyEfProgram .. | .fusePolicy .. | .loadCheck .. | .ready .. | .commit .. | .powerLoss .. => True
      | _ => t.fuses = s.fuses)

/-- After reset: no command waits, no fuse is blown, every register field holds its reset value, every instance is UNLOADED, and every memory is in canonical
form with nothing listed. Where it rests on the model's choices, they are those of log entries 3, 7, 128. -/
def Obligations.ResetState : Prop :=
  State.reset.pending = [] ∧ State.reset.fuses = {} ∧ (∀ (f : Fld) (i : Nat), State.reset.pkg.g f i = f.reset i % 2 ^ f.width) ∧
  (∀ i : Fin 16, State.reset.pkg.runState i = .unloaded) ∧
  Memory.wf State.reset.pkg.que.hbm = true ∧ Memory.wf State.reset.pkg.host = true ∧ Memory.wf State.reset.pkg.sram = true ∧
  ∀ a, readByte State.reset.pkg.que.hbm a = 0

/-! ## The array -/

/-- ARRAY_STEP executes the step due of a RUNNING instance that nothing holds back (R18, R31): the step index advances, after step D - 1 it returns to 0 and
the instance stands at its boundary (row 1 of Table 10); ARY_EXEC and ARY_TOTAL count it; no byte of memory changes. ARRAY_STEP while the step due waits
for a link slot, a queue result or a call answer (R30, R31): the step index stays, the period counts in ARY_TOTAL and in the counter of one cause alone,
and the array, the caves and the word units stay as they are. An instance that does not run takes no period at all. It says under which conditions these
commands complete, and with what next state: `arrayStep`. Where it rests on the model's choices, they are those of log entries 36, 37, 44, 162. -/
def Obligations.ArrayStepsExecuteOrWait : Prop :=
  (∀ (i : Fin 16) (perr : List (Fin 32 × Fin 8 × BitVec 33)) (ups : List (BitVec 32 × List (Fin 4128))) (s : State),
    s.pkg.runs i = true → (s.pkg.inst i).row = 0 → s.pkg.b .ARY_RUN_STAT_STALLING i = false →
    ((s.due i perr ups).late i).none = true →
    Yields (.arrayStep i (perr, ups)) s fun t =>
      (t.inst i).step = (if (s.pkg.inst i).step + 1 = s.pkg.depth i then 0 else (s.pkg.inst i).step + 1) ∧
      (t.inst i).row = (if (s.pkg.inst i).step + 1 = s.pkg.depth i then 1 else 0) ∧
      t.g .ARY_EXEC i = s.pkg.plus .ARY_EXEC i 1 ∧ t.g .ARY_TOTAL i = s.pkg.plus .ARY_TOTAL i 1 ∧
      t.g .ARY_RUN_STAT_STALLING i = 0 ∧ s.pkg.sameBytes t) ∧
  (∀ (i : Fin 16) (perr : List (Fin 32 × Fin 8 × BitVec 33)) (ups : List (BitVec 32 × List (Fin 4128))) (s : State),
    (s.pkg.runs i = true → (s.pkg.inst i).row = 0 → ((s.due i perr ups).late i).none = false →
      Yields (.arrayStep i (perr, ups)) s fun t =>
        let p := s.due i perr ups
        let c := (p.late i).cause
        (t.inst i).step = (s.pkg.inst i).step ∧ (t.inst i).row = 0 ∧
        t.g .ARY_TOTAL i = s.pkg.plus .ARY_TOTAL i 1 ∧
        t.g .ARY_STALL_LNK i = s.pkg.plus .ARY_STALL_LNK i (b2n (c == 1)) ∧
        t.g .ARY_STALL_QUE i = s.pkg.plus .ARY_STALL_QUE i (b2n (c == 2)) ∧
        t.g .ARY_STALL_CALL i = s.pkg.plus .ARY_STALL_CALL i (b2n (c == 3)) ∧
        t.g .ARY_EXEC i = s.pkg.g .ARY_EXEC i ∧ t.g .ARY_RUN_STAT_STALLING i = 1 ∧ t.g .ARY_RUN_STAT_STALL_CAUSE i = c ∧
        t = { p with flds := t.flds, insts := t.insts, trc := t.trc }) ∧
    (s.pkg.runs i = false → Becomes (.arrayStep i (perr, ups)) s ((s.pkg.upsets (ups.map fun e => (e.1.toNat, e.2.map Fin.val))).bridgeErrors (wrongBlocks perr))))

/-- In an executed step a BP of the instance whose slot holds LUT writes, at the address of the step index, the bit of its truth table that its four operands
select, three of them in a COMPAT instance; SEND writes its operand a (R44, R45, R48, R52, R56). Operands read as they stood before the step, but for the
receive slot being captured; slot and operands are as upset frames and bridge errors leave them. It says under which conditions these commands complete,
and with what next state: `arrayStep`. Where it rests on the model's choices, they are those of log entries 14, 27. -/
def Obligations.BpWritesItsResult : Prop :=
  ∀ (i : Fin 16) (perr : List (Fin 32 × Fin 8 × BitVec 33)) (ups : List (BitVec 32 × List (Fin 4128))) (s : State) (r k : Nat),
    let p := (s.due i perr ups).bridgeFlips i (wrongBlocks perr)
    let t := (s.pkg.inst i).step
    let bp := r * 2048 + k
    let w := p.fab.instr.at (slotKey r t + k)
    let caps := (s.pkg.regionsOf i).flatMap fun q => p.captures (s.pkg.depth i) q t
    let x : StepCtx := { inst := i, step := t, depth := s.pkg.depth i, compat := s.pkg.b .ARY_CFG_INFO_COMPAT i, edge := 0, gdl := 0,
                         caps := Store.setAll 0 [] (caps.filter fun e => e.2 != 0) }
    let v := fun sel => x.read p.fab bp sel
    s.pkg.runs i = true → (s.pkg.inst i).row = 0 → s.pkg.b .ARY_RUN_STAT_STALLING i = false → (p.late i).none = true →
    r ∈ s.pkg.regionsOf i → k < 2048 → t < 1024 →
    Yields (.arrayStep i (perr, ups)) s fun z =>
      (bpClass w = 1 → s.pkg.b .ARY_CFG_INFO_COMPAT i = false →
        z.fab.bit bp t = b2n (bit w (48 + (v (bpSelA w) + 2 * v (bpSelB w) + 4 * v (bpSelC w) + 8 * v (bpSelD w))))) ∧
      (bpClass w = 1 → s.pkg.b .ARY_CFG_INFO_COMPAT i = true →
        z.fab.bit bp t = b2n (bit w (48 + (v (bpSelA w) + 2 * v (bpSelB w) + 4 * v (bpSelC w))))) ∧
      (bpClass w = 5 → z.fab.bit bp t = v (bpSelA w))

/-- STALL_RELEASE (R30, R31): the two release periods count, then the held step executes. FLOW_HOLD_RELEASE: two more periods of the hold count, and the
boundary goes on to step 0 of the next cycle. CALL_TIMEOUT (R32): a CALL stall that has lasted ARY_CALL_TMO makes the instance FAULTED at its held step;
with ARY_CALL_TMO at 0 nothing happens. It says under which conditions these commands complete, and with what next state: `stallRelease`,
`flowHoldRelease`, `callTimeout`. Where it rests on the model's choices, they are those of log entries 36. -/
def Obligations.StallsEnd : Prop :=
  ((∀ (i : Fin 16) (s : State), s.pkg.runs i = true → s.pkg.b .ARY_RUN_STAT_STALLING i = true → (s.pkg.late i).none = true →
    Yields (.stallRelease i) s fun t =>
      let f := stallFld (s.pkg.g .ARY_RUN_STAT_STALL_CAUSE i)
      t.g f i = s.pkg.plus f i 2 ∧ t.g .ARY_TOTAL i = s.pkg.plus .ARY_TOTAL i 3 ∧ t.g .ARY_EXEC i = s.pkg.plus .ARY_EXEC i 1 ∧
      t.g .ARY_RUN_STAT_STALLING i = 0 ∧
      (t.inst i).step = (if (s.pkg.inst i).step + 1 = s.pkg.depth i then 0 else (s.pkg.inst i).step + 1) ∧ s.pkg.sameBytes t) ∧
  (∀ (i : Fin 16) (pads : List (Fin 1024 × Fin 3)) (s : State), s.pkg.runs i = true → (s.pkg.inst i).row = 4 → s.pkg.lacking i = [] →
    Yields (.flowHoldRelease i pads) s fun t =>
      (t.inst i).row = 0 ∧ (t.inst i).step = 0 ∧ t.g .ARY_RUN_STAT_HOLDING i = 0)) ∧
  (∀ (i : Fin 16) (s : State), s.pkg.runs i = true → s.pkg.b .ARY_RUN_STAT_STALLING i = true → (s.pkg.late i).call = true →
    (s.pkg.g .ARY_CALL_TMO i ≠ 0 → Yields (.callTimeout i) s fun t =>
      t.runState i = .faulted ∧ t.g .ARY_RUN_STAT_STOP_CAUSE i = 9 ∧ t.g .ARY_RUN_STAT_STALLING i = 0 ∧
      (t.inst i).step = (s.pkg.inst i).step ∧ s.pkg.sameBytes t) ∧
    (s.pkg.g .ARY_CALL_TMO i = 0 → Becomes (.callTimeout i) s s.pkg))

/-- MAJOR_CYCLE_BOUNDARY (R22, R28, R37, R38), for an instance that is not traced and whose design has no cascade stop or debug step under way: the cycle
counts, and then either the stop condition of the highest rank takes effect, or a flow without room holds the boundary, or step 0 of the next cycle is due.
It says under which conditions these commands complete, and with what next state: `majorCycleBoundary`. Where it rests on the model's choices, they are
those of log entries 24, 25, 26, 40, 131. -/
def Obligations.BoundaryCountsAndStops : Prop :=
  ∀ (i : Fin 16) (pads : List (Fin 1024 × Fin 3)) (s : State),
    s.pkg.runs i = true → (s.pkg.inst i).row = 1 → s.pkg.traced ≠ some i.val → s.pkg.g .DBG_INST_STAT_STEPPING i = 0 →
    (s.pkg.inst i).stopNow = false → (s.pkg.inst i).cascCause = none →
    let n := s.pkg.plus .ARY_MCC i 1
    let reached := s.pkg.b .ARY_CTRL_STOP_AT_EN i && s.pkg.stopAt i == n
    let asked := (s.pkg.inst i).pend
    let cause := stopOrder.find? fun c => asked.contains c.code || (reached && c == .stopAt)
    Yields (.majorCycleBoundary i pads) s fun t =>
      t.g .ARY_MCC i = n ∧
      (∀ c, cause = some c → t.runState i = stopState c ∧ t.g .ARY_RUN_STAT_STOP_CAUSE i = c.code ∧ t.g .ARY_RUN_STAT_MID_CYCLE i = 0 ∧
        t.g .ARY_RUN_STAT_PAUSE_PEND i = 0 ∧ t.g .ARY_RUN_STAT_FREEZE_PEND i = 0 ∧ (t.inst i).pend = [] ∧ t.gs .ARY_MCC i = n ∧
        s.pkg.sameBytes t) ∧
      (cause = none → s.pkg.lacking i ≠ [] → t.runState i = .running ∧ (t.inst i).row = 4 ∧ t.g .ARY_RUN_STAT_HOLDING i = 1 ∧ s.pkg.sameBytes t) ∧
      (cause = none → s.pkg.lacking i = [] →
        t.runState i = .running ∧ (t.inst i).row = 0 ∧ (t.inst i).step = 0 ∧ t.g .ARY_RUN_STAT_HOLDING i = 0)

/-- START and RESUME (R35, R39, R41), with no watchpoint enabled. START takes a LOADED instance of one package to step 0 of a cycle, RUNNING; RESUME takes up a
PAUSED or FROZEN one: in mid-cycle, or between a boundary and step 0, at its held step, at a boundary from row 4; a freeze whose cause has not cleared
blocks it; in any other state the command is ignored. A frame that Turner found bad freezes the instance before it executes a step (R212). It says under
which conditions these commands complete, and with what next state: `start`, `resume`. Where it rests on the model's choices, they are those of log entries
5, 41, 42. -/
def Obligations.StartAndResume : Prop :=
  ∀ (i : Fin 16) (init : Fin 128) (pads : List (Fin 1024 × Fin 3)) (s : State), s.pkg.unwatched = true →
    let busy := s.pkg.resetting i || s.pkg.relocating i || s.pkg.patching i
    let casc := (s.pkg.inst i).desc.cascade
    let bad := s.pkg.g .TRN_INST_STAT_BAD i
    (s.pkg.runState i = .loaded → busy = false → casc = false →
      Yields (.start i init pads) s fun t => s.pkg.sameBytes t ∧
        (bad = 0 → t.runState i = .running ∧ (t.inst i).row = 0 ∧ (t.inst i).step = 0 ∧ (t.inst i).begun = true) ∧
        (bad ≠ 0 → t.runState i = .frozen ∧ t.g .ARY_RUN_STAT_STOP_CAUSE i = 6)) ∧
    (s.pkg.runState i ≠ .loaded ∨ busy = true ∨ casc = true ∧ s.pkg.isMaster = false →
      Becomes (.start i init pads) s ((s.withPads pads).p .ARY_ERR_CMD_IGNORED i 1)) ∧
    (s.pkg.runState i = .frozen → s.pkg.b .ARY_RUN_STAT_MID_CYCLE i = true → s.pkg.causeCleared i = true → busy = false → casc = false → bad = 0 →
      Yields (.resume i init) s fun t => t.runState i = .running ∧ t.g .ARY_RUN_STAT_MID_CYCLE i = 0 ∧ (t.inst i).step = (s.pkg.inst i).step ∧
        (t.inst i).row = (s.pkg.inst i).row ∧ s.pkg.sameBytes t) ∧
    (s.pkg.runState i = .paused → s.pkg.b .ARY_RUN_STAT_MID_CYCLE i = false → (s.pkg.inst i).begun = true → (s.pkg.inst i).row ≠ 0 → s.pkg.lacking i ≠ [] →
      busy = false →
      casc = false → bad = 0 →
      Yields (.resume i init) s fun t => t.runState i = .running ∧ (t.inst i).row = 4 ∧ t.g .ARY_RUN_STAT_HOLDING i = 1 ∧ s.pkg.sameBytes t) ∧
    (s.pkg.runState i = .paused → s.pkg.b .ARY_RUN_STAT_MID_CYCLE i = false → (s.pkg.inst i).begun = true → s.pkg.lacking i = [] → busy = false →
      casc = false → bad = 0 →
      Yields (.resume i init) s fun t => t.runState i = .running ∧ (t.inst i).row = 0 ∧ (t.inst i).step = 0) ∧
    (s.pkg.runState i = .frozen → s.pkg.b .ARY_RUN_STAT_MID_CYCLE i = false → (s.pkg.inst i).begun = true → (s.pkg.inst i).row = 0 →
      s.pkg.causeCleared i = true → busy = false → casc = false → bad = 0 →
      Yields (.resume i init) s fun t => t.runState i = .running ∧ (t.inst i).row = 0 ∧ (t.inst i).step = (s.pkg.inst i).step ∧ s.pkg.sameBytes t) ∧
    (s.pkg.runState i = .frozen → s.pkg.causeCleared i = false → busy = false → casc = false →
      Becomes (.resume i init) s (s.pkg.p .ARY_ERR_RESUME_BLOCKED i 1)) ∧
    (s.pkg.runState i ≠ .paused ∧ s.pkg.runState i ≠ .frozen ∨ busy = true ∨ casc = true ∧ s.pkg.isMaster = false →
      Becomes (.resume i init) s (s.pkg.p .ARY_ERR_CMD_IGNORED i 1))

/-- PAUSE, FREEZE and SNAP (R35, R41), with no watchpoint enabled: a request on a RUNNING instance of one package waits for its boundary and shows as pending;
outside RUNNING, and on a package that is not the cascade's master, it is ignored. SNAP captures the counters as they stand, and nothing else changes. It
says under which conditions these commands complete, and with what next state: `pause`, `freeze`, `snap`. Where it rests on the model's choices, they are
those of log entries 120. -/
def Obligations.PauseFreezeSnap : Prop :=
  ∀ (i : Fin 16) (init : Fin 128) (s : State), s.pkg.unwatched = true →
    let add := fun (n : Nat) => s.pkg.updInst i fun x => if n ∈ x.pend then x else { x with pend := x.pend ++ [n] }
    (s.pkg.runs i = true → (s.pkg.inst i).desc.cascade = false →
      Becomes (.pause i init) s ((add 1).p .ARY_RUN_STAT_PAUSE_PEND i 1) ∧ Becomes (.freeze i init) s ((add 14).p .ARY_RUN_STAT_FREEZE_PEND i 1)) ∧
    (s.pkg.runs i = false ∨ (s.pkg.inst i).desc.cascade = true ∧ s.pkg.isMaster = false →
      Becomes (.pause i init) s (s.pkg.p .ARY_ERR_CMD_IGNORED i 1) ∧ Becomes (.freeze i init) s (s.pkg.p .ARY_ERR_CMD_IGNORED i 1)) ∧
    Yields (.snap i init) s fun t => t = { s.pkg with snaps := t.snaps } ∧
      (∀ f ∈ [Fld.ARY_TOTAL, .ARY_EXEC, .ARY_STALL_LNK, .ARY_STALL_QUE, .ARY_STALL_CALL, .ARY_HOLD_FLOW, .ARY_STALLED_MC], t.gs f i = s.pkg.g f i) ∧
      t.gs .ARY_MCC i = (s.pkg.position i).1 % 2 ^ 64

/-- DATA_STORE_WRITE, WU_STATE_WRITE and CAVE_WINDOW_WRITE of one word (R62, R119, R136), with no watchpoint enabled, on a powered region of a LOADED, PAUSED
or FROZEN instance, aligned, by a request of no instance or of the owner. The bytes enabled are written: 32 bits of one data store, a word of one unit's
state block, or two cave words; everything else stays. The same three writes are refused while the instance is RUNNING, and the refusal is recorded in the
block's registers (R62, R119, R136, R326). It says under which conditions these commands complete, and with what next state: `dataStoreWrite`,
`wuStateWrite`, `caveWindowWrite`. Where it rests on the model's choices, they are those of log entries 4, 73, 97, 98. -/
def Obligations.WindowWritesLandOrAreRefused : Prop :=
  (∀ (init : Fin 128) (inst : Option (Fin 16)) (d : Fin 8) (v : BitVec 32) (be : Option Nat) (i : Nat) (s : State),
    s.pkg.unwatched = true → d.val < s.pkg.part.model.dies → (∀ j, inst = some j → j.val = i) →
    (s.pkg.runState i = .loaded ∨ s.pkg.runState i = .paused ∨ s.pkg.runState i = .frozen) →
    let e := match be with | none => 15 | some e => bits e 0 4
    (∀ off : Fin 33554432, off.val % 4 = 0 → s.pkg.regionOwner (d.val * 64 + off.val / 0x80000) = some i → s.pkg.powerState d (off.val / 0x80000) = 0 →
      s.pkg.fab.junk.at (d.val * 64 + off.val / 0x80000) ≠ 1 →
      Yields (.dataStoreWrite init inst d off [v] be) s fun t =>
        let bp := d.val * 131072 + off.val / 256
        let w := off.val % 256 / 4
        t = { s.pkg with fab := { s.pkg.fab with data := t.fab.data } } ∧
        (∀ b < 32, t.fab.bit bp (32 * w + b) = b2n (bit (mergeWord (s.pkg.dataWord bp w) v.toNat e) b)) ∧
        ∀ k, (k < bp * 2048 + 32 * w ∨ bp * 2048 + 32 * w + 32 ≤ k) → t.fab.data.at k = s.pkg.fab.data.at k) ∧
    (∀ off : Fin 8388608, off.val % 4 = 0 → s.pkg.regionOwner (d.val * 64 + off.val / 0x20000) = some i → s.pkg.powerState d (off.val / 0x20000) = 0 →
      s.pkg.fab.junk.at (d.val * 64 + off.val / 0x20000) ≠ 1 →
      let u := d.val * 2048 + off.val / 4096
      let m := mergeWord (wuRead (s.pkg.wunit u) (off.val % 4096)) v.toNat e
      wuRefuse (s.pkg.wunit u) (off.val % 4096) m = none →
      Becomes (.wuStateWrite init inst d off [v] be) s (s.pkg.setWunit u (wuWrite (s.pkg.wunit u) (off.val % 4096) m))) ∧
    (∀ off : Fin 33554432, off.val % 4 = 0 → s.pkg.bankOwn (d.val * 1024 + off.val / 0x8000) = .inst i → s.pkg.powerState d (off.val / 0x80000) = 0 →
      (init.val < 8 ∨ init.val = 0x30 ∨ init.val = 0x31 ∨ init.val = 0x38) →
      let b := d.val * 1024 + off.val / 0x8000
      let a := off.val % 0x8000 / 2
      let m := mergeWord (s.pkg.caveWord b a + 65536 * s.pkg.caveWord b (a + 1)) v.toNat e
      Yields (.caveWindowWrite init inst d off [v] be) s fun t =>
        t = { s.pkg with cav := { s.pkg.cav with mem := t.cav.mem } } ∧ t.caveWord b a = m % 65536 ∧ t.caveWord b (a + 1) = m / 65536 % 65536 ∧
        ∀ k, k ≠ b * 16384 + a → k ≠ b * 16384 + a + 1 → t.cav.mem.at k = s.pkg.cav.mem.at k)) ∧
  (∀ (init : Fin 128) (d : Fin 8) (v : BitVec 32) (be : Option Nat) (i : Nat) (s : State),
    s.pkg.unwatched = true → d.val < s.pkg.part.model.dies → s.pkg.runState i = .running →
    (∀ off : Fin 33554432, off.val % 4 = 0 → s.pkg.regionOwner (d.val * 64 + off.val / 0x80000) = some i →
      Yields (.dataStoreWrite init none d off [v] be) s fun t => s.pkg.refused t .ARY d 4 init) ∧
    (∀ off : Fin 8388608, off.val % 4 = 0 → s.pkg.regionOwner (d.val * 64 + off.val / 0x20000) = some i →
      Yields (.wuStateWrite init none d off [v] be) s fun t => s.pkg.refused t .WU d 4 init) ∧
    (∀ off : Fin 33554432, off.val % 4 = 0 → s.pkg.bankOwn (d.val * 1024 + off.val / 0x8000) = .inst i →
      Yields (.caveWindowWrite init none d off [v] be) s fun t => s.pkg.refused t .CAV d 4 init))

/-- BRIDGE_ALIGNMENT_LOSS (R79): on an aligned bridge ALIGNED falls and ALIGN_LOST rises at both ends, both management processors are told, and a RUNNING
instance that owns a block on it is FAULTED with ENGINE_FAULT. BRIDGE_REALIGNMENT: while no instance owns a block on the bridge and the processor acts,
ALIGNED rises at both ends and nothing else changes. It says under which conditions these commands complete, and with what next state:
`bridgeAlignmentLoss`, `bridgeRealignment`. Where it rests on the model's choices, they are those of log entries 44. -/
def Obligations.BridgesAlign : Prop :=
  ∀ (d : Fin 8) (k : Fin 4) (e : Nat) (s : State), s.pkg.part.model.neighbour d k = some e →
    (bit (s.pkg.g .XBR_BRG_STAT_ALIGNED d) k = true →
      Yields (.bridgeAlignmentLoss d k) s fun t =>
        bit (t.g .XBR_BRG_STAT_ALIGNED d) k = false ∧ bit (t.g .XBR_BRG_STAT_ALIGNED e) (oppSide k) = false ∧
        bit (t.g .XBR_BRG_STAT_ALIGN_LOST d) k = true ∧ bit (t.g .XBR_BRG_STAT_ALIGN_LOST e) (oppSide k) = true ∧
        (∀ (i : Fin 16) (j : Fin 8), s.pkg.brgOwner d k j = some i.val → s.pkg.runState i = .running →
          t.runState i = .faulted ∧ t.g .ARY_RUN_STAT_STOP_CAUSE i = 11) ∧ s.pkg.sameBytes t) ∧
    ((∀ j : Fin 8, s.pkg.brgOwner d k j = none ∧ s.pkg.brgOwner e (oppSide k) j = none) → s.pkg.mpActs d = true →
      Becomes (.bridgeRealignment d k) s
        ((s.pkg.pbit .XBR_BRG_STAT_ALIGNED d k true).pbit .XBR_BRG_STAT_ALIGNED e (oppSide k) true))

/-! ## Caves -/

/-- CAV_OWN_WRITE (R133), with no watchpoint enabled and the region not draining: taken from an instance that does not run, the bank changes owner at once and
the instance's accesses under way on it are dropped and counted; taken from another owner, the new owner waits for HANDOVER_COMPLETE. The write is refused
from a RUNNING instance, from an initiator other than the die's processor and processor 0, and for an instance that does not own the region.
HANDOVER_COMPLETE (R133, Table 67): a waiting handover takes effect, unless its new owner is a RUNNING instance, or one that the handover found RUNNING and
that has stopped in mid-cycle since, for whose boundary it waits; with no handover waiting nothing happens. It says under which conditions these commands
complete, and with what next state: `cavOwnWrite`, `handoverComplete`. Where it rests on the model's choices, they are those of log entries 62, 135. -/
def Obligations.BanksAreHandedOver : Prop :=
  (∀ (b : Fin 8192) (init : Fin 128) (w : BitVec 32) (s : State), s.pkg.unwatched = true → b.val / 1024 < s.pkg.part.model.dies →
    s.pkg.pdState (b.val / 16) ≠ 1 →
    let d := b.val / 1024
    let kind := bits w.toNat 4 2
    let inst := bits w.toNat 0 4
    let may := (init.val = d ∨ init.val = 0) ∧ (kind = 0 → s.pkg.regionOwner (b.val / 16) = some inst)
    (∀ i, may → s.pkg.bankOwn b = .inst i → s.pkg.runs i = false →
      let gone := s.pkg.cav.pipe.filter fun a => a.port / 2 == b.val
      Yields (.cavOwnWrite b init w) s fun t =>
        t.bankOwn b = BankOwner.of kind inst ∧ t.g .CAV_OWN_PEND b = 0 ∧ t.cav.pipe = (s.pkg.cav.pipe.filter fun a => a.port / 2 != b.val) ∧
        t.g .CAV_DROP_CNT b = min (s.pkg.g .CAV_DROP_CNT b + gone.length) (2 ^ Fld.width .CAV_DROP_CNT - 1) ∧
        t = { s.pkg with flds := t.flds, cav := { s.pkg.cav with pipe := t.cav.pipe, oldOwn := t.cav.oldOwn } } ∧
        s.pkg.fieldsOutside t [(.CAV_OWN_KIND, b.val), (.CAV_OWN_INST, b.val), (.CAV_OWN_PEND, b.val), (.CAV_DROP_CNT, b.val), (.CAV_INST_DROP_CNT, i)]) ∧
    (may → (∀ i, s.pkg.bankOwn b ≠ .inst i) →
      Yields (.cavOwnWrite b init w) s fun t =>
        t.bankOwn b = s.pkg.bankOwn b ∧ t.g .CAV_OWN_KIND b = kind ∧ t.g .CAV_OWN_INST b = inst ∧ t.g .CAV_OWN_PEND b = 1 ∧
        t = { s.pkg with flds := t.flds, cav := { s.pkg.cav with oldOwn := t.cav.oldOwn } } ∧
        s.pkg.fieldsOutside t [(.CAV_OWN_KIND, b.val), (.CAV_OWN_INST, b.val), (.CAV_OWN_PEND, b.val)]) ∧
    (∀ i, s.pkg.bankOwn b = .inst i → s.pkg.runs i = true → (kind = 0 → s.pkg.regionOwner (b.val / 16) = some inst) →
      Yields (.cavOwnWrite b init w) s fun t => s.pkg.refused t .CAV d 4 init) ∧
    ((init.val = d ∨ init.val = 0) → kind = 0 → s.pkg.regionOwner (b.val / 16) ≠ some inst →
      Yields (.cavOwnWrite b init w) s fun t => s.pkg.refused t .CAV d 5 init) ∧
    (init.val ≠ d → init.val ≠ 0 → Yields (.cavOwnWrite b init w) s fun t => s.pkg.refused t .CAV d 4 init)) ∧
  (∀ (b : Fin 8192) (s : State),
    let i := s.pkg.g .CAV_OWN_INST b
    let late := s.pkg.g .CAV_OWN_KIND b = 0 ∧ (s.pkg.runs i = true ∨ bit (s.pkg.cav.oldOwn.at b) 8 = true ∧ s.pkg.b .ARY_RUN_STAT_MID_CYCLE i = true)
    (s.pkg.g .CAV_OWN_PEND b = 1 → ¬late →
      Yields (.handoverComplete b) s fun t => t.bankOwn b = BankOwner.of (s.pkg.g .CAV_OWN_KIND b) i ∧ t.g .CAV_OWN_PEND b = 0 ∧
        t = { s.pkg with flds := t.flds, cav := { s.pkg.cav with oldOwn := t.cav.oldOwn } } ∧ s.pkg.fieldsOutside t [(.CAV_OWN_PEND, b.val)]) ∧
    (s.pkg.g .CAV_OWN_PEND b = 1 → late →
      Yields (.handoverComplete b) s fun t => t.g .CAV_OWN_PEND b = 1 ∧ b.val ∈ t.handoversOf i ∧
        t = { s.pkg with cav := { s.pkg.cav with oldOwn := t.cav.oldOwn } }) ∧
    (s.pkg.g .CAV_OWN_PEND b = 0 → Becomes (.handoverComplete b) s s.pkg))

/-- CAVE_ATOM_ADD and CAVE_ATOM_SWAP (R137), with no watchpoint enabled, on a powered bank that the initiator owns: the word takes its sum with the operand, or
the operand; the old word shows in CAV_ATOM_RES; every other word of every bank stays. The command of any other initiator is refused. It says under which
conditions these commands complete, and with what next state: `caveAtomAdd`, `caveAtomSwap`. Where it rests on the model's choices, they are those of log
entries 13, 136. -/
def Obligations.CaveAtomicsAct : Prop :=
  ∀ (b : Fin 8192) (init : Fin 128) (a : BitVec 14) (v : BitVec 16) (s : State), s.pkg.unwatched = true → b.val / 1024 < s.pkg.part.model.dies →
    s.pkg.powerState (b.val / 1024) (b.val / 16 % 64) = 0 →
    let d := b.val / 1024
    let old := s.pkg.caveWord b a.toNat
    let after := fun (t : Pkg) (new : Nat) => t.caveWord b a.toNat = new ∧ t.g .CAV_ATOM_RES_OLD b = old % 2 ^ 16 ∧ t.g .CAV_ATOM_RES_DONE b = 1 ∧
      t = { s.pkg with flds := t.flds, cav := { s.pkg.cav with mem := t.cav.mem } } ∧
      s.pkg.fieldsOutside t [(.CAV_ATOM_RES_OLD, b.val), (.CAV_ATOM_RES_DONE, b.val)] ∧
      ∀ k, k ≠ b.val * 16384 + a.toNat → t.cav.mem.at k = s.pkg.cav.mem.at k
    (ownerIs (s.pkg.bankOwn b) d init = true → s.pkg.cav.oldOwn.at b = 0 →
      Yields (.caveAtomAdd b init a v) s (fun t => after t ((old + v.toNat) % 2 ^ 16)) ∧
      Yields (.caveAtomSwap b init a v) s (fun t => after t v.toNat)) ∧
    (ownerIs (s.pkg.bankOwn b) d init = false →
      Yields (.caveAtomAdd b init a v) s (fun t => s.pkg.refused t .CAV d 4 init) ∧
      Yields (.caveAtomSwap b init a v) s (fun t => s.pkg.refused t .CAV d 4 init))

/-- MARCH_START (R141), with no watchpoint enabled, on firmware-owned banks of a powered region with no march: BUSY rises; on a bank of another owner it is
refused. MARCH_DONE (R139, R141): BUSY falls, DONE rises, and every bank of the set shows whether it failed, how often, and in CAV_AVAIL. It says under
which conditions these commands complete, and with what next state: `marchStart`, `marchDone`. Where it rests on the model's choices, they are those of log
entries 13, 136. -/
def Obligations.MarchesRun : Prop :=
  ∀ (p : Fin 512) (s : State),
    (∀ (init : Fin 128) (mode : Fin 2) (set : BitVec 16), s.pkg.unwatched = true → p.val / 64 < s.pkg.part.model.dies →
      s.pkg.powerState (p.val / 64) (p.val % 64) = 0 → s.pkg.g .CAV_MARCH_STAT_BUSY p = 0 →
      ((∀ b ∈ banksIn p set.toNat, s.pkg.bankOwn b = .firmware ∧ s.pkg.g .CAV_OWN_PEND b = 0) →
        Yields (.marchStart p init mode set) s fun t => t.g .CAV_MARCH_STAT_BUSY p = 1 ∧
          t.cav.march.at p = 2 ^ 17 + 65536 * mode.val + set.toNat ∧
          t = { s.pkg with flds := t.flds, cav := { s.pkg.cav with march := t.cav.march } } ∧ s.pkg.fieldsOutside t [(.CAV_MARCH_STAT_BUSY, p.val)]) ∧
      ((∃ b ∈ banksIn p set.toNat, s.pkg.bankOwn b ≠ .firmware) →
        Yields (.marchStart p init mode set) s fun t => s.pkg.refused t .CAV (p.val / 64) 4 init)) ∧
    ∀ (fails : List (Fin 16 × List (BitVec 14 × BitVec 16))), s.pkg.cav.march.at p ≠ 0 →
      Yields (.marchDone p fails) s fun t =>
        t.g .CAV_MARCH_STAT_BUSY p = 0 ∧ t.g .CAV_MARCH_STAT_DONE p = 1 ∧ t.cav.march.at p = 0 ∧
        ∀ b : Fin 16, bit (s.pkg.cav.march.at p % 65536) b = true →
          let f := ((fails.find? fun e => e.1 == b).map (·.2)).getD []
          t.g .CAV_MARCH_RES_TESTED (p.val * 16 + b.val) = 1 ∧ t.g .CAV_MARCH_RES_FAIL (p.val * 16 + b.val) = b2n (!f.isEmpty) ∧
          bit (t.g .CAV_AVAIL p) b = f.isEmpty ∧ bit (t.g .CAV_MARCH_STAT_FAILED p) b = !f.isEmpty

/-! ## HBM queues -/

/-- HELD_REQUEST_SEND (R150): with fewer than 128 requests in flight the oldest HELD one is sent and its entry becomes PEND; otherwise nothing happens.
HBM_ACCESS_WINDOW (R154): the shares of the pseudo-channel start again and the grants last written to QUE_HBM_CFG apply. It says under which conditions
these commands complete, and with what next state: `heldRequestSend`, `hbmAccessWindow`. Where it rests on the model's choices, they are those of log
entries 71, 138, 143. -/
def Obligations.QueuePortsAndWindows : Prop :=
  ∀ s : State,
    (∀ (k : Fin 4096) (r : QReq) (l : List QReq), (s.pkg.qport k).held = r :: l → (s.pkg.qport k).fly.length < 128 →
      Yields (.heldRequestSend k) s fun t => (t.qport k).held = l ∧ (t.qport k).fly = (s.pkg.qport k).fly ++ [r] ∧ (t.qport k).ent r.entry = .pend ∧
        t = { s.pkg with que := { s.pkg.que with port := t.que.port } } ∧ ∀ j, j ≠ k.val → t.qport j = s.pkg.qport j) ∧
    (∀ k : Fin 4096, (s.pkg.qport k).held = [] ∨ 128 ≤ (s.pkg.qport k).fly.length → Becomes (.heldRequestSend k) s s.pkg) ∧
    ∀ (j : Fin 4) (pc : Fin 32),
      (j.val < s.pkg.part.model.stacks →
        Yields (.hbmAccessWindow j pc) s fun t => t.windowUsed (j.val * 32 + pc.val) = 0 ∧
          t.grants (j.val * 32 + pc.val) = (s.pkg.g .QUE_HBM_CFG_TRC_MIN j, s.pkg.g .QUE_HBM_CFG_SVC_MIN j) ∧
          t = { s.pkg with que := { s.pkg.que with shares := t.que.shares, grant := t.que.grant } }) ∧
      (s.pkg.part.model.stacks ≤ j.val → Becomes (.hbmAccessWindow j pc) s s.pkg)

/-- QUEUE_RESULT_RETURN (R148, R149, R151, R155) of a request in flight with no older one of the port, sent or HELD, for its 32-byte block, whose 8 bytes lie
on mapped segments from key `a`. Clean or corrected: READ answers the word and changes no byte; WRITE puts its data and answers 0; ADD puts the sum and
answers the old word; no other byte of HBM changes, and the entry is DONE with the answer, unless the request was superseded; a latency of 2^32 periods and
more shows as a free value. Uncorrectable: no byte changes, the entry is FREE, and a RUNNING instance is FAULTED with HBM_UNCORR. It says under which
conditions these commands complete, and with what next state: `queueResultReturn`. Where it rests on the model's choices, they are those of log entries 37,
137, 143, 144. -/
def Obligations.QueueResultsReturn : Prop :=
  ∀ (k : Fin 4096) (n : Fin 256) (lat : Nat) (r : QReq) (a : Nat) (s : State),
    (s.pkg.qport k).fly[n.val]? = some r → (∀ x ∈ (s.pkg.qport k).fly ++ (s.pkg.qport k).held, ¬(x.num < r.num ∧ x.inst = r.inst ∧ x.addr / 32 = r.addr / 32)) →
    (∀ j < 8, s.pkg.sliceAddr r.inst (r.addr + j) = some (a + j)) → r.kind < 3 → r.data < 2 ^ 64 →
    let old := leNat (readBytes s.pkg.que.hbm a 8)
    let new := if r.kind = 0 then old else if r.kind = 1 then r.data else (old + r.data) % 2 ^ 64
    (∀ e, e ≠ .uncorrectable →
      Yields (.queueResultReturn k n lat e) s fun t =>
        leNat (readBytes t.que.hbm a 8) = new ∧ (∀ b, (b < a ∨ a + 8 ≤ b) → readByte t.que.hbm b = readByte s.pkg.que.hbm b) ∧
        (t.qport k).fly = (s.pkg.qport k).fly.eraseIdx n ∧
        (r.orphan = false → r.sink = false →
          (t.qport k).ent r.entry = .done ∧ (t.qport k).word.at r.entry = (if r.kind = 1 then 0 else old) ∧
          t.g .QUE_COMPLETED k = s.pkg.plus .QUE_COMPLETED k 1 ∧ (lat < 2 ^ 32 → t.g .QUE_LAT_LAST k = lat)) ∧
        (r.orphan = true → r.sink = false → (t.qport k).st = (s.pkg.qport k).st ∧ t.g .QUE_ORPHANED k = s.pkg.plus .QUE_ORPHANED k 1) ∧
        t = { s.pkg with flds := t.flds, que := t.que, fresh := t.fresh }) ∧
    (r.orphan = false → r.sink = false → r.inst < 16 →
      Yields (.queueResultReturn k n lat .uncorrectable) s fun t =>
        s.pkg.sameBytes t ∧ (t.qport k).ent r.entry = .free ∧ t.g .QUE_UNCORR k = s.pkg.plus .QUE_UNCORR k 1 ∧ t.g .QUE_INST_ERR r.inst = 1 ∧
        (s.pkg.runState r.inst = .running → t.runState r.inst = .faulted ∧ t.g .ARY_RUN_STAT_STOP_CAUSE r.inst = 10))

/-- SEG_OWN_WRITE (R144), with no watchpoint enabled: processor 0 gives a segment of the part its owner; a write by another initiator, one that takes a segment
out of the reserved area, and one beyond the part are refused. PATROL_SCRUB_READ (R155): an uncorrectable block counts and its address is logged, a
corrected one counts, and nothing else changes but the share of the access window; no instance stops; an uncorrectable block of a segment ends a relocation
of the instance that owns it (R173). It says under which conditions these commands complete, and with what next state: `patrolScrubRead`, `segOwnWrite`.
Where it rests on the model's choices, they are those of log entries 3. -/
def Obligations.SegmentsAndScrubAct : Prop :=
  (∀ (k : Fin 576) (init : Fin 128) (w : BitVec 32) (s : State), s.pkg.unwatched = true →
    let kind := bits w.toNat 4 3
    (init.val = 0 → (8 ≤ k.val ∨ kind = 4) → k.val < s.pkg.part.model.stacks * 144 →
      Becomes (.segOwnWrite k init w) s (s.pkg.ps [(.QUE_SEG_OWN_KIND, k.val, kind), (.QUE_SEG_OWN_INST, k.val, bits w.toNat 0 4)])) ∧
    (init.val ≠ 0 ∨ k.val < 8 ∧ kind ≠ 4 → Yields (.segOwnWrite k init w) s fun t => s.pkg.refused t .QUE 0 4 init) ∧
    (init.val = 0 → 8 ≤ k.val → s.pkg.part.model.stacks * 144 ≤ k.val → Yields (.segOwnWrite k init w) s fun t => s.pkg.refused t .QUE 0 1 init)) ∧
  (∀ (j : Fin 4) (a : BitVec 36) (s : State), j.val < s.pkg.part.model.stacks → a.toNat / 32 * 32 < stackBytes →
    let seg := j.val * 144 + a.toNat / 32 * 32 / segBytes
    let count := fun (t : Pkg) => ({ s.pkg.que with shares := t.que.shares, grant := t.que.grant } : Queues)
    Yields (.patrolScrubRead j a .clean) s (fun t => t = { s.pkg with que := count t }) ∧
    Yields (.patrolScrubRead j a .corrected) s (fun t =>
      t.g .QUE_HBM_CE j = min (s.pkg.g .QUE_HBM_CE j + 1) (2 ^ Fld.width .QUE_HBM_CE - 1) ∧
      t = { s.pkg with flds := t.flds, que := count t } ∧ s.pkg.fieldsOutside t [(.QUE_HBM_CE, j.val)]) ∧
    Yields (.patrolScrubRead j a .uncorrectable) s (fun t =>
      t.g .QUE_HBM_UE j = s.pkg.plus .QUE_HBM_UE j 1 ∧ t.g .QUE_HBM_UE_LOG j = a.toNat / 32 * 32 % 2 ^ Fld.width .QUE_HBM_UE_LOG ∧
      s.pkg.insts = t.insts ∧ s.pkg.sameBytes t ∧
      (s.pkg.g .QUE_SEG_OWN_KIND seg = 1 → Store.get none t.reloc (s.pkg.g .QUE_SEG_OWN_INST seg) = none) ∧
      (s.pkg.g .QUE_SEG_OWN_KIND seg ≠ 1 ∨ Store.get none s.pkg.reloc (s.pkg.g .QUE_SEG_OWN_INST seg) = none →
        t = { s.pkg with flds := t.flds, que := count t } ∧ s.pkg.fieldsOutside t [(.QUE_HBM_UE, j.val), (.QUE_HBM_UE_LOG, j.val)])))

/-- RELOCATE (R171, R173): while the instance is not stopped at a boundary the command is rejected; else, with room and idle queue ports, the moves are
recorded and the command goes on. RELOCATION_SWITCH (R172): after a copy that succeeded every region moved has changed its owner and the command ends OK;
after one that failed nothing has moved and the command ends with ABANDONED. It says under which conditions these commands complete, and with what next
state: `relocate`, `relocationSwitch`. Where it rests on the model's choices, they are those of log entries 62, 145. -/
def Obligations.RegionsRelocate : Prop :=
  ∀ s : State,
    (∀ (m : Fin 16) (q : BitVec 16) (expired : Bool) (j : Msg), s.pkg.inTurn m q.toNat 0x22 j → j.flags < 2 →
      j.arg 8 8 ≠ 0 → j.inst < 16 → s.pkg.resetting j.inst = false → s.pkg.relocatable j.inst = false →
      Becomes (.relocate m q expired) s ((s.pkg.dispatchCmd m q.toNat).complete m q.toNat .rejected .instState [])) ∧
    (∀ (m : Fin 16) (q : BitVec 16) (expired : Bool) (j : Msg) (v p g : Nat) (t : List (Nat × Nat)),
      s.pkg.inTurn m q.toNat 0x22 j → j.flags = 0 → j.arg 0 1 = v → j.arg 8 8 = 2 ^ g → g < 64 → j.inst < 16 →
      s.pkg.relocatable j.inst = true → s.pkg.physRegion j.inst v g = some p → s.pkg.relocTargets j.inst v [(g, p)] false j = some t →
      (∀ n < 8, (s.pkg.qport (p * 8 + n)).fly = [] ∧ (s.pkg.qport (p * 8 + n)).held = []) →
      Yields (.relocate m q expired) s fun u =>
        Store.get none u.reloc j.inst =
          some { cmd := (m.val, q.toNat), vdie := v, moves := [(g, p, ((t.find? fun x => x.1 == g).map (·.2)).getD 0)] } ∧
        s.pkg.sameBytes u ∧ u.fab = s.pkg.fab) ∧
    (∀ (i : Fin 16) (r : Reloc), Store.get none s.pkg.reloc i = some r →
      (let p := { s.pkg with reloc := Store.set none s.pkg.reloc i none }
       Becomes (.relocationSwitch i false) s (p.complete r.cmd.1 r.cmd.2 .fault .abandoned [])) ∧
      (((r.moves.map (·.2.1)) ++ r.moves.map (·.2.2)).Nodup →
        Yields (.relocationSwitch i true) s fun t => Store.get none t.reloc i = none ∧
          (∀ e ∈ r.moves, t.regionOwner e.2.1 = none ∧ t.regionOwner e.2.2 = some i.val) ∧
          (∀ x, x ∉ r.moves.map (·.2.1) → x ∉ r.moves.map (·.2.2) → t.regionOwner x = s.pkg.regionOwner x)))

/-! ## Configuration loading -/

/-- LOAD (R178, R196, R232): with no stream in progress the command starts one in phase 1, with the records of the last load cleared and CFG_ERR_N released; it
stays in progress. While a stream is in progress it is answered BUSY, and with BSCAN_CE held it is rejected. It says under which conditions these commands
complete, and with what next state: `load`. Where it rests on the model's choices, they are those of log entries 8, 47, 118, 151. -/
def Obligations.LoadsBegin : Prop :=
  ∀ (m : Fin 16) (q : BitVec 16) (j : Msg) (s : State), s.pkg.inTurn m q.toNat 0x10 j →
    (s.pkg.load.active = false → s.pkg.part.bscanCe = false →
      Yields (.load m q) s fun t =>
        t.load.active = true ∧ t.load.cmd = some (m.val, q.toNat) ∧ t.load.replace = bit j.flags 0 ∧ (t.job m q.toNat).map (·.started) = some true ∧
        t.g .CFG_LOAD_STAT_PHASE 0 = 1 ∧ t.g .CFG_LOAD_STAT_DONE 0 = 0 ∧ t.g .CFG_LOAD_STAT_ERR 0 = 0 ∧ t.g .CFG_LOAD_STAT_FAIL 0 = 0 ∧
        t.g .CFG_CHUNK_RX 0 = 0 ∧ t.g .CFG_CHUNK_TAKEN 0 = 0 ∧ t.g .CFG_BYTES 0 = 0 ∧ t.pins.errN = true ∧ s.pkg.sameBytes t ∧ t.fab = s.pkg.fab) ∧
    (s.pkg.load.active = true →
      Yields (.load m q) s fun t => t.completed m q.toNat .busy .resourceBusy [1, 0, 0, 0, 0, 0, 0, 0] ∧ s.pkg.accounted t ∧ t.load = s.pkg.load) ∧
    (s.pkg.load.active = false → s.pkg.part.bscanCe = true →
      Yields (.load m q) s fun t => t.completed m q.toNat .rejected .policy [] ∧ s.pkg.accounted t ∧ t.load = s.pkg.load)

/-- STREAM_HEADER (R180, R199, R203), while the processors that carry the load out act: a header that passes every check is taken, with its key and the
package's SECTIONS and CHUNKS; one that does not list the package ends the load without failure; a wrong magic, an unusable key, a tag that AES-256 in
Galois/Counter Mode does not give, a table that breaks its rules and an old generation fail it with codes 1, 2, 3, 1 and 4. While they do not act the
stream waits. It says under which conditions these commands complete, and with what next state: `streamHeader`. Where it rests on the model's choices, they
are those of log entries 8, 47, 146. -/
def Obligations.HeadersAreChecked : Prop :=
  ∀ (b : List (BitVec 8)) (s : State), s.pkg.load.active = true → s.pkg.load.hdr = none →
    let l := b.map BitVec.toNat
    let h := StreamHdr.ofBytes l
    let form := h.magic = 0x59425453 ∧ (h.version = 0x0200 ∨ h.version = 0x0100) ∧ h.keysrc < 3
    let key := s.pkg.keyUsable s.fuses h.keysrc = true
    let tag := headerTag (s.pkg.keyOf s.fuses h.keysrc) l
    let mine := h.pkgs.find? fun e => e.1 == s.pkg.part.pkgId
    (s.pkg.loadersAct = false → Becomes (.streamHeader b) s s.pkg) ∧
    (s.pkg.loadersAct = true →
      (∀ e, form → key → tag = true → s.pkg.tableOk h = true → mine = some e → s.fuses.gen ≤ h.gen →
        Yields (.streamHeader b) s fun t =>
          t.load.active = true ∧ t.load.hdr = some h ∧ t.load.key = s.pkg.keyOf s.fuses h.keysrc ∧ t.load.sections = e.2.2.1 ∧
          t.load.chunks = e.2.2.2 ∧ t.load.next = 1 ∧
          t.g .CFG_BYTES 0 = s.pkg.plus .CFG_BYTES 0 560 ∧ t = { s.pkg with flds := t.flds, load := t.load } ∧ s.pkg.fieldsOutside t [(.CFG_BYTES, 0)]) ∧
      (form → key → tag = true → s.pkg.tableOk h = true → mine = none →
        Yields (.streamHeader b) s fun t => t.load.active = false ∧ t.g .CFG_LOAD_STAT_NOT_ADDRESSED 0 = 1 ∧ t.g .CFG_LOAD_STAT_DONE 0 = 1 ∧
          t.g .CFG_LOAD_STAT_FAIL 0 = s.pkg.g .CFG_LOAD_STAT_FAIL 0) ∧
      (¬form → Yields (.streamHeader b) s (·.loadFailed 1)) ∧
      (form → ¬key → Yields (.streamHeader b) s (·.loadFailed 2)) ∧
      (form → key → tag = false → Yields (.streamHeader b) s (·.loadFailed 3)) ∧
      (form → key → tag = true → s.pkg.tableOk h = false → Yields (.streamHeader b) s (·.loadFailed 1)) ∧
      (∀ e, form → key → tag = true → s.pkg.tableOk h = true → mine = some e → h.gen < s.fuses.gen → Yields (.streamHeader b) s (·.loadFailed 4)))

/-- CHUNK (R182, R183, R198), while the processors that carry the load out act: a chunk of another package is skipped; an own one in COUNTER order,
authenticated, decompressed and made of whole records, is taken, and the first begins phase 2; a chunk that fails its checks counts as BAD and fails the
load with the code of its fault. While they do not act the stream waits. It says under which conditions these commands complete, and with what next state:
`chunk`. Where it rests on the model's choices, they are those of log entries 8, 53, 148, 175. -/
def Obligations.ChunksAreTaken : Prop :=
  ∀ (d : ChunkData) (h : StreamHdr) (s : State), s.pkg.load.active = true → s.pkg.load.hdr = some h → d.hdr.magic = 0x4B43 → d.hdr.pkg < 64 →
    let c := d.hdr
    (s.pkg.loadersAct = false → Becomes (.chunk d) s s.pkg) ∧
    (s.pkg.loadersAct = true →
      (c.pkg = s.pkg.part.pkgId → s.pkg.chunkCheck h.nonce d = 0 →
        Yields (.chunk d) s fun t =>
          t.g .CFG_CHUNK_RX 0 = s.pkg.plus .CFG_CHUNK_RX 0 1 ∧ t.g .CFG_BYTES 0 = s.pkg.plus .CFG_BYTES 0 (48 + c.len) ∧
          t.g .CFG_CHUNK_TAKEN 0 = s.pkg.plus .CFG_CHUNK_TAKEN 0 1 ∧
          t.load = { s.pkg.load with die := some c.die, next := s.pkg.load.next + 1, last := bit c.flags 0 } ∧
          (s.pkg.load.next = 1 → t.g .CFG_LOAD_STAT_PHASE 0 = 2 ∧ t.g .CFG_STREAM_ID 0 = h.stream % 2 ^ Fld.width .CFG_STREAM_ID) ∧
          t = { s.pkg with flds := t.flds, load := t.load } ∧
          s.pkg.fieldsOutside t [(.CFG_CHUNK_RX, 0), (.CFG_BYTES, 0), (.CFG_CHUNK_TAKEN, 0), (.CFG_LOAD_STAT_PHASE, 0), (.CFG_STREAM_ID, 0)]) ∧
      (c.pkg ≠ s.pkg.part.pkgId →
        Yields (.chunk d) s fun t =>
          t.g .CFG_CHUNK_RX 0 = s.pkg.plus .CFG_CHUNK_RX 0 1 ∧ t.g .CFG_BYTES 0 = s.pkg.plus .CFG_BYTES 0 (48 + c.len) ∧
          t.g .CFG_CHUNK_SKIP 0 = s.pkg.plus .CFG_CHUNK_SKIP 0 1 ∧ t.load = { s.pkg.load with die := none } ∧
          s.pkg.fieldsOutside t [(.CFG_CHUNK_RX, 0), (.CFG_BYTES, 0), (.CFG_CHUNK_SKIP, 0)]) ∧
      (c.pkg = s.pkg.part.pkgId → s.pkg.chunkCheck h.nonce d ≠ 0 →
        Yields (.chunk d) s fun t => t.loadFailed (s.pkg.chunkCheck h.nonce d) ∧ t.g .CFG_CHUNK_BAD 0 = 1 ∧
          t.g .CFG_FAIL_INFO_CHUNK 0 = c.counter % 2 ^ 20))

/-- SECTION_BEGIN, PATCH_BEGIN and SECTION_END (R185, R190, R204), while the processors that carry the load out act. A section of an UNLOADED instance whose
placement and claim succeed opens with the instance LOADING, its depth and edge length in place and its regions owned; without a placement the load fails
with code 9 and the instance is UNLOADED again. A patch opens for a LOADED, PAUSED or FROZEN instance. A section closes when its counts are right; the load
fails with code 7 when they are not. It says under which conditions these commands complete, and with what next state: `sectionBegin`, `patchBegin`,
`sectionEnd`. Where it rests on the model's choices, they are those of log entries 23, 46, 50, 51, 54, 121, 142, 147, 149. -/
def Obligations.SectionsOpenAndClose : Prop :=
  ∀ s : State, s.pkg.load.active = true → s.pkg.loadersAct = true →
    (∀ (h : RecHdr) (x : ImgDesc) (v : Nat), s.pkg.load.die = some v → 8 ≤ v → h.inst < 16 → h.rsv = 0 → h.len % 8 = 0 → h.addr = 0 →
      s.pkg.secBad h.inst false = false → descBad x ((s.pkg.load.hdr.map (·.version)).getD 0x0200) = false → s.pkg.runState h.inst = .unloaded →
      let u := ((s.pkg.clearInst h.inst).p .ARY_RUN_STAT_STOP_CAUSE h.inst 0).setRun h.inst .loading
      (∀ pl w, u.place x = some pl → u.absentDie x = false → u.taken x = false → u.claim h.inst x pl = some w →
        Yields (.sectionBegin h x) s fun t =>
          t.runState h.inst = .loading ∧ t.depth h.inst = x.depth % 2 ^ Fld.width .ARY_CFG_INFO_DEPTH ∧
          t.g .ARY_CFG_INFO_EDGE_LEN h.inst = x.edgeLen ∧ t.g .ARY_CFG_INFO_COMPAT h.inst = x.flags % 2 ∧
          (∀ e ∈ pl.regs, t.regionOwner e.2.2.2.2 = some h.inst) ∧ t.g .CFG_LOAD_STAT_PHASE 0 = 3 ∧
          t.load.secs = s.pkg.load.secs ++ [{ inst := h.inst, patch := false, records := 1, compat := bit x.flags 0, depth := x.depth }]) ∧
      (u.place x = none →
        Yields (.sectionBegin h x) s fun t => t.loadFailed 9 ∧ t.runState h.inst = .unloaded ∧ t.g .ARY_RUN_STAT_STOP_CAUSE h.inst = 13)) ∧
    (∀ (h : RecHdr) (v : Nat), s.pkg.load.die = some v → 8 ≤ v → h.inst < 16 → h.rsv = 0 → h.len = 0 → h.addr < 2 → s.pkg.secBad h.inst true = false →
      (s.pkg.runState h.inst = .loaded ∨ s.pkg.runState h.inst = .paused ∨ s.pkg.runState h.inst = .frozen) → s.pkg.relocating h.inst = false →
      s.pkg.resetting h.inst = false → (s.pkg.inst h.inst).startAt = none →
      Yields (.patchBegin h) s fun t =>
        t.load = { s.pkg.load with
          secs := s.pkg.load.secs ++ [{ inst := h.inst, patch := true, restore := bit h.addr 0, records := 1,
                                        compat := s.pkg.b .ARY_CFG_INFO_COMPAT h.inst, depth := s.pkg.depth h.inst }] } ∧
        t.g .CFG_LOAD_STAT_PATCH 0 = 1 ∧ t.g .CFG_LOAD_STAT_PHASE 0 = 3 ∧ t = { s.pkg with flds := t.flds, load := t.load } ∧
        s.pkg.fieldsOutside t [(.CFG_LOAD_STAT_PATCH, 0), (.CFG_LOAD_STAT_PHASE, 0)]) ∧
    ∀ (h : RecHdr) (v : Nat) (x : Section) (frames records : BitVec 64), s.pkg.inSection h v x → 8 ≤ v → h.len = 16 →
      (h.addr = 0 → frames.toNat = x.frames → records.toNat = x.records →
        Becomes (.sectionEnd h frames records) s ((s.pkg.counted h.inst).updSec h.inst fun y => { y with closed := true })) ∧
      (frames.toNat ≠ x.frames ∨ records.toNat ≠ x.records → Yields (.sectionEnd h frames records) s (·.loadFailed 7))

/-- FRAMES and CAVE in an open section that is no patch (R184, R188): the 64 instruction words of an ITR frame stand in the slots of the physical BP that its
address maps to; the words of a CAVE record stand in the bank and in its initial contents. Nothing else changes but the section's counts. A frame that does
not read back as written fails the load with code 15. It says under which conditions these commands complete, and with what next state: `frames`, `cave`.
Where it rests on the model's choices, they are those of log entries 49, 66, 132, 133, 134. -/
def Obligations.FramesAndCavesLand : Prop :=
  ∀ (h : RecHdr) (v : Nat) (x : Section) (s : State), s.pkg.inSection h v x → x.patch = false → v < 8 →
    (∀ (c : BitVec 4096) (f p : FAddr), h.len = 512 → faddr h.addr = some f → f.cls = .itr → f.die = v → x.compat = false →
      s.pkg.frameTarget h.inst h.addr false = some p →
      (Yields (.frames h [c] true) s fun t =>
        (∀ n < 64, 64 * p.frame + n < s.pkg.depth h.inst →
          t.fab.instr.at (slotKey p.reg (64 * p.frame + n) + p.cluster * 64 + p.bp) = bits c.toNat (64 * n) 64) ∧
        t = { (s.pkg.counted h.inst).updSec h.inst (fun y => { y with frames := y.frames + 1 }) with
              fab := { s.pkg.fab with instr := t.fab.instr } }) ∧
      Yields (.frames h [c] false) s (·.loadFailed 15)) ∧
    ∀ (words : List (BitVec 16)) (k : Nat), h.len = 2 * words.length → s.pkg.bankTarget h.inst v (bits h.addr 0 6) (bits h.addr 6 4) = some k → h.addr < 2 ^ 24 →
      words.length % 4 = 0 → bits h.addr 10 14 + words.length ≤ 16384 →
      Yields (.cave h words) s fun t =>
        (∀ n (hn : n < words.length), t.caveWord k (bits h.addr 10 14 + n) = words[n].toNat ∧
          t.cav.init.at (k * 16384 + bits h.addr 10 14 + n) = words[n].toNat) ∧
        (∀ a, (a < k * 16384 + bits h.addr 10 14 ∨ k * 16384 + bits h.addr 10 14 + words.length ≤ a) → t.cav.mem.at a = s.pkg.cav.mem.at a) ∧
        t = { s.pkg.counted h.inst with cav := { s.pkg.cav with mem := t.cav.mem, init := t.cav.init } }

/-- PORTCFG, QENTRY, HBM, EDGE and GDL in an open section that is no patch (R27, R88, R184): the bank's port configuration; a queue entry DONE with its word;
bytes of the slice; the edge pattern, whose length must be EDGE_LEN; and the modes of the sixteen global lines. A record whose LEN is not its type's fails
the load with code 7. IOCFG, LINKCFG and TRACECFG in an open section (R230, R284, R310): the bank's supply setting and its 32 cells; the port's mode, roles
and far end, for a port whose strap agrees; the capture settings, the sink of a die, the probe slots of a region, the pin slots of a die, or an image of
Rennet, in a section that is thereby traced. A bank or port that the instance does not own fails the load with code 7, and trace with another instance
traced fails it with code 10. It says under which conditions these commands complete, and with what next state: `portcfg`, `qentry`, `hbm`, `edge`, `gdl`,
`iocfg`, `linkcfg`, `tracecfg`. Where it rests on the model's choices, they are those of log entries 52, 59, 147. -/
def Obligations.RecordsLand : Prop :=
  (∀ (h : RecHdr) (v : Nat) (x : Section) (s : State), s.pkg.inSection h v x → x.patch = false →
    (∀ (cfg : BitVec 8) (k : Nat), h.len = 8 → v < 8 → s.pkg.bankTarget h.inst v (bits h.addr 0 6) (bits h.addr 6 4) = some k → h.addr < 2 ^ 10 →
      bits cfg.toNat 0 3 ≤ 4 → bits cfg.toNat 4 3 ≤ 4 →
      Becomes (.portcfg h cfg 0) s ((s.pkg.counted h.inst).ps [(.CAV_PORT_CFG_WIDTH_A, k, bits cfg.toNat 0 3), (.CAV_PORT_CFG_BUSY15_A, k, bits cfg.toNat 3 1),
        (.CAV_PORT_CFG_WIDTH_B, k, bits cfg.toNat 4 3), (.CAV_PORT_CFG_BUSY15_B, k, bits cfg.toNat 7 1)])) ∧
    (∀ (word : BitVec 64) (p : Nat), h.len = 8 → v < 8 → s.pkg.physRegion h.inst v (bits h.addr 0 6) = some p → h.addr < 2 ^ 15 →
      Yields (.qentry h word) s fun t =>
        (t.qport (p * 8 + bits h.addr 6 3)).ent (bits h.addr 9 6) = .done ∧
        (t.qport (p * 8 + bits h.addr 6 3)).word.at (bits h.addr 9 6) = word.toNat ∧
        t = { s.pkg.counted h.inst with que := { s.pkg.que with init := t.que.init, port := t.que.port } }) ∧
    (∀ (word : BitVec 64), h.len ≠ 8 → Yields (.qentry h word) s (·.loadFailed 7)) ∧
    (∀ (bytes : List (BitVec 8)) (a : Nat), h.len = bytes.length → 8 ≤ v → h.addr % 8 = 0 → bytes.length % 8 = 0 → h.addr + bytes.length ≤ s.pkg.sliceBytes h.inst →
      (∀ n < bytes.length, s.pkg.sliceAddr h.inst (h.addr + n) = some (a + n)) →
      Yields (.hbm h bytes) s fun t =>
        readBytes t.que.hbm a bytes.length = bytes ∧ (∀ b, (b < a ∨ a + bytes.length ≤ b) → readByte t.que.hbm b = readByte s.pkg.que.hbm b) ∧
        t = { s.pkg.counted h.inst with que := { s.pkg.que with hbm := t.que.hbm, shares := t.que.shares, grant := t.que.grant } }) ∧
    (∀ l : List (BitVec 64), h.len = 8 * l.length → 8 ≤ v → h.addr = 0 →
      (l.length = s.pkg.g .ARY_CFG_INFO_EDGE_LEN h.inst →
        Yields (.edge h l) s fun t => (∀ n (hn : n < l.length), t.fab.edge.at (h.inst * 4096 + n) = l[n].toNat) ∧
          t = { s.pkg.counted h.inst with fab := { s.pkg.fab with edge := t.fab.edge } }) ∧
      (l.length ≠ s.pkg.g .ARY_CFG_INFO_EDGE_LEN h.inst → Yields (.edge h l) s (·.loadFailed 7))) ∧
    ∀ l : List (BitVec 32), h.len = 64 → 8 ≤ v → h.addr = 0 → l.length = 16 → (∀ w ∈ l, bits w.toNat 0 2 < 2) →
      Yields (.gdl h l) s fun t => (∀ n (hn : n < l.length), t.g .XBR_GDL_CFG_MODE (h.inst * 16 + n) = bits l[n].toNat 0 2) ∧
        t = { s.pkg.counted h.inst with flds := t.flds } ∧ ∀ f i, i / 16 ≠ h.inst → t.g f i = s.pkg.g f i) ∧
  (∀ (h : RecHdr) (v : Nat) (x : Section) (s : State), s.pkg.inSection h v x → x.patch = false → 8 ≤ v →
    (∀ (vio : BitVec 8) (cells : List (BitVec 32)), h.len = 136 → h.addr < 32 →
      let b := h.addr % 8 * 4 + h.addr / 8
      (s.pkg.bankOwner b = some h.inst → 1 ≤ vio.toNat → vio.toNat < 6 → cells.length = 32 → (∀ w ∈ cells, cellCfgOk w.toNat = true) →
        Yields (.iocfg h vio 0 cells) s fun t =>
          t.g .IOC_BANK_CFG_VIO b = vio.toNat ∧ t.g .IOC_BANK_STAT_VOK b = 0 ∧
          (∀ n (hn : n < cells.length), t.g .IOC_CELL_CFG_MODE (b * 32 + n) = bits cells[n].toNat 0 3 ∧
            t.g .IOC_CELL_CFG_PULL (b * 32 + n) = bits cells[n].toNat 8 2 ∧ t.g .IOC_CELL_CFG_INIT (b * 32 + n) = bits cells[n].toNat 10 1 ∧
            t.g .IOC_CELL_CFG_INIT_EN (b * 32 + n) = bits cells[n].toNat 11 1) ∧
          t = { s.pkg.counted h.inst with flds := t.flds }) ∧
      (s.pkg.bankOwner b ≠ some h.inst → Yields (.iocfg h vio 0 cells) s (·.loadFailed 7))) ∧
    (∀ (mode roles pkg port : BitVec 8), h.len = 16 → h.addr < 32 →
      (s.pkg.portOwner h.addr = some h.inst → roles.toNat < 8 → mode.toNat < 4 → (s.pkg.strapped h.addr = (mode.toNat == 3)) → pkg.toNat < 64 →
        port.toNat < 32 → bit roles.toNat 1 = false →
        Yields (.linkcfg h mode roles pkg port 0) s fun t =>
          t.g .LNK_PORT_STAT_MODE h.addr = mode.toNat ∧
          t.port h.addr = { s.pkg.port h.addr with cfgd := true, sched := bit roles.toNat 0, ctlUp := false, ctlDown := bit roles.toNat 2,
                                                   peerPkg := pkg.toNat, peerPort := port.toNat } ∧
          t = { s.pkg.counted h.inst with flds := t.flds, ports := t.ports } ∧ s.pkg.fieldsOutside t [(.LNK_PORT_STAT_MODE, h.addr)]) ∧
      (s.pkg.portOwner h.addr ≠ some h.inst → Yields (.linkcfg h mode roles pkg port 0) s (·.loadFailed 7))) ∧
    (s.pkg.traced = none → (∀ y ∈ s.pkg.load.secs, y.traced = true → y.inst = h.inst) →
      let mine := fun (t : Pkg) => ∀ y ∈ t.load.secs, y.inst = h.inst → y.traced = true
      (∀ post cfg : BitVec 32, h.addr = 0 → h.len = 16 → cfg.toNat < 2 ^ 19 →
        Yields (.tracecfg h [post, cfg, 0, 0]) s fun t =>
          t.g .WHY_POST 0 = post.toNat ∧ t.g .WHY_CAP_CFG_SYNC_PERIOD 0 = bits cfg.toNat 0 17 ∧ t.g .WHY_CAP_CFG_DONE_FRZ 0 = bits cfg.toNat 17 1 ∧
          t.g .WHY_CAP_CFG_ARM_ON_START 0 = bits cfg.toNat 18 1 ∧ mine t ∧
          s.pkg.fieldsOutside t [(.WHY_POST, 0), (.WHY_CAP_CFG_SYNC_PERIOD, 0), (.WHY_CAP_CFG_DONE_FRZ, 0), (.WHY_CAP_CFG_ARM_ON_START, 0)]) ∧
      (∀ (cfg : BitVec 32) (w d : Nat), h.addr = 2 + 16 * w → w < 8 → h.len = 16 → s.pkg.physDie h.inst w = some d → s.pkg.wheyDie h.inst d = true →
        let n := cfg.toNat
        bits n 0 2 < 3 → bits n 2 2 < 3 → bits n 9 7 = 0 → bit n 31 = false → bits n 16 8 ≤ 144 → bits n 24 7 ≤ 64 →
        (bits n 0 2 ≠ 0 → s.pkg.portOwner (bits n 4 5) = some h.inst) →
        Yields (.tracecfg h [cfg, 0, 0, 0]) s fun t =>
          t.g .WHY_SINK_CFG_SINK d = bits n 0 2 ∧ t.g .WHY_SINK_CFG_RING_MODE d = bits n 2 2 ∧ t.g .WHY_SINK_CFG_PORT d = bits n 4 5 ∧
          t.g .WHY_SINK_CFG_RING_SEGS d = bits n 16 8 ∧ t.g .WHY_SINK_CFG_STAGE_BANKS d = bits n 24 7 ∧ mine t) ∧
      (∀ (words : List (BitVec 32)) (w r p : Nat), h.addr = 1 + 16 * w + 128 * r → w < 8 → r < 64 → h.len = 4096 →
        s.pkg.physRegion h.inst w r = some p → words.length = 1024 → (∀ e ∈ words, slotOk e.toNat = true) →
        (∀ n < 32, ∃ c < 32, s.pkg.physCluster h.inst w r n = some c) →
        (∀ a b c, s.pkg.physCluster h.inst w r a = some c → s.pkg.physCluster h.inst w r b = some c → a = b) →
        Yields (.tracecfg h words) s fun t => mine t ∧
          ∀ n (hn : n < words.length) c, s.pkg.physCluster h.inst w r (n / 32) = some c → t.trc.probe.at ((p * 32 + c) * 32 + n % 32) = words[n].toNat) ∧
      (∀ (words : List (BitVec 32)) (d : Nat), h.addr = 3 + 16 * d → d < 8 → h.len = 128 → words.length = 32 → s.pkg.wheyDie h.inst d = true →
        (∀ w ∈ words, ∀ k < 4, bits w.toNat (8 * k) 8 < 16) →
        Yields (.tracecfg h words) s fun t => mine t ∧ ∀ n (hn : n < words.length), ∀ k < 4,
          t.trc.pin.at ((d * 128 + 4 * n + k) * 2) = bits words[n].toNat (8 * k) 2 ∧ t.trc.pin.at ((d * 128 + 4 * n + k) * 2 + 1) = bits words[n].toNat (8 * k + 2) 2) ∧
      ∀ (words : List (BitVec 32)) (d : Nat), h.addr = 4 → h.len = 3592 → words.length = 898 → (∀ w ∈ words, w = 0) → s.pkg.physDie h.inst 0 = some d →
        s.pkg.regionsOn h.inst d ≠ [] → Yields (.tracecfg h words) s fun t => (∀ c < 64, t.g .RNT_CMP_SRC_EN c = 0) ∧ mine t) ∧
    (∀ words : List (BitVec 32), h.len = 4 * words.length → words.length % 2 = 0 → s.pkg.traced ≠ none →
      Yields (.tracecfg h words) s (·.loadFailed 10)))

/-- LOAD_CHECK (R189, R192, R203, R211): the load of one package whose sections are closed and pass every check commits: phase 6, DONE, its instances LOADED
with cause 0, and the fused generation advanced, where the stream or an earlier one asks for it and fuses may be written, by the bits that read back. A
slave's load goes to phase 5 and waits. A section that is missing or open fails the load with code 7, a frame that does not check with code 15. While the
processors that carry the load out do not act the load waits. It says under which conditions these commands complete, and with what next state:
`loadCheck`. Where it rests on the model's choices, they are those of log entries 55, 56, 58, 60, 130, 150, 163. -/
def Obligations.CheckedLoadsCommit : Prop :=
  ∀ (blow : Option (BitVec 7)) (h : StreamHdr) (s : State), s.pkg.load.active = true → s.pkg.load.last = true → s.pkg.g .CFG_LOAD_STAT_PHASE 0 < 4 →
    s.pkg.load.hdr = some h →
    let secs := s.pkg.load.secs
    let whole := secs.length = s.pkg.load.sections ∧ ∀ x ∈ secs, x.closed = true
    let passed := ((s.pkg.p .CFG_LOAD_STAT_PHASE 0 4).checkAll secs).2 = none
    let n := max (if bit h.flags 0 then h.gen else 0) s.pkg.load.genPend
    let f := s.fuses.gen
    (s.pkg.loadersAct = false → Becomes (.loadCheck true blow) s s.pkg) ∧
    (s.pkg.loadersAct = true →
        (whole → passed → h.npkg = 1 → (∀ x ∈ secs, x.patch = false) →
      ∃ p, exec (.loadCheck true blow) s =
          .next { s with pkg := p, fuses := { s.fuses with
            gen := if s.pkg.railsIn then max f (min n (f + (blow.map BitVec.toNat).getD 0)) else f } } ∧
        p.g .CFG_LOAD_STAT_PHASE 0 = 6 ∧ p.g .CFG_LOAD_STAT_DONE 0 = 1 ∧ p.load.active = false ∧
        ∀ x ∈ secs, p.runState x.inst = .loaded ∧ p.g .ARY_RUN_STAT_STOP_CAUSE x.inst = 0) ∧
    (whole → passed → 1 < h.npkg → s.pkg.isMaster = false →
      Yields (.loadCheck true blow) s fun t => t.waiting = true ∧ t.load = (((s.pkg.p .CFG_LOAD_STAT_PHASE 0 4).checkAll secs).1).load) ∧
    (¬whole → Yields (.loadCheck true blow) s (·.loadFailed 7)) ∧
    (whole → Yields (.loadCheck false blow) s (·.loadFailed 15)))

/-- The timers and controls of a load. COMMIT_TIMEOUT on a master and SLAVE_COMMIT_TIMEOUT on a slave that wait in phase 5 fail the load with code 13;
COMMIT_ACK_TIMEOUT marks a missing acknowledgement (R192). STREAM_STALL fails a load that awaits its last chunk with code 11, CFG_ABORT one in any phase
with code 14 (R194). ERR_CLR releases CFG_ERR_N (R196). Where nothing awaits them nothing happens. TURNER_FRAME_CHECK (R208, R209, R210, R212) of the frame
that is next in the engine's order, with no error left from before: undisturbed, it counts as clean; one bit upset is corrected and recorded; a bit that
does not take the correction makes the frame bad with kind VERIFY, two bits with kind MULTI, and a RUNNING instance that owns the region and runs on the
frame is FROZEN with TURNER_UNCORR. Past the last frame of its order the engine counts a pass and records how long it took. An engine with EN 0 or nothing
to scan does nothing, and a frame that is not its next is not visited. It says under which conditions these commands complete, and with what next state:
`commitTimeout`, `slaveCommitTimeout`, `commitAckTimeout`, `streamStall`, `cfgAbort`, `errClr`, `turnerFrameCheck`. Where it rests on the model's choices,
they are those of log entries 45, 55, 118, 139, 140, 141. -/
def Obligations.LoadTimersAndTurnerAct : Prop :=
  (∀ (init : Fin 128) (s : State),
    (s.pkg.waiting = true → s.pkg.isMaster = true → Yields .commitTimeout s (·.loadFailed 13)) ∧
    (s.pkg.waiting = false → Becomes .commitTimeout s s.pkg ∧ Becomes .slaveCommitTimeout s s.pkg) ∧
    (s.pkg.waiting = true → s.pkg.isMaster = false → Yields .slaveCommitTimeout s (·.loadFailed 13)) ∧
    (s.pkg.isMaster = true → s.pkg.cas.await ≠ [] → Yields .commitAckTimeout s fun t => t.cas = { s.pkg.cas with await := [] } ∧
      t.g .CFG_LOAD_STAT_PEER_MISSING 0 = 1 ∧ t = { s.pkg with flds := t.flds, cas := t.cas } ∧ s.pkg.fieldsOutside t [(.CFG_LOAD_STAT_PEER_MISSING, 0)]) ∧
    (s.pkg.load.active = true → s.pkg.load.last = false → Yields .streamStall s (·.loadFailed 11)) ∧
    (s.pkg.load.active = false → Becomes .streamStall s s.pkg) ∧
    (s.pkg.unwatched = true → s.pkg.load.active = true → Yields (.cfgAbort init) s (·.loadFailed 14)) ∧
    (s.pkg.unwatched = true → s.pkg.load.active = false → Becomes (.cfgAbort init) s s.pkg) ∧
    (s.pkg.unwatched = true → Yields (.errClr init) s fun t => t.g .CFG_LOAD_STAT_ERR 0 = 0 ∧ t.pins = { s.pkg.pins with errN := true } ∧
      t = { s.pkg with flds := t.flds, pins := t.pins } ∧ s.pkg.fieldsOutside t [(.CFG_LOAD_STAT_ERR, 0)])) ∧
  (∀ (d : Fin 8) (g : Fin 64) (us : BitVec 32) (s : State),
    let k := d.val * 64 + g.val
    (∀ a l stuck, s.pkg.g .TRN_CTRL_EN k = 0 ∨ s.pkg.nextFrame d g = none → Becomes (.turnerFrameCheck d g a l stuck us) s s.pkg) ∧
    (∀ a l stuck f, s.pkg.nextFrame d g = some f → f.code % 2 ^ 32 ≠ a.toNat → Becomes (.turnerFrameCheck d g a l stuck us) s s.pkg) ∧
    ∀ f : FAddr, s.pkg.g .TRN_CTRL_EN k = 1 → s.pkg.nextFrame d g = some f → Store.get [] s.pkg.trn.errs f.code = [] →
    let more := ∃ x ∈ s.pkg.scanList d g, f.rank < x.rank
    let a := BitVec.ofNat 32 f.code
    Yields (.turnerFrameCheck d g a [] false us) s (fun t =>
      t.g .TRN_CHECKED k = s.pkg.plus .TRN_CHECKED k 1 ∧ t.g .TRN_CLEAN k = s.pkg.plus .TRN_CLEAN k 1 ∧
      (more → t.trn.pos.at k = f.rank + 1 ∧ t.g .TRN_PASS_CNT k = s.pkg.g .TRN_PASS_CNT k ∧ t.g .TRN_PASS_US k = s.pkg.g .TRN_PASS_US k) ∧
      (¬more → t.trn.pos.at k = 0 ∧ t.g .TRN_PASS_CNT k = s.pkg.plus .TRN_PASS_CNT k 1 ∧ t.g .TRN_PASS_US k = us.toNat) ∧
      t = { s.pkg with flds := t.flds, trn := { s.pkg.trn with errs := t.trn.errs, pos := t.trn.pos } } ∧
      s.pkg.fieldsOutside t [(.TRN_CHECKED, k), (.TRN_CLEAN, k), (.TRN_PASS_CNT, k), (.TRN_PASS_US, k)]) ∧
    ∀ b : Fin 4128,
      Yields (.turnerFrameCheck d g a [b] false us) s (fun t =>
        t.g .TRN_CE k = s.pkg.plus .TRN_CE k 1 ∧ t.g .TRN_CE_ADDR k = f.code % 2 ^ 32 ∧ t.g .TRN_CE_BIT k = b.val ∧ t.g .TRN_STAT_CE k = 1 ∧
        Store.get [] t.trn.errs f.code = [] ∧ t.trn.bad = s.pkg.trn.bad ∧ t.g .TRN_UE k = s.pkg.g .TRN_UE k ∧
        ∀ i, t.runState i = s.pkg.runState i) ∧
      ∀ c : Fin 4128, b ≠ c → (∀ e ∈ s.pkg.trn.bad, e.1 ≠ f.code) →
        Yields (.turnerFrameCheck d g a [b] true us) s (fun t =>
          t.g .TRN_UE k = s.pkg.plus .TRN_UE k 1 ∧ t.g .TRN_STAT_UE k = 1 ∧ (f.code, 3) ∈ t.trn.bad ∧
          ∀ i, f.cls ≠ .drr → f.cls.running = true → s.pkg.regionOwner f.reg = some i → s.pkg.runs i = true →
            t.runState i = .frozen ∧ t.g .ARY_RUN_STAT_STOP_CAUSE i = 6) ∧
        Yields (.turnerFrameCheck d g a [b, c] false us) s (fun t =>
          t.g .TRN_UE k = s.pkg.plus .TRN_UE k 1 ∧ t.g .TRN_STAT_UE k = 1 ∧ (f.code, 1) ∈ t.trn.bad ∧ t.g .TRN_CE k = s.pkg.g .TRN_CE k))

/-- Turner's code (R209): an undisturbed frame is clean, every single bit in error is named, and two bits in error, in data or check word, are never taken for
a correctable error or for none; nor is any even number of bits taken for a correctable one. -/
def Obligations.SyndromesNameSingleErrors : Prop :=
  classify (syndrome []) = .clean ∧
  (∀ b < 4096, classify (syndrome [b]) = .data b) ∧ (∀ b < 32, classify (syndrome [4096 + b]) = .check b) ∧
  (∀ a < 4128, ∀ b < 4128, a ≠ b → classify (syndrome [a, b]) = .multi) ∧
  ∀ l : List Nat, (∀ x ∈ l, x < 4128) → l.length % 2 = 0 → ∀ b, classify (syndrome l) ≠ .data b ∧ classify (syndrome l) ≠ .check b

/-! ## Pins and lanes -/

/-- BANK_SUPPLY_FAULT and BANK_SUPPLY_RESTORED (R222): a bank in range is disabled, shows VFAULT and counts it, and its die's processor is told; a bank already
out of range only stays so. A supply that returns gives an owned bank VOK, and enables it at once unless its owner is RUNNING, whose cells wait for its
boundary. It says under which conditions these commands complete, and with what next state: `bankSupplyFault`, `bankSupplyRestored`. Where it rests on the
model's choices, they are those of log entries 5, 115, 174. -/
def Obligations.SuppliesGateBanks : Prop :=
  ∀ (b : Fin 32) (s : State),
    (s.pkg.g .IOC_BANK_STAT_VOK b = 1 →
      Yields (.bankSupplyFault b) s fun t =>
        t.g .IOC_BANK_STAT_VOK b = 0 ∧ t.g .IOC_BANK_STAT_ENABLED b = 0 ∧ t.g .IOC_BANK_STAT_VFAULT b = 1 ∧ t.pins.supply.at b = 0 ∧
        t.g .IOC_BANK_VFAULT_CNT b = min (s.pkg.g .IOC_BANK_VFAULT_CNT b + 1) (2 ^ Fld.width .IOC_BANK_VFAULT_CNT - 1) ∧
        t.notes = s.pkg.notes ++ [(b.val / 4, Note.code .supply b)] ∧
        t = { s.pkg with flds := t.flds, pins := { s.pkg.pins with supply := t.pins.supply, kept := t.pins.kept }, notes := t.notes } ∧
        s.pkg.fieldsOutside t [(.IOC_BANK_STAT_VOK, b.val), (.IOC_BANK_STAT_ENABLED, b.val), (.IOC_BANK_STAT_VFAULT, b.val),
          (.IOC_BANK_VFAULT_CNT, b.val)]) ∧
    (s.pkg.g .IOC_BANK_STAT_VOK b = 0 →
      Yields (.bankSupplyFault b) s fun t => t.pins.supply.at b = 0 ∧
        t = { s.pkg with pins := { s.pkg.pins with supply := t.pins.supply, kept := t.pins.kept } }) ∧
    ∀ i, s.pkg.bankOwner b = some i → s.pkg.g .IOC_BANK_CFG_VIO b ≠ 0 →
      Yields (.bankSupplyRestored b) s fun t =>
        t.g .IOC_BANK_STAT_VOK b = 1 ∧ t.pins.supply.at b = 1 ∧
        (s.pkg.runState i = .running → t.g .IOC_BANK_STAT_ENABLED b = s.pkg.g .IOC_BANK_STAT_ENABLED b) ∧
        (s.pkg.runState i = .loaded ∨ s.pkg.runState i = .paused ∨ s.pkg.runState i = .frozen ∨ s.pkg.runState i = .faulted → s.pkg.tripped = false →
          t.g .IOC_BANK_STAT_ENABLED b = 1) ∧
        t = { s.pkg with flds := t.flds, pins := { s.pkg.pins with supply := t.pins.supply } } ∧
        s.pkg.fieldsOutside t [(.IOC_BANK_STAT_VOK, b.val), (.IOC_BANK_STAT_ENABLED, b.val)]

/-- The boundary-scan instructions (R232, R233, R234): each selects itself on every die. The instruction register captures 0b0000_0001, IDCODE captures its
word and every other opcode 0 into its register of one bit or 32. While BSCAN_CE is held, EXTEST and SAMPLE/PRELOAD capture the pads and update the
register's control and output cells, which they leave alone while it is low. While it is held, EXTEST and CLAMP drive each cell of a supplied bank as the
register says, and under every other instruction no cell drives its pad. It says under which conditions these commands complete, and with what next state:
`extest`, `bscanIdcode`, `samplePreload`, `clamp`, `highz`, `bscanBypass`. Where it rests on the model's choices, they are those of log entries 5, 18. -/
def Obligations.ScanDrivesCells : Prop :=
  ∀ (upd : List (Fin 3072 × Fin 2)) (pads : List (Fin 1024 × Fin 3)) (ir : BitVec 8) (s : State),
    let only := fun (n : Nat) (t : Pkg) => t = { s.pkg with flds := t.flds, pins := t.pins } ∧
      t.pins = { s.pkg.pins with irOut := 1, dr := if n = 1 then s.pkg.idcode else 0 } ∧ (∀ d < s.pkg.part.model.dies, t.g .IOC_SCAN_STAT_IR d = n) ∧
      ∀ f i, f ≠ .IOC_SCAN_STAT_IR → t.g f i = s.pkg.g f i
    let off := fun (t : Pkg) => s.pkg.part.bscanCe = true → ∀ c < s.pkg.part.model.dies * 128, t.driven c = 0
    let drives := fun (t : Pkg) => s.pkg.part.bscanCe = true → ∀ c < s.pkg.part.model.dies * 128, s.pkg.pins.supply.at (c / 32) = 1 →
      t.driven c = if t.pins.bsr.at (3 * c + 2) = 1 then lvl (t.pins.bsr.at (3 * c + 1) == 1) else 0
    let scanned := fun (n : Nat) (t : Pkg) => (∀ d < s.pkg.part.model.dies, t.g .IOC_SCAN_STAT_IR d = n) ∧
      (s.pkg.part.bscanCe = false → t.pins.bsr = s.pkg.pins.bsr ∧ t.pins.cap = s.pkg.pins.cap) ∧ (s.pkg.part.bscanCe = true →
      ((upd.map (·.1)).Nodup → ∀ e ∈ upd, e.1.val % 3 ≠ 0 → t.pins.bsr.at e.1 = e.2.val) ∧
      ∀ c < s.pkg.part.model.dies * 128, ∀ x, ((s.withPads pads).scanIR n).padLevel c (((s.withPads pads).scanIR n).driven c) = some x →
        t.pins.cap.at c = b2n (x == 2))
    Yields .bscanIdcode s (fun t => only 1 t ∧ off t) ∧ Yields .clamp s (fun t => only 4 t ∧ drives t) ∧ Yields .highz s (fun t => only 5 t ∧ off t) ∧
    (ir.toNat ≠ 0 → ir.toNat ≠ 1 → ir.toNat ≠ 4 → Yields (.bscanBypass ir) s fun t => only ir.toNat t ∧ off t) ∧
    Yields (.extest upd pads) s (fun t => scanned 0 t ∧ drives t) ∧ Yields (.samplePreload upd pads) s (fun t => scanned 2 t ∧ off t)

/-- Commands that move a lane (R238, R246, R247, R250, R252), with no watchpoint enabled. EN takes a lane that is OFF to CAL, or with TGT 2 to COLD, unless its
die is down or the package has tripped, and with 0 takes it OFF; a TGT write that waits takes an ACTIVE lane to IDLE or COLD; RETRAIN returns a trained
lane to T1 and begins a Cold exit from COLD; FAULT_CLR takes a lane from FAULT to CAL; a wake tone takes it from COLD to CAL. A port that loses an ACTIVE
lane so enters RECOVER, and the recovered reference becomes invalid with its lane (R436). What training brings (R239-R245), for a lane with TGT 0 whose
port has not enabled its lanes where the lane ends in T5. The synthesiser's lock takes CAL to T1, or to TEST with PRBS on; a missed lock, or none found in
any band, to FAULT with its cause; a lost lock back to CAL; a lost CDR back to T1. In training the lane sends a frame that says where it stands. A good
frame names the partner; the 64th in a row with both ends converged ends T1; two ends without PAM4 settle on NRZ in T2, and ends of different formats stay
there; a fourth frame with PHASE 0 takes the lane into COLD; a frame whose marker or CRC is wrong only breaks the row. A PAM4 attempt of fewer than 16
errors ends in T5, the fourth of more in a fallback that every lane of the port counts. Training that takes too long begins again. It says under which
conditions these commands complete, and with what next state: `laneEn`, `laneTgtApply`, `retrain`, `laneFaultClr`, `synthLock`, `synthLockTimeout`,
`synthLockLoss`, `cdrLockLoss`, `trainingFrame`, `pam4AttemptEnd`, `trainingTimeout`, `wakeToneDetect`. Where it rests on the model's choices, they are
those of log entries 28, 29, 30, 31, 154, 155, 157, 158. -/
def Obligations.LanesMoveAndTrain : Prop :=
  (∀ (l : Fin 128) (init : Fin 128) (s : State), s.pkg.unwatched = true → l.val / 16 < s.pkg.part.model.dies →
    let up := s.pkg.portSt (lanePort l) = .up ∨ s.pkg.portSt (lanePort l) = .align
    let rest := fun (t : Pkg) => t.fab = s.pkg.fab ∧ t.cav = s.pkg.cav ∧ t.que = s.pkg.que ∧ ∀ n, n / 4 ≠ l.val / 4 → t.laneSt n = s.pkg.laneSt n
    (s.pkg.laneSt l = .active → l.val = s.pkg.recLane → Yields (.laneEn l init false) s fun t => t.g .ADC_REF_STAT_REC_VALID 0 = 0) ∧
    ((lanePort l = s.pkg.g .ADC_REF_CTRL_REC_PORT 0 → s.pkg.g .ADC_REF_STAT_REC_VALID 0 = 0) →
    (s.pkg.laneSt l = .off → s.pkg.tripped = false → s.pkg.dieOk (l.val / 16) = true → s.pkg.g .LNK_LANE_CTRL_TGT l ≠ 2 →
      Yields (.laneEn l init true) s fun t => t.laneSt l = .cal ∧ t.g .LNK_LANE_CTRL_EN l = 1 ∧ t.g .LNK_LANE_STAT_ETA_US l = 1200 ∧
        t.g .LNK_LANE_STAT_SYN_LOCK l = 0 ∧ rest t) ∧
    (s.pkg.laneSt l = .off → s.pkg.tripped = false → s.pkg.dieOk (l.val / 16) = true → s.pkg.g .LNK_LANE_CTRL_TGT l = 2 →
      Yields (.laneEn l init true) s fun t => t.laneSt l = .cold ∧ t.g .LNK_LANE_CTRL_EN l = 1 ∧ rest t) ∧
    (s.pkg.laneSt l = .off → s.pkg.tripped = true ∨ s.pkg.dieOk (l.val / 16) = false →
      Yields (.laneEn l init true) s fun t => t.laneSt l = .off ∧ t.g .LNK_LANE_CTRL_EN l = 1 ∧ rest t) ∧
    (s.pkg.laneSt l ≠ .off →
      Yields (.laneEn l init false) s fun t => t.laneSt l = .off ∧ t.g .LNK_LANE_CTRL_EN l = 0 ∧ t.g .LNK_LANE_STAT_RATE l = 0 ∧
        t.g .LNK_LANE_PARTNER_VALID l = 0 ∧ rest t ∧ (up → t.portSt (lanePort l) = .recover)) ∧
    (∀ w, (s.pkg.pendw.find? fun w => w.fld == .LNK_LANE_CTRL_TGT && w.idx == l.val) = some w → s.pkg.laneSt l = .active →
      (w.val = 2 → Yields (.laneTgtApply l) s fun t => t.laneSt l = .cold ∧ t.g .LNK_LANE_CTRL_TGT l = 2 ∧ (up → t.portSt (lanePort l) = .recover)) ∧
      (w.val = 1 → Yields (.laneTgtApply l) s fun t => t.laneSt l = .idle ∧ t.g .LNK_LANE_CTRL_TGT l = 1 ∧ (up → t.portSt (lanePort l) = .recover))) ∧
    ((s.pkg.pendw.find? fun w => w.fld == .LNK_LANE_CTRL_TGT && w.idx == l.val) = none ∨ s.pkg.laneSt l = .fault →
      Becomes (.laneTgtApply l) s s.pkg) ∧
    (s.pkg.g .LNK_LANE_CTRL_EN l = 1 →
      (s.pkg.laneSt l = .train ∨ s.pkg.laneSt l = .active ∨ s.pkg.laneSt l = .idle →
        Yields (.retrain l init) s fun t => t.laneSt l = .train ∧ t.g .LNK_LANE_STAT_PHASE l = 1 ∧ t.g .LNK_LANE_STAT_RATE l = 0 ∧
          t.g .LNK_LANE_PARTNER_VALID l = 0 ∧ rest t ∧ (up → t.portSt (lanePort l) = .recover)) ∧
      (s.pkg.laneSt l = .cold → Yields (.retrain l init) s fun t => t.laneSt l = .cal ∧ t.g .LNK_LANE_STAT_ETA_US l = 2000 ∧ rest t) ∧
      (s.pkg.laneSt l = .fault → (s.pkg.pendw.find? fun w => w.fld == .LNK_LANE_CTRL_TGT && w.idx == l.val) = none →
        Yields (.laneFaultClr l init) s fun t => t.laneSt l = .cal ∧ t.g .LNK_LANE_STAT_FAULT_CAUSE l = 0 ∧ rest t)) ∧
    (s.pkg.laneSt l = .cold → Yields (.wakeToneDetect l) s fun t => t.laneSt l = .cal ∧ t.g .LNK_LANE_STAT_SIG_DET l = 1 ∧
      t.g .LNK_LANE_STAT_ETA_US l = 2000 ∧ rest t) ∧
    (s.pkg.laneSt l ≠ .cold → Becomes (.wakeToneDetect l) s s.pkg))) ∧
  (∀ (l : Fin 128) (s : State),
    let x := s.pkg.lane l
    let t1 := fun (t : Pkg) => t.laneSt l = .train ∧ t.g .LNK_LANE_STAT_PHASE l = 1
    let phase := fun (n : Nat) => s.pkg.laneSt l = .train ∧ s.pkg.g .LNK_LANE_STAT_PHASE l = n
    let t5 := s.pkg.g .LNK_LANE_CTRL_TGT l = 0 ∧ s.pkg.portEnables (lanePort l) = false
    let lives := s.pkg.laneSt l = .train ∨ s.pkg.laneSt l = .active ∨ s.pkg.laneSt l = .idle
    (s.pkg.laneSt l = .cal → s.pkg.prbsOn l = false → Yields (.synthLock l) s fun t => t1 t ∧ t.g .LNK_LANE_STAT_SYN_LOCK l = 1) ∧
    (s.pkg.laneSt l = .cal → s.pkg.prbsOn l = true → x.lost = false → Yields (.synthLock l) s fun t => t.laneSt l = .test ∧ t.g .LNK_LANE_STAT_SYN_LOCK l = 1) ∧
    (s.pkg.laneSt l = .cal → x.lost = true → Yields (.synthLock l) s fun t => t1 t ∧ t.g .LNK_LANE_STAT_SYN_LOCK l = 1) ∧
    (s.pkg.laneSt l ≠ .cal → Becomes (.synthLock l) s s.pkg) ∧
    (s.pkg.laneSt l = .cal → ∀ noBand, Yields (.synthLockTimeout l noBand) s fun t => t.laneSt l = .fault ∧
      t.g .LNK_LANE_STAT_FAULT_CAUSE l = (if noBand then 2 else 1) ∧ t.notes = s.pkg.notes ++ [(l.val / 16, Note.code .laneFault 0)]) ∧
    (lives ∨ s.pkg.laneSt l = .test → Yields (.synthLockLoss l) s fun t => t.laneSt l = .cal ∧ t.g .LNK_LANE_STAT_SYN_LOCK l = 0 ∧
      t.g .LNK_LOSS_CNT_SYN_LOSS l = min (s.pkg.g .LNK_LOSS_CNT_SYN_LOSS l + 1) (2 ^ Fld.width .LNK_LOSS_CNT_SYN_LOSS - 1)) ∧
    (s.pkg.laneSt l = .active ∨ s.pkg.laneSt l = .idle → Yields (.cdrLockLoss l) s fun t => t1 t ∧
      t.g .LNK_LOSS_CNT_CDR_LOSS l = min (s.pkg.g .LNK_LOSS_CNT_CDR_LOSS l + 1) (2 ^ Fld.width .LNK_LOSS_CNT_CDR_LOSS - 1)) ∧
    (∀ (w : BitVec 64) (converged : Bool), lives → trainWordOk w.toNat = true →
      let f := TrainFrame.ofWord w.toNat
      let frame := Yields (.trainingFrame l (BitVec.ofNat 64 trainMarker, w, converged)) s
      (f.phase ≠ 0 → frame fun t =>
        (phase 1 → (t.lane l).sent = (s.pkg.frameNow l 1).word) ∧
        (phase 1 → converged = true → f.seen = true → f.rxReady = true → 63 ≤ x.frames → x.cold = false → t.g .LNK_LANE_STAT_PHASE l = 2) ∧
        (phase 2 → x.mism = false → f.compat = false → s.pkg.strapped (lanePort l) = false → f.pam4Cap = false → t5 →
          t.laneSt l = .train ∧ t.g .LNK_LANE_STAT_PHASE l = 5 ∧ t.g .LNK_LANE_STAT_RATE l = 2) ∧
        (phase 2 → f.compat ≠ s.pkg.strapped (lanePort l) → x.mism = false →
          t.laneSt l = .train ∧ t.g .LNK_LANE_STAT_PHASE l = 2 ∧ t.g .LNK_LANE_STAT_COMPAT_MISMATCH l = 1 ∧ (t.lane l).mism = true) ∧
        ((s.pkg.laneSt l = .active ∨ s.pkg.laneSt l = .idle) →
          t.laneSt l = s.pkg.laneSt l ∧ t.g .LNK_LANE_PARTNER_VALID l = 1 ∧ t.g .LNK_LANE_PARTNER_ID l = w.toNat % 2 ^ 14)) ∧
      (f.phase = 0 → 3 ≤ x.zero → frame fun t => t.laneSt l = .cold)) ∧
    (∀ (m w : BitVec 64) (converged : Bool), lives → m.toNat ≠ trainMarker ∨ trainWordOk w.toNat = false →
      Yields (.trainingFrame l (m, w, converged)) s fun t => (t.lane l).frames = 0 ∧ (t.lane l).zero = 0 ∧ t = { s.pkg with lanes := t.lanes }) ∧
    (∀ errs : BitVec 32, phase 4 →
      (errs.toNat < 16 → x.pReady = true → t5 → Yields (.pam4AttemptEnd l errs) s fun t =>
        t.laneSt l = .train ∧ t.g .LNK_LANE_STAT_PHASE l = 5 ∧ t.g .LNK_LANE_STAT_RATE l = 1) ∧
      (16 ≤ errs.toNat → x.tries < 3 → Yields (.pam4AttemptEnd l errs) s fun t => (t.lane l).tries = x.tries + 1 ∧ t = { s.pkg with lanes := t.lanes }) ∧
      (16 ≤ errs.toNat → 3 ≤ x.tries → Yields (.pam4AttemptEnd l errs) s fun t => t1 t ∧ ∀ n ∈ portLanes (lanePort l), (t.lane n).fb = true ∧
        t.g .LNK_STATE_CNT_FALLBACK n = min (s.pkg.g .LNK_STATE_CNT_FALLBACK n + 1) (2 ^ Fld.width .LNK_STATE_CNT_FALLBACK - 1))) ∧
    (s.pkg.laneSt l = .train → x.mism = true → Becomes (.trainingTimeout l) s s.pkg) ∧
    (s.pkg.laneSt l = .train → s.pkg.g .LNK_LANE_STAT_PHASE l ≠ 5 → x.mism = false → Yields (.trainingTimeout l) s fun t => t1 t ∧
      t.g .LNK_TRAIN_CNT_FAIL l = min (s.pkg.g .LNK_TRAIN_CNT_FAIL l + 1) (2 ^ Fld.width .LNK_TRAIN_CNT_FAIL - 1)))

/-- PRBS (R248, R249, R250), with no watchpoint enabled. An accepted write that enables PRBS on a lane of an unowned port takes it into TEST, with the counts
zeroed where the checker comes on; in FAULT it waits; on an owned port it is refused, and so is pattern 7. An injected error, by INJ_SHOT or by period,
counts. The checker locks after 64 bits in a row that follow its pattern; while locked it counts every bit, and a bit that does not follow. It says under
which conditions these commands complete, and with what next state: `prbsCfgWrite`, `injShot`, `periodicInjection`, `prbsCheckerReceive`. Where it rests on
the model's choices, they are those of log entries 29, 103, 156. -/
def Obligations.PrbsRuns : Prop :=
  ∀ (l : Fin 128) (init : Fin 128) (w : BitVec 32) (s : State), l.val / 16 < s.pkg.part.model.dies →
    let free := s.pkg.g .LNK_PORT_STAT_OWNED (lanePort l) = 0 ∧ s.pkg.commitOn (lanePort l) = false
    let form := bits w.toNat 0 3 ≠ 7 ∧ bits w.toNat 3 3 ≠ 7 ∧ bits w.toNat 10 2 ≠ 3
    let on := bit w.toNat 6 = true ∨ bit w.toNat 7 = true
    let plain := s.pkg.g .LNK_PRBS_CFG_GEN_EN l = 1 ∧ s.pkg.g .LNK_PRBS_CFG_LOOPBACK l = 0 ∧ s.pkg.laneSt l = .test
    let injected := fun (t : Pkg) => t.g .LNK_PRBS_INJ l = min (s.pkg.g .LNK_PRBS_INJ l + 1) (2 ^ Fld.width .LNK_PRBS_INJ - 1) ∧
      t = { s.pkg with flds := t.flds, lanes := t.lanes } ∧ s.pkg.fieldsOutside t [(.LNK_PRBS_INJ, l.val)]
    (s.pkg.unwatched = true →
      (form → free → on → bit w.toNat 12 = false → s.pkg.laneSt l = .train ∨ s.pkg.laneSt l = .active ∨ s.pkg.laneSt l = .idle →
        Yields (.prbsCfgWrite l init w) s fun t => t.laneSt l = .test ∧ t.g .LNK_PRBS_CFG_GEN_PAT l = bits w.toNat 0 3 ∧
          t.g .LNK_PRBS_CFG_CHK_PAT l = bits w.toNat 3 3 ∧ t.g .LNK_PRBS_CFG_GEN_EN l = bits w.toNat 6 1 ∧ t.g .LNK_PRBS_CFG_CHK_EN l = bits w.toNat 7 1 ∧
          t.g .LNK_PRBS_CFG_LOOPBACK l = bits w.toNat 8 2 ∧ t.g .LNK_PRBS_CFG_INJ_MODE l = bits w.toNat 10 2 ∧
          t.g .LNK_PRBS_CFG_INJ_PERIOD l = bits w.toNat 16 5 ∧
          (s.pkg.g .LNK_PRBS_CFG_CHK_EN l = 0 → bit w.toNat 7 = true →
            t.g .LNK_PRBS_BITS l = 0 ∧ t.g .LNK_PRBS_ERR l = 0 ∧ t.g .LNK_PRBS_INJ l = 0)) ∧
      (form → free → on → bit w.toNat 12 = false → s.pkg.laneSt l = .fault →
        Yields (.prbsCfgWrite l init w) s fun t => (t.lane l).prbs.isSome = true ∧ t = { s.pkg with lanes := t.lanes }) ∧
      (form → on → s.pkg.g .LNK_PORT_STAT_OWNED (lanePort l) = 1 →
        Yields (.prbsCfgWrite l init w) s fun t => s.pkg.refused t .LNK (l.val / 16) 4 init) ∧
      (¬form → Yields (.prbsCfgWrite l init w) s fun t => s.pkg.refused t .LNK (l.val / 16) 5 init) ∧
      (plain → free → s.pkg.g .LNK_PRBS_CFG_INJ_MODE l = 1 → s.pkg.g .LNK_PRBS_CFG_GEN_PAT l ≠ 7 → s.pkg.g .LNK_PRBS_CFG_CHK_PAT l ≠ 7 →
        Yields (.injShot l init) s injected)) ∧
    (plain → s.pkg.g .LNK_PRBS_CFG_INJ_MODE l = 2 → Yields (.periodicInjection l) s injected) ∧
    (∀ v : Bool, s.pkg.laneSt l = .test → s.pkg.g .LNK_PRBS_CFG_CHK_EN l = 1 → s.pkg.g .LNK_PRBS_CFG_LOOPBACK l = 0 →
      let pat := s.pkg.g .LNK_PRBS_CFG_CHK_PAT l
      let reg := (s.pkg.lane l).chk
      let want := prbsNext pat reg
      (s.pkg.g .LNK_PRBS_STAT_CHK_LOCK l = 0 → 63 ≤ (s.pkg.lane l).run → v = want → regInPattern pat (s.pkg.g .LNK_PRBS_USER l) (prbsShift reg v) = true →
        Yields (.prbsCheckerReceive l v []) s fun t => t.g .LNK_PRBS_STAT_CHK_LOCK l = 1 ∧ t.g .LNK_PRBS_BITS l = s.pkg.g .LNK_PRBS_BITS l ∧
          t.g .LNK_PRBS_ERR l = s.pkg.g .LNK_PRBS_ERR l) ∧
      (s.pkg.g .LNK_PRBS_STAT_CHK_LOCK l = 0 → (s.pkg.lane l).run < 63 →
        Yields (.prbsCheckerReceive l v []) s fun t => t = { s.pkg with lanes := t.lanes }) ∧
      (s.pkg.g .LNK_PRBS_STAT_CHK_LOCK l = 1 →
        Yields (.prbsCheckerReceive l v []) s fun t => t.g .LNK_PRBS_BITS l = s.pkg.plus .LNK_PRBS_BITS l 1 ∧
          (v = want → t.g .LNK_PRBS_STAT_CHK_LOCK l = 1 ∧ t.g .LNK_PRBS_ERR l = s.pkg.g .LNK_PRBS_ERR l) ∧
          (v ≠ want → t.g .LNK_PRBS_STAT_ERR_SEEN l = 1 ∧ t.g .LNK_PRBS_ERR l = s.pkg.plus .LNK_PRBS_ERR l 1)))

/-! ## Link ports -/

/-- Bonding and alignment (R254, R255, R274). A port in WAIT, BOND or RECOVER whose lanes stand in T5 at one rate goes to ALIGN with its lanes ACTIVE when
partner, rate and frequency pass; else it stays in BOND and says which did not. In ALIGN on a port that is not CTL_UP, a PHASE flit that shows an offset of
at most 4 steps takes it UP, a larger one sets PHASE_ERR; after 4,096 round trips a full alignment of a slave's CTL_UP port takes over the partner's count
and goes UP. In LOWPWR a PHASE flit begins the exit, in UP it ends a silence. REALIGN is remembered for the next ALIGN. It says under which conditions
these commands complete, and with what next state: `portBond`, `phaseFlit`, `portRealign`. Where it rests on the model's choices, they are those of log
entries 32, 33, 160, 161. -/
def Obligations.PortsBondAndAlign : Prop :=
  ∀ (q : Fin 32) (s : State),
    (∀ ppb skew, s.pkg.portSt q = .wait ∨ s.pkg.portSt q = .bond ∨ s.pkg.portSt q = .recover → s.pkg.lanesT5 q = true →
      let id := s.pkg.bondId q = true ∧ skew ≤ 10000
      let rate := s.pkg.g .LNK_LANE_STAT_RATE (q * 4) = modeRate (s.pkg.mode q)
      Yields (.portBond q ppb skew) s fun t =>
        t.g .LNK_PORT_PARTNER_VALID q = 1 ∧ t.g .LNK_PORT_PARTNER_PKG q = bits (s.pkg.g .LNK_LANE_PARTNER_ID (q * 4)) 7 6 ∧
        (t.g .LNK_PORT_STAT_ID_ERR q = 0 ↔ id) ∧ (t.g .LNK_PORT_STAT_RATE_ERR q = 0 ↔ rate) ∧ (t.g .LNK_PORT_STAT_FREQ_ERR q = 0 ↔ ppb ≤ 2000) ∧
        (id ∧ rate ∧ ppb ≤ 2000 → t.portSt q = .align ∧ ∀ l ∈ portLanes q, t.laneSt l = .active) ∧
        (¬(id ∧ rate ∧ ppb ≤ 2000) → t.portSt q = .bond ∧ ∀ l, t.laneSt l = s.pkg.laneSt l)) ∧
    (∀ (elapsed : Nat) (theirs echo at_ : BitVec 64),
      let x := s.pkg.port q
      let own := s.pkg.plus .LNK_STEP_CNT 0 elapsed
      let off := phaseOffset own theirs.toNat echo.toNat at_.toNat
      let near := -4 ≤ off ∧ off ≤ 4
      (s.pkg.portSt q = .align → x.ctlUp = false → x.realign = false → Yields (.phaseFlit q elapsed theirs echo at_) s fun t =>
        t.g .LNK_STEP_CNT 0 = own ∧ (t.g .LNK_PORT_STAT_PHASE_OFF q : Int) = max (-128) (min 127 off) % 256 ∧
        (near → t.portSt q = .up ∧ t.g .LNK_PORT_STAT_PHASE_ERR q = 0) ∧ (¬near → t.portSt q = .align ∧ t.g .LNK_PORT_STAT_PHASE_ERR q = 1)) ∧
      (s.pkg.portSt q = .align → x.ctlUp = true → s.pkg.isMaster = false → x.realign = true ∨ ¬near ∨ s.pkg.g .LNK_CAS_STAT_ALIGNED 0 = 0 →
        Yields (.phaseFlit q elapsed theirs echo at_) s fun t =>
          (x.phases + 1 < 4096 → t.portSt q = .align ∧ t.g .LNK_STEP_CNT 0 = own) ∧
          (4096 ≤ x.phases + 1 → t.portSt q = .up ∧ t.g .LNK_CAS_STAT_ALIGNED 0 = 1 ∧ t.g .LNK_PORT_STAT_PHASE_OFF q = 0 ∧
            t.g .LNK_STEP_CNT 0 = ((own : Int) + off).toNat % 2 ^ Fld.width .LNK_STEP_CNT)) ∧
      (s.pkg.portSt q = .lowpwr → x.exiting = true ∨ s.pkg.lanesActive q = false → (∀ l ∈ portLanes q, s.pkg.laneSt l = .cold ∨ s.pkg.laneSt l = .train) →
        Yields (.phaseFlit q elapsed theirs echo at_) s fun t => (t.port q).exiting = true ∧ t.portSt q = .lowpwr ∧ t.g .LNK_STEP_CNT 0 = own) ∧
      (s.pkg.portSt q = .up → Yields (.phaseFlit q elapsed theirs echo at_) s fun t => t.port q = { x with silent := false } ∧
        s.pkg.onlyFields { t with ports := s.pkg.ports } [(.LNK_STEP_CNT, 0)] ∧ t.g .LNK_STEP_CNT 0 = own)) ∧
    ∀ init : Fin 128, s.pkg.unwatched = true → q.val / 4 < s.pkg.part.model.dies →
      Becomes (.portRealign q init) s (s.pkg.updPort q fun x => { x with realign := true })

/-- The end of a link (R272, R273, R285), with no watchpoint enabled where a register is written. A silence only starts the timer; the timer takes a port in
RECOVER, or silent in UP, to DOWN: counted, its replay buffer dropped, and a RUNNING owner FAULTED with LINK_DOWN; one that only waited to tell of a failed
load goes OFF (R192). FAULT_CLR returns the port to WAIT, or is refused while the owner is RUNNING, PAUSED or FROZEN. SNAP captures the port's counters and
changes nothing else. Low power (R275): a waiting LP value applies and LP_REQ tells the partner. When both ends ask for it, nothing is left to send or to
acknowledge and no RUNNING owner uses scheduled lines, the port enters LOWPWR and its lanes take the shallower of the two states as their target. It says
under which conditions these commands complete, and with what next state: `linkSilence`, `linkDownTimeout`, `portFaultClr`, `portSnap`, `portLpApply`,
`lowpwrEntry`. Where it rests on the model's choices, they are those of log entries 33, 42, 164, 167. -/
def Obligations.PortsGoDownAndSleep : Prop :=
  (∀ (q : Fin 32) (init : Fin 128) (s : State),
    (s.pkg.portSt q = .up → Becomes (.linkSilence q) s (s.pkg.updPort q fun x => { x with silent := true })) ∧
    (s.pkg.portSt q ≠ .up → Becomes (.linkSilence q) s s.pkg) ∧
    (s.pkg.portSt q = .recover ∨ s.pkg.portSt q = .up ∧ (s.pkg.port q).silent = true → (s.pkg.port q).closing = true →
      Yields (.linkDownTimeout q) s fun t => t.portSt q = .off ∧ t.port q = {}) ∧
    (s.pkg.portSt q = .recover ∨ s.pkg.portSt q = .up ∧ (s.pkg.port q).silent = true → (s.pkg.port q).closing = false →
      Yields (.linkDownTimeout q) s fun t => t.portSt q = .down ∧ t.g .LNK_DOWN_CNT q = s.pkg.plus .LNK_DOWN_CNT q 1 ∧
        t.g .LNK_PORT_STAT_DOWN_SEEN q = 1 ∧ (t.port q).replay = [] ∧ t.g .LNK_RPL_DROP q = s.pkg.plus .LNK_RPL_DROP q (s.pkg.port q).replay.length ∧
        (∀ l ∈ portLanes q, t.laneSt l ≠ .active) ∧
        ∀ i, s.pkg.portOwner q = some i → s.pkg.runState i = .running → t.runState i = .faulted ∧ t.g .ARY_RUN_STAT_STOP_CAUSE i = 7) ∧
    (s.pkg.portSt q ≠ .recover → ¬(s.pkg.portSt q = .up ∧ (s.pkg.port q).silent = true) → Becomes (.linkDownTimeout q) s s.pkg) ∧
    (s.pkg.unwatched = true → q.val / 4 < s.pkg.part.model.dies →
      (s.pkg.portClrRefused q = false → s.pkg.portSt q = .down →
        Yields (.portFaultClr q init) s fun t => t.portSt q = .wait ∧ t = { s.pkg with flds := t.flds, evts := t.evts, evtLost := t.evtLost } ∧
          s.pkg.fieldsOutside t [(.LNK_PORT_STAT_STATE, q.val), (.MBX_EVT_PROD, 0), (.MBX_EVT_LOST, 0)]) ∧
      (s.pkg.portClrRefused q = true → Yields (.portFaultClr q init) s fun t => s.pkg.refused t .LNK (q.val / 4) 4 init) ∧
      Yields (.portSnap q init) s fun t => t = { s.pkg with snaps := t.snaps } ∧ ∀ f ∈ portSnapFields, t.gs f q = s.pkg.g f q)) ∧
  (∀ (q : Fin 32) (s : State),
    ((s.pkg.pendw.find? fun w => w.fld == .LNK_PORT_CTRL_LP && w.idx == q.val) = none → Becomes (.portLpApply q) s s.pkg) ∧
    (∀ w, (s.pkg.pendw.find? fun w => w.fld == .LNK_PORT_CTRL_LP && w.idx == q.val) = some w → 0 < w.val → w.val < 4 →
      Yields (.portLpApply q) s fun t => t.g .LNK_PORT_CTRL_LP q = w.val ∧ t.portSt q = s.pkg.portSt q ∧
        (t.port q).txCtl = (s.pkg.port q).txCtl ++ [.ctl { src := s.pkg.part.pkgId, inst := (s.pkg.portOwner q).getD 0, body := .lpReq w.val }] ∧
        t.g .LNK_CAS_MSG_TX 0 = s.pkg.plus .LNK_CAS_MSG_TX 0 1 ∧ s.pkg.fieldsOutside t [(.LNK_PORT_CTRL_LP, q.val), (.LNK_CAS_MSG_TX, 0)]) ∧
    let x := s.pkg.port q
    let own := s.pkg.g .LNK_PORT_CTRL_LP q
    let busy := x.sched = true ∧ ∃ i, s.pkg.portOwner q = some i ∧ s.pkg.runState i = .running
    s.pkg.portSt q = .up → 0 < own → own < 3 → 0 < x.lpPeer → x.lpPeer < 3 →
      (busy → Yields (.lowpwrEntry q true) s fun t => t.g .LNK_PORT_STAT_LP_BLOCKED q = 1 ∧ t = { s.pkg with flds := t.flds } ∧
        s.pkg.fieldsOutside t [(.LNK_PORT_STAT_LP_BLOCKED, q.val)]) ∧
      (¬busy → x.exiting = false → x.replay = [] → x.txSch = [] → x.txCtl = [] → x.txSvc = [] → x.txMem = [] →
        Yields (.lowpwrEntry q true) s fun t => t.portSt q = .lowpwr ∧ t.g .LNK_PORT_STAT_LP_BLOCKED q = 0 ∧
          ∀ l ∈ portLanes q, t.g .LNK_LANE_CTRL_TGT l = min own x.lpPeer))

/-- Flits received on an UP port (R256, R259, R266, R348, R383). One in sequence is accepted: the expected SEQ and the counts advance, and its content is
taken: a SCHED payload is held for its steps, a SCHSYNC with the expected cycle and depth begins the next cycle and one with another cycle, depth or count
of flits takes the port DOWN, a LINK_SEND payload waits for a LINK_RECV, bytes for the reserved area are written, and an SVC flit is forwarded or
performed. One out of sequence changes nothing but a count, and a gap owes a NAK; BAD_FLIT takes such a flit, and one whose bits say nothing, by its image.
A Series 1 port finds every MEM flit bad (R283). An IDLE flit ends a silence; a bad flit is counted and owes a NAK. Flits sent and acknowledged (R256-R258,
R260, R262, R263, R271). With no replay to send and no LACK due, an UP port sends the first flit that is ready in the order SCHED, CTL, SVC, MEM: it takes
the next SEQ, a credit and a place in the replay buffer; with none ready it sends IDLE. A LACK goes when a NAK may or 32 flit periods would pass without
one, an alignment word in each 8,192nd period, PHASE in ALIGN. During a replay it sends what is to be resent. A LACK removes what it acknowledges and
returns credits; one with NAK, and a silence of acknowledgements, begin a replay. It says under which conditions these commands complete, and with what
next state: `flitSend`, `idleFlit`, `lack`, `sched`, `schsync`, `memFlit`, `svcFlit`, `badFlit`, `replayTimeout`. Where it rests on the model's choices,
they are those of log entries 33, 34, 35, 115, 154, 159, 169. -/
def Obligations.FlitsArriveAndLeave : Prop :=
  (∀ (q : Fin 32) (s : State), s.pkg.portSt q = .up →
    let x := s.pkg.port q
    let next := s.pkg.g .LNK_SEQ_RX_EXP q
    let taken := fun (v : Nat) (t : Pkg) => t.g .LNK_SEQ_RX_EXP q = s.pkg.plus .LNK_SEQ_RX_EXP q 1 ∧ t.g .LNK_RX_ACCEPT q = s.pkg.plus .LNK_RX_ACCEPT q 1 ∧
      t.g .LNK_VC_RCVD (vcKey q v) = s.pkg.plus .LNK_VC_RCVD (vcKey q v) 1
    let refused := fun (n : Nat) (t : Pkg) =>
      let d := (n + 4096 - next) % 4096
      t = { s.pkg with flds := t.flds, ports := t.ports } ∧ (3584 ≤ d → t.g .LNK_RX_DUP q = s.pkg.plus .LNK_RX_DUP q 1 ∧ s.pkg.fieldsOutside t [(.LNK_RX_DUP, q.val)]) ∧
      (d < 3584 → t.g .LNK_RX_GAP q = s.pkg.plus .LNK_RX_GAP q 1 ∧ (t.port q).nak = true ∧ s.pkg.fieldsOutside t [(.LNK_RX_GAP, q.val)])
    let bad := fun (t : Pkg) => t.g .LNK_RX_BAD q = s.pkg.plus .LNK_RX_BAD q 1 ∧ t.port q = { x with nak := true } ∧
      t = { s.pkg with flds := t.flds, ports := t.ports } ∧ s.pkg.fieldsOutside t [(.LNK_RX_BAD, q.val)]
    (∀ (n : BitVec 12) (w : BitVec 256), n.toNat ≠ next →
      Yields (.sched q n w) s (refused n.toNat) ∧ (∀ c d, Yields (.schsync q n c d) s (refused n.toNat)) ∧ Yields (.svcFlit q n w) s (refused n.toNat) ∧
      (s.pkg.strapped q = false → Yields (.memFlit q n w) s (refused n.toNat))) ∧
    (∀ (n : BitVec 12) (w : BitVec 256), s.pkg.strapped q = true → Yields (.memFlit q n w) s bad) ∧
    (∀ w : BitVec 288,
      (Flit.ofImage (s.pkg.strapped q) w.toNat = none → Yields (.badFlit (q, w)) s bad) ∧
      ∀ n f, Flit.ofImage (s.pkg.strapped q) w.toNat = some (n, f) →
        (f.vc.isSome = true → n ≠ next → Yields (.badFlit (q, w)) s (refused n)) ∧ (f.vc = none ∨ n = next → Becomes (.badFlit (q, w)) s s.pkg)) ∧
    (∀ (n : BitVec 12) (w : BitVec 256) (i : Fin 16), n.toNat = next → s.pkg.portOwner q = some i.val →
      let base := s.pkg.absStep i (x.rxMcc - 1) 0 + modeK (s.pkg.mode q) * x.rxCnt
      s.pkg.absStep i (s.pkg.position i).1 (s.pkg.position i).2 ≤ base →
      Yields (.sched q n w) s fun t => taken 0 t ∧ (base, w.toNat) ∈ (t.port q).held ∧ (t.port q).rxCnt = x.rxCnt + 1) ∧
    (∀ (n : BitVec 12) (c : BitVec 64) (d : BitVec 16) (i : Fin 16), n.toNat = next → s.pkg.portOwner q = some i.val →
      (c.toNat = x.rxMcc → d.toNat = s.pkg.depth i → (x.rxOn = true → x.rxCnt = s.pkg.depth i / modeK (s.pkg.mode q)) →
        Yields (.schsync q n c d) s fun t => taken 0 t ∧ (t.port q).rxOn = true ∧ (t.port q).rxCnt = 0 ∧ (t.port q).rxMcc = x.rxMcc + 1 ∧ t.portSt q = .up) ∧
      (d.toNat ≠ s.pkg.depth i ∨ c.toNat ≠ x.rxMcc ∨ x.rxOn = true ∧ x.rxCnt ≠ s.pkg.depth i / modeK (s.pkg.mode q) →
        Yields (.schsync q n c d) s fun t => t.g .LNK_PORT_STAT_SCHED_ERR q = 1 ∧ t.portSt q = .down ∧
          (s.pkg.runState i = .running → t.runState i = .faulted ∧ t.g .ARY_RUN_STAT_STOP_CAUSE i = 7))) ∧
    (∀ (n : BitVec 12) (w : BitVec 256), n.toNat = next →
      (s.pkg.strapped q = false → w.toNat % 16 = 2 → (s.pkg.recvs.any fun r => r.port == q.val) = false →
        Yields (.memFlit q n w) s fun t => taken 1 t ∧ (t.port q).rxMem = x.rxMem ++ [w.toNat] ∧ t.host = s.pkg.host) ∧
      (∀ r, s.pkg.strapped q = false → w.toNat % 16 = 2 → (s.pkg.recvs.find? fun r => r.port == q.val) = some r → r.fail = none →
        (x.rxMem.all fun y => y % 16 != 2) = true → r.got + bits w.toNat 8 8 ≤ r.len →
        Yields (.memFlit q n w) s fun t => taken 1 t ∧ written s.pkg.host t.host (r.addr + r.got) (leBytes (w.toNat / 2 ^ 16) (bits w.toNat 8 8))) ∧
      (let a := bits w.toNat 16 64
       let l := bits w.toNat 8 8
       s.pkg.strapped q = false → w.toNat % 16 = 3 → (x.rxMem.all fun y => y % 16 != 3) = true →
        Yields (.memFlit q n w) s fun t => taken 1 t ∧ (a < 8 * segBytes → written s.pkg.que.hbm t.que.hbm a (leBytes (w.toNat / 2 ^ 80) l)) ∧
          (8 * segBytes ≤ a → t.que.hbm = s.pkg.que.hbm)) ∧
      (let op := w.toNat % 16
       let dst := if op = 0 ∨ op = 1 then bits w.toNat 28 6 else bits w.toNat 22 6
       (bits w.toNat 112 16 ≠ headerChk w.toNat → Yields (.svcFlit q n w) s fun t => taken 2 t ∧
         t.g .SVC_UE_CNT (q.val / 4) = min (s.pkg.g .SVC_UE_CNT (q.val / 4) + 1) (2 ^ Fld.width .SVC_UE_CNT - 1)) ∧
       (∀ p, bits w.toNat 112 16 = headerChk w.toNat → dst ≠ s.pkg.part.pkgId → s.pkg.route dst = some p → Yields (.svcFlit q n w) s fun t => taken 2 t ∧
         (t.port p).txSvc = (s.pkg.port p).txSvc ++ [.svc w.toNat]) ∧
       (∀ tag, bits w.toNat 112 16 = headerChk w.toNat → dst = s.pkg.part.pkgId → op < 2 → s.pkg.freeTag (0x60 + q.val / 4) = some tag →
         Yields (.svcFlit q n w) s fun t => ∃ r ∈ t.svc.rsp, r.init = 0x60 + q.val / 4 ∧ r.tag = tag ∧ r.num = s.pkg.svc.num))) ∧
    (x.silent = true → Becomes (.idleFlit q) s (s.pkg.updPort q fun x => { x with silent := false })) ∧
    (x.silent = false → Becomes (.idleFlit q) s s.pkg)) ∧
  (∀ (q : Fin 32) (s : State),
    let x := { s.pkg.port q with period := (s.pkg.port q).period + 1 }
    let s1 := s.pkg.strapped q
    let used := x.replay.length
    let quiet := fun (t : Pkg) => (t.port q).replay = x.replay ∧ t = { s.pkg with ports := t.ports }
    let ready := [(0, x.txSch), (3, x.txCtl), (2, x.txSvc), (1, if s1 then [] else x.txMem)].find? fun e => !e.2.isEmpty && s.pkg.canSend q e.1
    (s.pkg.portSt q = .up ∨ s.pkg.portSt q = .align → x.period = 8192 →
      Yields (.flitSend q) s fun t => quiet t ∧ (t.port q).wire = none ∧ (t.port q).period = 0) ∧
    (s.pkg.portSt q = .align → x.period ≠ 8192 → Yields (.flitSend q) s fun t => quiet t ∧
      (t.port q).wire = some ((Flit.phase (s.pkg.g .LNK_STEP_CNT 0) x.phLast x.phAt).image s1 0)) ∧
    (s.pkg.portSt q = .up → x.period ≠ 8192 →
      (0 < x.resend → x.resend ≤ used →
        Yields (.flitSend q) s fun t => (t.port q).wire = (x.replay[used - x.resend]?).map (fun e => e.body.image s1 e.seq) ∧
          (t.port q).resend = x.resend - 1 ∧ (t.port q).replay = x.replay ∧
          t.g .LNK_RPL_FLITS q = s.pkg.plus .LNK_RPL_FLITS q 1 ∧ s.pkg.fieldsOutside t [(.LNK_RPL_FLITS, q.val)]) ∧
      (x.resend = 0 → x.nak = true → x.nakAge = 64 → Yields (.flitSend q) s fun t => quiet t ∧
        (t.port q).wire = some ((s.pkg.lackNow q true).image s1 0) ∧ (t.port q).nak = false ∧ (t.port q).nakAge = 0 ∧ (t.port q).since = 0) ∧
      (x.resend = 0 → ¬(x.nak = true ∧ x.nakAge = 64) → x.lackTime = true → Yields (.flitSend q) s fun t => quiet t ∧
        (t.port q).wire = some ((s.pkg.lackNow q false).image s1 0) ∧ (t.port q).since = 0) ∧
      (x.resend = 0 → ¬(x.nak = true ∧ x.nakAge = 64) → x.lackTime = false →
        (∀ v f l, ready = some (v, f :: l) →
          Yields (.flitSend q) s fun t => (t.port q).wire = some (f.image s1 (s.pkg.g .LNK_SEQ_TX_NEXT q)) ∧
            (t.port q).replay = x.replay ++ [{ seq := s.pkg.g .LNK_SEQ_TX_NEXT q, body := f }] ∧
            t.g .LNK_SEQ_TX_NEXT q = s.pkg.plus .LNK_SEQ_TX_NEXT q 1 ∧ t.g .LNK_TX_NEW q = s.pkg.plus .LNK_TX_NEW q 1 ∧
            t.g .LNK_VC_CRD_AVAIL (vcKey q v) = s.pkg.g .LNK_VC_CRD_AVAIL (vcKey q v) - 1 ∧
            t.g .LNK_VC_SENT (vcKey q v) = s.pkg.plus .LNK_VC_SENT (vcKey q v) 1 ∧ t = { s.pkg with flds := t.flds, ports := t.ports }) ∧
        (ready = none → Yields (.flitSend q) s fun t => quiet t ∧
          (x.lackDue = true → (t.port q).wire = some ((s.pkg.lackNow q false).image s1 0)) ∧
          (x.lackDue = false → (t.port q).wire = some (Flit.idle.image s1 0))))) ∧
    (∀ (ack : BitVec 12) (freed : List (BitVec 16)) (n : Nat), s.pkg.portSt q = .up → x.rebase = false → x.closing = false → n ≤ used → used < 4096 →
      (ack.toNat + 1 + used) % 4096 = (s.pkg.g .LNK_SEQ_TX_NEXT q + n) % 4096 →
      (Yields (.lack q ack false freed) s fun t => (t.port q).replay = x.replay.drop n ∧ t.g .LNK_ACKED q = s.pkg.plus .LNK_ACKED q n ∧
        t.g .LNK_RPL_USED q = (used - n) % 2 ^ Fld.width .LNK_RPL_USED ∧
        ∀ v < 4, t.g .LNK_VC_CRD_AVAIL (vcKey q v) = s.pkg.plus .LNK_VC_CRD_AVAIL (vcKey q v) (dist16 ((freed.map BitVec.toNat).getD v 0) (x.base.getD v 0))) ∧
      (n < used → Yields (.lack q ack true freed) s fun t => (t.port q).replay = x.replay.drop n ∧ (t.port q).resend = used - n ∧
        t.g .LNK_RPL_EVT q = s.pkg.plus .LNK_RPL_EVT q 1)) ∧
    (s.pkg.portSt q = .up → 0 < used → Yields (.replayTimeout q) s fun t => (t.port q).resend = used ∧ t.g .LNK_RPL_EVT q = s.pkg.plus .LNK_RPL_EVT q 1 ∧
      t = { s.pkg with flds := t.flds, ports := t.ports } ∧ s.pkg.fieldsOutside t [(.LNK_RPL_EVT, q.val)]) ∧
    (s.pkg.portSt q ≠ .up ∨ used = 0 → Becomes (.replayTimeout q) s s.pkg))

/-! ## The cascade -/

/-- Messages up to the master, received in sequence on an UP port (R192, R276-R280). Each marks its sender alive. READY is recorded, and with every listed
package in, the master commits; FAIL fails its load with code 13; COMMIT_ACK is no longer awaited; START_ACK counts, and one that refuses ends the
exchange; an EVENT that asks for a stop of a RUNNING cascade sets the common stop cycle, one of a bad frame freezes the own part. A slave passes each on
unchanged. It says under which conditions these commands complete, and with what next state: `ready`, `fail`, `commitAck`, `startAck`, `casEvent`,
`heartbeat`. Where it rests on the model's choices, they are those of log entries 38, 42, 43, 163, 165. -/
def Obligations.MasterHearsItsPackages : Prop :=
  ∀ (q : Fin 32) (n : BitVec 12) (src dst : Fin 64) (bcast : Bool) (s : State), s.pkg.portSt q = .up → n.toNat = s.pkg.g .LNK_SEQ_RX_EXP q →
    let heard := fun (t : Pkg) => t.g .LNK_SEQ_RX_EXP q = s.pkg.plus .LNK_SEQ_RX_EXP q 1 ∧ bit (t.g .LNK_CAS_ALIVE 0) src = true
    (s.pkg.isMaster = true →
      (∀ (uid : BitVec 64) (mask : BitVec 16) (blow : Option (BitVec 7)), s.pkg.load.active = true →
        (s.pkg.cas.ready.any fun e => e.1 == src.val && e.2.1 != uid.toNat) = false →
        let l := (s.pkg.cas.ready.filter fun e => e.1 != src.val) ++ [(src.val, uid.toNat, mask.toNat)]
        (s.pkg.waiting = false → Yields (.ready q n src dst bcast uid mask blow) s fun t => heard t ∧ t.cas.ready = l ∧ t.load = s.pkg.load) ∧
        (s.pkg.waiting = true → (∀ p ∈ s.pkg.listed, p ∈ l.map (·.1)) →
          ∃ p g, exec (.ready q n src dst bcast uid mask blow) s = .next { s with pkg := p, fuses := { s.fuses with gen := g } } ∧ s.fuses.gen ≤ g ∧
            p.g .CFG_LOAD_STAT_PHASE 0 = 6 ∧ p.load.active = false ∧
            (s.pkg.load.secs = [] → p.cas.await = s.pkg.listed.filter (· != s.pkg.part.pkgId)))) ∧
      (∀ code, s.pkg.load.active = true → Yields (.fail q n src dst bcast code) s fun t => heard t ∧ t.loadFailed 13) ∧
      Yields (.commitAck q n src dst bcast) s (fun t => heard t ∧ t.cas = { s.pkg.cas with await := s.pkg.cas.await.filter (· != src.val) }) ∧
      (∀ (i : Fin 16) (r : StartReq), s.pkg.startReq i = some r →
        Yields (.startAck q n src dst bcast i 0) s (fun t => heard t ∧ ∃ r', t.startReq i = some r' ∧ src.val ∈ r'.acks ∧ ∀ a ∈ r.acks, a ∈ r'.acks) ∧
        ∀ code : BitVec 4, code ≠ 0 → Yields (.startAck q n src dst bcast i code) s fun t => heard t ∧ t.startReq i = none ∧
          t.g .ARY_ERR_START_REFUSED i = 1 ∧ (t.inst i).startAt = none) ∧
      (∀ (i : Fin 16) (cause : BitVec 4) (mcc : BitVec 64), cause = 3 ∨ cause = 4 ∨ cause = 5 ∨ cause = 14 → s.pkg.runState i = .running →
        s.pkg.g .ARY_MCC i + s.pkg.stopLead i < 2 ^ 64 →
        Yields (.casEvent q n src dst bcast i cause mcc) s fun t => heard t ∧ t.stopAt i = s.pkg.g .ARY_MCC i + s.pkg.stopLead i ∧
          t.g .ARY_CTRL_STOP_AT_EN i = 1 ∧ (t.inst i).cascCause = some cause.toNat ∧ t.runState i = .running) ∧
      (∀ (i : Fin 16) (mcc : BitVec 64), s.pkg.runs i = true → Yields (.casEvent q n src dst bcast i 6 mcc) s fun t => heard t ∧
        t.runState i = .frozen ∧ t.g .ARY_RUN_STAT_STOP_CAUSE i = 6) ∧
      Yields (.heartbeat q n src dst bcast) s (fun t => heard t ∧ t = { s.pkg with flds := t.flds, ports := t.ports })) ∧
    ∀ p, s.pkg.isMaster = false → s.pkg.upPort = some p → Yields (.heartbeat q n src dst bcast) s fun t =>
      .ctl { src := src.val, dst := dst.val, bcast := bcast, body := .heartbeat } ∈ (t.port p).txCtl

/-- Messages down to a slave, and between neighbours, received in sequence on an UP port and meant for this package (R192, R213, R264, R275, R278-R280). COMMIT
commits a load that waits, ABORT fails one. CAS_START sets the count to start at and answers, or refuses; START_CANCEL takes it back. CAS_STOP_AT sets the
common stop cycle, and one already reached faults a RUNNING instance. FREEZE_NOW freezes, HALT and FAULT_NOTE fault a cascade instance. FLUSH discards
scheduled entries or ends the own flush; LP_REQ is noted. It says under which conditions these commands complete, and with what next state: `commit`,
`abort`, `casStart`, `startCancel`, `casStopAt`, `freezeNow`, `halt`, `flush`, `lpReq`, `faultNote`. Where it rests on the model's choices, they are those
of log entries 38, 43. -/
def Obligations.SlavesObey : Prop :=
  ∀ (q : Fin 32) (n : BitVec 12) (src dst : Fin 64) (bcast : Bool) (i : Fin 16) (s : State), s.pkg.portSt q = .up → n.toNat = s.pkg.g .LNK_SEQ_RX_EXP q →
    let counted := fun (t : Pkg) => t.g .LNK_SEQ_RX_EXP q = s.pkg.plus .LNK_SEQ_RX_EXP q 1 ∧ t.g .LNK_CAS_MSG_RX 0 = s.pkg.plus .LNK_CAS_MSG_RX 0 1
    let stopped := fun (c : Nat) (t : Pkg) => t.runState i = .faulted ∧ t.g .ARY_RUN_STAT_STOP_CAUSE i = c
    let running := s.pkg.runState i = .running
    (bcast = true ∨ dst.val = s.pkg.part.pkgId →
      (∀ blow, s.pkg.waiting = true → s.pkg.isMaster = false →
        ∃ p g, exec (.commit q n src dst bcast blow) s = .next { s with pkg := p, fuses := { s.fuses with gen := g } } ∧ s.fuses.gen ≤ g ∧
          p.g .CFG_LOAD_STAT_PHASE 0 = 6 ∧ p.g .CFG_LOAD_STAT_DONE 0 = 1 ∧ p.load.active = false) ∧
      (s.pkg.load.active = true → Yields (.abort q n src dst bcast) s fun t => t.loadFailed (if bcast then 13 else 12)) ∧
      (s.pkg.load.active = false → Yields (.abort q n src dst bcast) s fun t => counted t ∧ t.load = s.pkg.load) ∧
      (∀ (c : BitVec 64) (resume : Bool) (told : BitVec 64),
        (s.pkg.startCode i resume told.toNat = 0 → Yields (.casStart q n src dst bcast i c resume told) s fun t => counted t ∧ (t.inst i).startAt = some c.toNat ∧
          ∀ p, s.pkg.isMaster = false → s.pkg.upPort = some p → .ctl { src := s.pkg.part.pkgId, inst := i.val, body := .startAck 0 } ∈ (t.port p).txCtl) ∧
        (s.pkg.startCode i resume told.toNat ≠ 0 → Yields (.casStart q n src dst bcast i c resume told) s fun t => counted t ∧
          t.g .ARY_ERR_START_REFUSED i = 1 ∧ (t.inst i).startAt = (s.pkg.inst i).startAt)) ∧
      Yields (.startCancel q n src dst bcast i) s (fun t => counted t ∧ t.inst i = { s.pkg.inst i with startAt := none }) ∧
      (∀ (c : BitVec 64) (cause : BitVec 4),
        (s.pkg.g .ARY_MCC i < c.toNat → Yields (.casStopAt q n src dst bcast i c cause) s fun t => counted t ∧ t.stopAt i = c.toNat ∧
          t.g .ARY_CTRL_STOP_AT_EN i = 1 ∧ (t.inst i).cascCause = some cause.toNat) ∧
        (c.toNat ≤ s.pkg.g .ARY_MCC i → running → Yields (.casStopAt q n src dst bcast i c cause) s (stopped 11))) ∧
      (s.pkg.runs i = true → Yields (.freezeNow q n src dst bcast i 6) s fun t => counted t ∧ t.runState i = .frozen ∧ t.g .ARY_RUN_STAT_STOP_CAUSE i = 6) ∧
      (∀ p, running → (s.pkg.inst i).desc.cascade = true → Yields (.halt q n src dst bcast i p) s (stopped 8))) ∧
    (s.pkg.portOwner q = some i.val → running → (s.pkg.inst i).desc.cascade = true → Yields (.faultNote q n src dst bcast i) s (stopped 8)) ∧
    Yields (.flush q n src dst bcast i true) s (fun t => counted t ∧ (t.port q).flush = false ∧ (t.port q).held = (s.pkg.port q).held) ∧
    Yields (.flush q n src dst bcast i false) s (fun t => counted t ∧ (t.port q).held = [] ∧ t.g .LNK_VC_OCC (vcKey q 0) = 0 ∧
      .ctl { src := s.pkg.part.pkgId, inst := (s.pkg.portOwner q).getD 0, body := .flush true } ∈ (t.port q).txCtl) ∧
    ∀ l : Fin 4, Yields (.lpReq q n src dst bcast i l) s fun t => counted t ∧ (t.port q).lpPeer = l.val

/-- The times of a cascade (R278, R279). A slave with a cascade instance sends HEARTBEAT. A package silent for too long is recorded lost on the master, and the
RUNNING cascade instances it holds part of are FAULTED with PEER_LOST. Of the exchanges that lack an answer the one whose deadline comes first ends then,
refused; at the start count a package enters RUNNING, the master with every answer in. It says under which conditions these commands complete, and with
what next state: `heartbeatSend`, `peerTimeout`, `startAckDeadline`, `cascadeStartCount`. Where it rests on the model's choices, they are those of log
entries 42, 165. -/
def Obligations.CascadeTimesAct : Prop :=
  ∀ (i : Fin 16) (pads : List (Fin 1024 × Fin 3)) (s : State),
    (∀ p, s.pkg.isMaster = false → s.pkg.masterFailed = false → s.pkg.upPort = some p → (s.pkg.inst i).desc.cascade = true → s.pkg.runState i ≠ .unloaded →
      Yields .heartbeatSend s fun t => (t.port p).txCtl = (s.pkg.port p).txCtl ++ [.ctl { src := s.pkg.part.pkgId, body := .heartbeat }] ∧
        t = { s.pkg with flds := t.flds, ports := t.ports } ∧ s.pkg.fieldsOutside t [(.LNK_CAS_MSG_TX, 0)]) ∧
    (s.pkg.isMaster = true → Becomes .heartbeatSend s s.pkg) ∧
    (∀ n : Fin 64, s.pkg.isMaster = true → bit (s.pkg.g .LNK_CAS_ALIVE 0) n = true →
      Yields (.peerTimeout n) s fun t => bit (t.g .LNK_CAS_ALIVE 0) n = false ∧
        (s.pkg.g .LNK_CAS_LOST_VALID 0 = 0 → t.g .LNK_CAS_LOST_PKG 0 = n.val ∧ t.g .LNK_CAS_LOST_VALID 0 = 1) ∧
        ((s.pkg.slavesOf i).contains n.val = true → s.pkg.runState i = .running → (s.pkg.inst i).desc.cascade = true →
          t.runState i = .faulted ∧ t.g .ARY_RUN_STAT_STOP_CAUSE i = 8)) ∧
    (∀ n : Fin 64, s.pkg.isMaster = false ∨ bit (s.pkg.g .LNK_CAS_ALIVE 0) n = false → Becomes (.peerTimeout n) s s.pkg) ∧
    (∀ r, s.pkg.lateStart = some r → r.inst = i.val → Yields .startAckDeadline s fun t => t.startReq i = none ∧
      t.g .ARY_ERR_START_REFUSED i = 1 ∧ (t.inst i).startAt = none ∧ t.runState i = s.pkg.runState i) ∧
    (s.pkg.lateStart = none → Becomes .startAckDeadline s s.pkg) ∧
    ∀ c, (s.pkg.inst i).startAt = some c → s.pkg.runState i = .loaded → s.pkg.resetting i = false → s.pkg.patching i = false →
      s.pkg.relocating i = false → s.pkg.g .TRN_INST_STAT_BAD i = 0 → s.pkg.isMaster = false ∨ s.pkg.allAcked i = true →
      Yields (.cascadeStartCount i pads) s fun t => t.runState i = .running ∧ (t.inst i).row = 0 ∧ (t.inst i).step = 0 ∧ (t.inst i).startAt = none ∧
        t.g .LNK_STEP_CNT 0 = max c (s.pkg.g .LNK_STEP_CNT 0) % 2 ^ 64

/-! ## Trace -/

/-- The capture (R294-R298, R307, R308), with no watchpoint enabled where a register is written. ARM of a drained capture that is not running takes effect at
once while the traced instance stands at a boundary, else waits for the next one; it waits for the drain otherwise. STOP at a boundary ends the capture
with REASON STOP, else it waits. Neither has another effect without a traced instance, nor ARM on a capture that runs, nor STOP on one that does not. SNAP
captures the engines' counters. A FIFO drains into its ring; the host's read pointer moves within a STREAM ring and nowhere else; the AUTO timeout marks an
armed capture. It says under which conditions these commands complete, and with what next state: `whyArm`, `whyStop`, `whySnap`, `deferredArm`,
`fifoDrain`, `ringRptrWrite`, `autoTriggerTimeout`. Where it rests on the model's choices, they are those of log entries 39, 65, 166, 168. -/
def Obligations.CaptureIsControlled : Prop :=
  ∀ (init : Fin 128) (s : State),
    (s.pkg.unwatched = true →
      (∀ i, s.pkg.traced = some i → s.pkg.capturing = false →
        (s.pkg.drained = true → s.pkg.atBoundary i = true → Yields (.whyArm init) s fun t => t.g .WHY_CAP_STAT_STATE 0 = 1 ∧ t.g .RNT_STAT_ARMED 0 = 1 ∧
          t.g .WHY_ARM_MCC 0 = s.pkg.g .ARY_MCC i ∧ t.g .RNT_STAT_STATE 0 = 0 ∧ t.g .WHY_CAP_STAT_SNAP_VALID 0 = 0 ∧
          (∀ d, s.pkg.engOwned d = true → d < s.pkg.part.model.dies → t.whey d = {} ∧ t.g .WHY_BYTES_PROD d = 0) ∧ s.pkg.sameBytes t) ∧
        (s.pkg.drained = true → s.pkg.atBoundary i = false → Becomes (.whyArm init) s { s.pkg with trc := { s.pkg.trc with pendArm := true, deferArm := false } }) ∧
        (s.pkg.drained = false → Becomes (.whyArm init) s { s.pkg with trc := { s.pkg.trc with deferArm := true } })) ∧
      (∀ i, s.pkg.traced = some i → s.pkg.capturing = true →
        (s.pkg.atBoundary i = true → Yields (.whyStop init) s fun t => t.g .WHY_CAP_STAT_STATE 0 = 3 ∧ t.g .WHY_CAP_STAT_REASON 0 = 3 ∧ t.g .RNT_STAT_ARMED 0 = 0) ∧
        (s.pkg.atBoundary i = false → Becomes (.whyStop init) s { s.pkg with trc := { s.pkg.trc with pendStop := true } })) ∧
      (s.pkg.traced = none ∨ s.pkg.capturing = true → Becomes (.whyArm init) s (s.pkg.p .WHY_CAP_STAT_CMD_IGNORED 0 1)) ∧
      (s.pkg.traced = none ∨ s.pkg.capturing = false → Becomes (.whyStop init) s (s.pkg.p .WHY_CAP_STAT_CMD_IGNORED 0 1)) ∧
      Yields (.whySnap init) s (fun t => (∀ d < s.pkg.part.model.dies, ∀ f ∈ wheySnapFields, t.gs f d = s.pkg.g f d) ∧ t.g .WHY_CAP_STAT_SNAP_VALID 0 = 1 ∧
        t = { s.pkg with flds := t.flds, snaps := t.snaps } ∧ s.pkg.fieldsOutside t [(.WHY_CAP_STAT_SNAP_VALID, 0)]) ∧
      ∀ (d : Fin 8) (v : BitVec 64), d.val < s.pkg.part.model.dies →
        let len := s.pkg.ringLen d
        let r := s.pkg.g .WHY_RING_RPTR d
        (s.pkg.g .WHY_SINK_CFG_RING_MODE d = 2 → len ≠ 0 → v.toNat < len → (v.toNat + len - r) % len ≤ (s.pkg.g .WHY_RING_WPTR d + len - r) % len →
          (s.pkg.g .WHY_SINK_CFG_SINK d ≠ 2 → Becomes (.ringRptrWrite d init v) s (s.pkg.p .WHY_RING_RPTR d v.toNat)) ∧
          Yields (.ringRptrWrite d init v) s fun t => t.g .WHY_RING_RPTR d = v.toNat) ∧
        (s.pkg.g .WHY_SINK_CFG_RING_MODE d ≠ 2 ∨ len = 0 → Yields (.ringRptrWrite d init v) s fun t => s.pkg.refused t .WHY d 4 init) ∧
        (s.pkg.g .WHY_SINK_CFG_RING_MODE d = 2 → len ≠ 0 → len ≤ v.toNat → Yields (.ringRptrWrite d init v) s fun t => s.pkg.refused t .WHY d 5 init)) ∧
    (s.pkg.trc.deferArm = true → s.pkg.drained = true → s.pkg.tracedStopped = false →
      Becomes .deferredArm s { s.pkg with trc := { s.pkg.trc with pendArm := true, deferArm := false } }) ∧
    (s.pkg.trc.deferArm = true → s.pkg.drained = true → s.pkg.tracedStopped = true → Yields .deferredArm s fun t => t.g .WHY_CAP_STAT_STATE 0 = 1 ∧
      t.g .RNT_STAT_ARMED 0 = 1 ∧ t.trc.deferArm = false) ∧
    (s.pkg.trc.deferArm = false ∨ s.pkg.drained = false → Becomes .deferredArm s s.pkg) ∧
    (∀ (d : Fin 8) (n : Nat), s.pkg.engOwned d = true → s.pkg.g .WHY_SINK_CFG_SINK d = 0 → s.pkg.g .WHY_SINK_CFG_RING_SEGS d ≠ 0 → s.pkg.capturing = false →
      s.pkg.g .WHY_RING_WPTR d < s.pkg.ringLen d →
      let k := min n (min (s.pkg.whey d).fifo.length (s.pkg.ringRoom d))
      Yields (.fifoDrain d n) s fun t => (t.whey d).fifo = (s.pkg.whey d).fifo.drop k ∧ t.g .WHY_FIFO_LEVEL d = s.pkg.g .WHY_FIFO_LEVEL d - k ∧
        t.g .WHY_BYTES_WR d = s.pkg.plus .WHY_BYTES_WR d k ∧ t.g .WHY_RING_WPTR d = (s.pkg.g .WHY_RING_WPTR d + k) % s.pkg.ringLen d ∧
        t.g .WHY_BYTES_LOST d = s.pkg.g .WHY_BYTES_LOST d) ∧
    (∀ (d : Fin 8) (n : Nat), s.pkg.hasStream d = false → Becomes (.fifoDrain d n) s s.pkg) ∧
    (∀ (d : Fin 8) (n : Nat), s.pkg.engOwned d = true → s.pkg.g .WHY_SINK_CFG_SINK d = 1 → s.pkg.capturing = false →
      let q := s.pkg.g .WHY_SINK_CFG_PORT d
      let w := s.pkg.whey d
      s.pkg.portSt q = .up → 0 < n → n ≤ 30 → Yields (.fifoDrain d n) s fun t =>
        t.whey d = { w with unack := w.unack + min n (w.fifo.length - w.unack) } ∧ t.flds = s.pkg.flds ∧
        (t.port q).txMem = (s.pkg.port q).txMem ++ if w.fifo.length ≤ w.unack then [] else [.mem (wheyFlit d ((w.fifo.drop w.unack).take n))]) ∧
    (s.pkg.g .WHY_CAP_STAT_STATE 0 = 1 → s.pkg.g .RNT_CTL 0 = 1 → Becomes .autoTriggerTimeout s { s.pkg with trc := { s.pkg.trc with autoDue := true } }) ∧
    (s.pkg.g .WHY_CAP_STAT_STATE 0 ≠ 1 ∨ s.pkg.g .RNT_CTL 0 = 0 → Becomes .autoTriggerTimeout s s.pkg)

/-! ## Word units -/

/-- Division by a word unit (R107): the fault conditions of DIV0 and DIVS and what a fault leaves, one step without fault, the divide hold, and the quotient
and remainder that DIV0 and 15 DIVS leave. -/
def Obligations.WordUnitDivides : Prop :=
  ∀ (u : WordUnit) (n c in0 in1 edge : Nat), n < 2 → c ≤ 15 → u.w.at c < 2 ^ 16 →
    let d := u.w.at c
    let div0 := (0x38 + n) * 2 ^ 42 + c * 2 ^ 24
    let divs := (0x3A + n) * 2 ^ 42 + c * 2 ^ 24
    let after := fun (u : WordUnit) (w : Nat) => (u.step w in0 in1 edge).1
    let excs := fun (w : Nat) => (u.step w in0 in1 edge).2
    let hold := fun (u : WordUnit) => if n = 0 then u.dh0 else u.dh1
    let faulted := fun (w : Nat) => (after u w).acc n = 0xFFFF ∧ hold (after u w) = true ∧ excs w = [(.dvf, 0x30 + n)]
    let T := 2 * bits (u.acc n) 0 32
    let divided := fun (w : Nat) => hold (after u w) = false ∧ excs w = [] ∧
      (after u w).acc n = (if d ≤ bits T 16 17 then T - d * 2 ^ 16 + 1 else T) % 2 ^ 32
    let writers := [0x20 + n, 0x22 + n, 0x24 + n, 0x26 + n, 0x28 + n, 0x2A, 0x2B, 0x2C, 0x2D, 0x2E + n, 0x30 + n, 0x32 + n, 0x36 + n, 0x3C + n]
    (d = 0 ∨ d ≤ bits (u.acc n) 16 16 → faulted div0) ∧
    (d ≠ 0 → bits (u.acc n) 16 16 < d → divided div0) ∧
    (hold u = true → (after u divs).acc n = u.acc n ∧ hold (after u divs) = true ∧ excs divs = []) ∧
    (hold u = false → d = 0 → faulted divs) ∧
    (hold u = false → d ≠ 0 → divided divs) ∧
    (∀ w, (wIns w).opc ∈ writers → codesOk (wIns w) = true → predHolds (wIns w) edge in1 = true → hold (after u w) = false) ∧
    (bits (u.acc n) 16 16 < d →
      let z := (List.replicate 15 divs).foldl after (after u div0)
      bits (z.acc n) 0 16 = bits (u.acc n) 0 32 / d ∧ bits (z.acc n) 16 16 = bits (u.acc n) 0 32 % d ∧ bits (z.acc n) 32 8 = 0 ∧ hold z = false) ∧
    (d ≤ bits (u.acc n) 16 16 →
      let z := (List.replicate 15 divs).foldl after (after u div0)
      z.acc n = 0xFFFF ∧ hold z = true)

/-! ## Registers -/

/-- REGISTER_WRITE and ALIAS_WRITE (R317, R322-R326), with no watchpoint enabled and the register's unit not draining. A word written to a register without
rules of its own gives every RW field its bits and clears the W1C fields' bits that are 1; an RWB field keeps the value as last written; RO fields stay,
and so does everything outside the register. A write of a register that is read only, an access that is not a whole aligned word, and an address without a
register are refused and recorded. A write through the bit-alias window changes one bit of a register whose fields are all RW; on a read-only bit it does
nothing. It says under which conditions these commands complete, and with what next state: `registerWrite`, `aliasWrite`. Where it rests on the model's
choices, they are those of log entries 72, 73, 99. -/
def Obligations.RegisterWritesAct : Prop :=
  ∀ (init : Fin 128) (d : Fin 8) (o : Nat) (w : BitVec 32) (s : State) (b : Blk) (kind : Slot) (base idx : Nat) (r : RegSpec),
    s.pkg.unwatched = true → d.val < s.pkg.part.model.dies → o < regSpace → slotAt o = some (b, kind, base) →
    let write := fun (o : Nat) (be : Option Nat) => Instr.registerWrite init none (BitVec.ofNat 40 (d * 2 ^ 37 + o)) [w] be
    let plain := ∀ (u : Pkg) (n k v x : Nat), u.regAct n r k v x = .inr (u.writeFields r k v x)
    let value := fun (f : FieldSpec) => bits w.toNat f.lo (f.hi - f.lo + 1)
    let loc := slotLoc b kind d (o / 4 * 4 - base)
    (o % 4 = 0 → loc = .reg r idx false → s.pkg.regGuard none (r.unit idx) = none →
      (r.fields.any FieldSpec.writable = false → Yields (write o none) s fun t => s.pkg.refused t b d 3 init) ∧
      (r.fields.any FieldSpec.writable = true → plain → r.reg ≠ .TIM_ADJ → r.wide = false → Yields (write o none) s fun t =>
        (∀ f ∈ r.fields, ∀ x, f.fld = some x →
          (f.acc = .RW → t.g x (f.index idx) = value f) ∧
          (f.acc = .W1C → t.g x (f.index idx) = s.pkg.g x (f.index idx) - (s.pkg.g x (f.index idx) &&& value f)) ∧
          (f.acc = .RO → t.g x (f.index idx) = s.pkg.g x (f.index idx)) ∧
          (f.acc = .RWB → t.lastWritten x (f.index idx) = value f)) ∧
        ((∀ f ∈ r.fields, f.acc ≠ .RWB) → s.pkg.onlyFields t (r.fields.filterMap fun f => f.fld.map fun x => (x, f.index idx)))) ∧
      (plain → r.reg ≠ .TIM_ADJ → r.wide = false →
        (∀ f ∈ r.fields, f.acc = .RW ∧ ∃ x, f.fld = some x ∧ ∀ (u : Pkg) (fu : Fuses) (k : Nat), u.view fu x k = u.g x k) →
        ∀ (a : Fin 16777216) (n : Fin 32), o = 4 * a →
          (∀ f ∈ r.fields, ∀ x, f.fld = some x → f.lo ≤ n.val → n.val ≤ f.hi →
            Yields (.aliasWrite init none d a n w) s fun t => s.pkg.onlyFields t [(x, f.index idx)] ∧
              ∀ j, bit (t.g x (f.index idx)) j = if j = n.val - f.lo then bit w.toNat 0 else bit (s.pkg.g x (f.index idx)) j) ∧
          (r.fields ≠ [] → (∀ f ∈ r.fields, n.val < f.lo ∨ f.hi < n.val) → Becomes (.aliasWrite init none d a n w) s s.pkg))) ∧
    (loc = .reg r idx false → o % 4 ≠ 0 → Yields (write o none) s fun t => s.pkg.refused t b d 2 init) ∧
    (loc = .reg r idx false → ∀ be, be % 16 ≠ 15 → Yields (write o (some be)) s fun t => s.pkg.refused t b d 2 init) ∧
    (loc = .bad → Yields (write o none) s fun t => s.pkg.refused t b d 1 init) ∧
    (∀ o', o' < regSpace → slotAt o' = none → Yields (write o' none) s fun t => s.pkg.refused t .SVC d 1 init) ∧
    ∀ d' : Fin 8, s.pkg.part.model.dies ≤ d'.val →
      Yields (.registerWrite init none (BitVec.ofNat 40 (d' * 2 ^ 37 + o)) [w] none) s fun t => s.pkg.refused t .SVC 0 1 init

/-! ## The commands of the mailboxes -/

/-- The commands that report or copy (R345, R346, R450), in their turn and with the processor that carries them out acting. PING, GET_INFO and LOAD_ABORT
answer with their results; a LOAD_ABORT in a load fails it. GET_FUSEMAP, GET_HEALTH, LOAD_REPORT and TRACE_READ write their bytes to the host buffer, and
no other byte, when the items of their transfer are served; without a place in the pool they wait (R368); a transfer that fails after n bytes ends them
FAULT HOST_DMA with those bytes written. LOAD_REPORT is refused of an UNLOADED instance and during its reset, TRACE_READ outside the ring. It says under
which conditions these commands complete, and with what next state: `ping`, `getInfo`, `getFusemap`, `getHealth`, `loadAbort`, `loadReport`, `traceRead`.
Where it rests on the model's choices, they are those of log entries 88, 108, 109, 119, 122, 170, 171. -/
def Obligations.CommandsReport : Prop :=
  ∀ (m : Fin 16) (seq : BitVec 16) (j : Msg) (s : State),
    let q := seq.toNat
    let d := s.pkg.dispatchCmd m q
    let told := fun (a : Nat) (l : List Byte) (res : List Nat) (t : Pkg) => s.pkg.toHostDone t a l ∧ t.completed m q .ok .none res
    let cut := fun (a : Nat) (l : List Byte) (n : Nat) (t : Pkg) => s.pkg.toHostDone t a (l.take n) ∧ t.completed m q .fault .hostDma []
    let serves := s.pkg.dmaServes m q = true
    let stuck := fun (l : List Byte) => s.pkg.poolEmpty m q = true ∧ 0 < j.items l.length none
    let waits := fun (l : List Byte) (t : Pkg) => s.pkg.sameBytes t ∧ t.job m q = some { j with started := true, xfer := some (j.items l.length none) }
    let refuses := fun (cmd : Instr) (r : Reason) => Yields cmd s fun t => s.pkg.onlyAnswer t ∧ t.completed m q .rejected r []
    (s.pkg.inTurn m q 0x01 j → ∀ ms : BitVec 64, Yields (.ping m seq ms) s fun t => s.pkg.onlyAnswer t ∧
      t.completed m q .ok .none (leVals (s.pkg.g .ADC_FW_VER 0) 4 ++ [0, 0, 0, 0] ++ leVals ms.toNat 8)) ∧
    (s.pkg.inTurn m q 0x02 j → Yields (.getInfo m seq) s fun t => s.pkg.onlyAnswer t ∧
      t.completed m q .ok .none (leVals (bits s.pkg.idcode 12 16) 2 ++ [b2n s.pkg.part.slow, s.pkg.part.stepping, s.pkg.part.model.dies, s.pkg.part.pkgId,
        b2n s.pkg.part.masterSel + 2 * b2n s.pkg.part.bscanCe + 4 * b2n s.fuses.secure, 0] ++ leVals s.pkg.part.uid 8)) ∧
    (s.pkg.inTurn m q 0x03 j →
      let l := bytesOf s.pkg.fuseMap
      (serves → Yields (.getFusemap m seq none) s (told (j.arg 0 8) l (leVals (384 * s.pkg.part.model.dies) 8 ++
        s.pkg.dies.map fun e => ((List.range 64).filter fun g => (s.pkg.goodClusters (e * 64 + g)).length == 32).length)) ∧ ∀ n, Yields (.getFusemap m seq (some n)) s (cut (j.arg 0 8) l n)) ∧
      (stuck l → Yields (.getFusemap m seq none) s (waits l))) ∧
    (s.pkg.inTurn m q 0x04 j →
      let l := bytesOf d.healthBlock
      (serves → Yields (.getHealth m seq none) s (told (j.arg 0 8) l (leVals (64 + 64 * s.pkg.part.model.dies) 8)) ∧ ∀ n, Yields (.getHealth m seq (some n)) s (cut (j.arg 0 8) l n)) ∧
      (stuck l → Yields (.getHealth m seq none) s (waits l))) ∧
    (s.pkg.inTurn m q 0x11 j →
      (s.pkg.load.active = false → Yields (.loadAbort m seq) s fun t => s.pkg.onlyAnswer t ∧ t.completed m q .ok .none [s.pkg.g .CFG_LOAD_STAT_PHASE 0]) ∧
      (s.pkg.load.active = true → Yields (.loadAbort m seq) s fun t => t.loadFailed 14) ∧
      (s.pkg.load.active = true → s.pkg.load.secs = [] → s.pkg.load.cmd ≠ some (m.val, q) →
        Yields (.loadAbort m seq) s fun t => t.loadFailed 14 ∧ t.completed m q .ok .none [s.pkg.g .CFG_LOAD_STAT_PHASE 0])) ∧
    (s.pkg.inTurn m q 0x12 j →
      (s.pkg.resetting j.inst = true → refuses (.loadReport m seq none) .instReset) ∧
      (s.pkg.resetting j.inst = false → s.pkg.runState j.inst = .unloaded ∨ s.pkg.behindReplace j = true → refuses (.loadReport m seq none) .instState) ∧
      (s.pkg.resetting j.inst = false → s.pkg.runState j.inst ≠ .unloaded → s.pkg.behindReplace j = false →
        let all := d.loadReport j.inst
        let n := min all.length (j.arg 8 4)
        let l := bytesOf (all.take n)
        (serves → Yields (.loadReport m seq none) s (told (j.arg 0 8) l (leVals n 4 ++ leVals all.length 4)) ∧ ∀ n, Yields (.loadReport m seq (some n)) s (cut (j.arg 0 8) l n)) ∧
        (stuck l → Yields (.loadReport m seq none) s (waits l)))) ∧
    (s.pkg.inTurn m q 0x40 j →
      let e := j.arg 0 1
      let len := s.pkg.ringLen e
      (len = 0 ∨ len ≤ j.arg 8 8 ∨ len < j.arg 24 4 → refuses (.traceRead m seq none) .badArgs) ∧
      (len ≠ 0 → j.arg 8 8 < len → j.arg 24 4 ≤ len → s.pkg.dmaServes m q = true → Yields (.traceRead m seq none) s fun t =>
        t = { s.pkg with flds := t.flds, mbx := t.mbx, sch := t.sch, host := t.host,
                         que := { s.pkg.que with shares := t.que.shares, grant := t.que.grant } } ∧ s.pkg.accounted t ∧
        written s.pkg.host t.host (j.arg 16 8) (s.pkg.ringRead e (j.arg 8 8) (j.arg 24 4)) ∧
        t.completed m q .ok .none (leVals (s.pkg.g .WHY_RING_WPTR e) 8 ++ leVals (j.arg 24 4) 4)))

/-- The commands that move bytes between host memory, an instance's slice and a link port (R154, R155, R345, R348). MEM_READ copies slice bytes to the host
buffer and MEM_WRITE stores bytes where the slice's segments lie, and nowhere else; an uncorrectable block ends either in FAULT ENGINE_FAULT with what lies
below it copied; beyond the slice they are refused. LINK_SEND queues the flits of a message on its port and stays in progress, or is answered DEFERRED
while a lane settles; LINK_RECV posts its buffer and takes what waits. Without a place in the pool for its transfer a command waits (R368). Both are
refused on a port without an owner, LINK_SEND on one that is DOWN. It says under which conditions these commands complete, and with what next state:
`memRead`, `memWrite`, `linkSend`, `linkRecv`. Where it rests on the model's choices, they are those of log entries 3, 35, 107, 110, 111, 170, 171. -/
def Obligations.CommandsMoveBytes : Prop :=
  ∀ (m : Fin 16) (seq : BitVec 16) (j : Msg) (bytes : List (BitVec 8)) (s : State),
    let q := seq.toNat
    let refuses := fun (cmd : Instr) (r : Reason) => Yields cmd s fun t => s.pkg.onlyAnswer t ∧ t.completed m q .rejected r []
    let i := j.inst
    let a := j.arg 0 8
    let len := j.arg 16 4
    let given := fun (n : Nat) => bytesOf ((List.range n).map fun k => (bytes.map BitVec.toNat).getD k 0)
    let open_ := s.pkg.resetting i = false ∧ s.pkg.runState i ≠ .unloaded ∧ s.pkg.runState i ≠ .loading
    let frame := fun (t : Pkg) =>
      t = { s.pkg with flds := t.flds, mbx := t.mbx, sch := t.sch, host := t.host, reloc := t.reloc,
                       que := { s.pkg.que with shares := t.que.shares, grant := t.que.grant, hbm := t.que.hbm } }
    let serves := s.pkg.dmaServes m q = true
    let waits := fun (cmd : Instr) => s.pkg.poolEmpty m q = true → 0 < j.items len none →
      Yields cmd s fun t => s.pkg.sameBytes t ∧ t.ports = s.pkg.ports ∧ t.job m q = some { j with started := true, xfer := some (j.items len none) }
    let stored := fun (t : Pkg) (n : Nat) => t.host = s.pkg.host ∧
      (∀ x, (∀ k < n, s.pkg.sliceAddr i (a + k) ≠ some x) → readByte t.que.hbm x = readByte s.pkg.que.hbm x) ∧
      ∀ k < n, ∀ x, s.pkg.sliceAddr i (a + k) = some x → (∀ k', k < k' → k' < n → s.pkg.sliceAddr i (a + k') ≠ some x) →
        readByte t.que.hbm x = (given len).getD k 0
    let fetched := fun (t : Pkg) (n : Nat) => t.que.hbm = s.pkg.que.hbm ∧ written s.pkg.host t.host (j.arg 8 8) (s.pkg.sliceRead i a n)
    let faulted := fun (t : Pkg) (x : Nat) => t.completed m q .fault .engineFault (leVals (x - a) 4 ++ [0, 0, 0, 0] ++ leVals x 8)
    (s.pkg.inTurn m q 0x32 j →
      (open_ → a + len ≤ s.pkg.sliceBytes i → waits (.memRead m seq none none)) ∧
      (open_ → a + len ≤ s.pkg.sliceBytes i → serves →
        Yields (.memRead m seq none none) s (fun t => frame t ∧ s.pkg.accounted t ∧ fetched t len ∧ t.completed m q .ok .none (leVals len 4)) ∧
        (∀ x, x % 32 = 0 → a ≤ x + 31 → x < a + len → Yields (.memRead m seq (some x) none) s fun t => frame t ∧ fetched t (x - a) ∧ faulted t x) ∧
        ∀ n, Yields (.memRead m seq none (some n)) s fun t => frame t ∧ fetched t (min n len) ∧ t.completed m q .fault .hostDma []) ∧
      (open_ → s.pkg.sliceBytes i < a + len → refuses (.memRead m seq none none) .badArgs) ∧
      (s.pkg.resetting i = true → refuses (.memRead m seq none none) .instReset) ∧
      (s.pkg.resetting i = false → ¬ open_ → refuses (.memRead m seq none none) .instState)) ∧
    (s.pkg.inTurn m q 0x33 j →
      (open_ → a + len ≤ s.pkg.sliceBytes i → waits (.memWrite m seq bytes none none)) ∧
      (open_ → a + len ≤ s.pkg.sliceBytes i → serves →
        Yields (.memWrite m seq bytes none none) s (fun t => frame t ∧ s.pkg.accounted t ∧ stored t len ∧ t.completed m q .ok .none (leVals len 4)) ∧
        (∀ x, x % 32 = 0 → a ≤ x + 31 → x < a + len → Yields (.memWrite m seq bytes (some x) none) s fun t => frame t ∧ stored t (x - a) ∧ faulted t x) ∧
        ∀ n, Yields (.memWrite m seq bytes none (some n)) s fun t => frame t ∧ stored t (min n len) ∧ t.completed m q .fault .hostDma []) ∧
      (open_ → s.pkg.sliceBytes i < a + len → refuses (.memWrite m seq bytes none none) .badArgs) ∧
      (s.pkg.resetting i = true → refuses (.memWrite m seq bytes none none) .instReset) ∧
      (s.pkg.resetting i = false → ¬ open_ → refuses (.memWrite m seq bytes none none) .instState)) ∧
    (s.pkg.inTurn m q 0x50 j →
      let p := j.arg 0 1
      let sends := fun (t : Pkg) (deferred : Bool) => (t.port p).txMem = (s.pkg.port p).txMem ++ sendFlits (p / 4) true (given len).length (given len) ∧
        t.sends = s.pkg.sends ++ [{ mbx := m, seq := q, port := p, bytes := len, deferred := deferred }] ∧ (∀ x, x ≠ p → t.port x = s.pkg.port x) ∧
        s.pkg.accounted t ∧ s.pkg.sameBytes t
      (s.pkg.portOwner p = none → refuses (.linkSend m seq bytes none) .notOwner) ∧
      (s.pkg.portOwner p ≠ none → s.pkg.portSt p = .down → refuses (.linkSend m seq bytes none) .instState) ∧
      (s.pkg.portOwner p ≠ none → s.pkg.portSt p ≠ .down → s.pkg.portSt p ≠ .lowpwr → waits (.linkSend m seq bytes none)) ∧
      (s.pkg.portOwner p ≠ none → s.pkg.portSt p ≠ .down → s.pkg.portSt p ≠ .lowpwr → serves →
        ((∀ l ∈ portLanes p, s.pkg.laneSt l ≠ .cal ∧ s.pkg.laneSt l ≠ .cold) →
          Yields (.linkSend m seq bytes none) s fun t => sends t false ∧ t.job m q = some { j with started := true, xfer := none }) ∧
        ((∃ l ∈ portLanes p, s.pkg.laneSt l = .cal) → (∀ l ∈ portLanes p, s.pkg.laneSt l ≠ .cold) →
          Yields (.linkSend m seq bytes none) s fun t => sends t true ∧ t.completed m q .deferred .settling
            (leVals ((portLanes p).foldl (fun n x => max n (s.pkg.g .LNK_LANE_STAT_ETA_US x)) 0) 4)))) ∧
    (s.pkg.inTurn m q 0x51 j →
      let p := j.arg 0 1
      let x := s.pkg.port p
      let posted := fun (fail : Option Nat) (got : Nat) => ({ mbx := m, seq := q, port := p, addr := j.arg 8 8, len := len, got := got, fail := fail } : RecvJob)
      ∀ fail, (s.pkg.portOwner p = none → refuses (.linkRecv m seq fail) .notOwner) ∧
        (s.pkg.portOwner p ≠ none → x.rxMem = [] → Yields (.linkRecv m seq fail) s fun t => t.recvs = s.pkg.recvs ++ [posted fail 0] ∧
          s.pkg.sameBytes t ∧ t.job m q = some { j with started := true, xfer := none }) ∧
        (∀ w, s.pkg.portOwner p ≠ none → x.rxMem = [w] → w % 16 = 2 → (s.pkg.recvs.any fun r => r.port == p) = false → bits w 8 8 < len →
          Yields (.linkRecv m seq none) s fun t => (t.port p).rxMem = [] ∧
            written s.pkg.host t.host (j.arg 8 8) (leBytes (w / 2 ^ 16) (bits w 8 8)) ∧
            (bit w 7 = false → posted none (bits w 8 8) ∈ t.recvs) ∧
            (bit w 7 = true → t.recvs = s.pkg.recvs.filter (fun r => !(r.mbx == m.val && r.seq == q)) ∧
              t.completed m q .ok .none (leVals (bits w 8 8) 4 ++ [1]))))

/-- RUN_CTL (R35, R37, R279, R344, R345, R412) in its turn. START takes a LOADED instance to step 0 of a cycle, RUNNING, RESUME a FROZEN one on from its held
step; with a launch time either waits in the launch queue. PAUSE and FREEZE wait for the boundary. SET_STOP_AT and CLEAR_STOP_AT write their fields as
register writes do. On the master START and RESUME of a cascade instance begin the exchange, with which they end. Each answers with ARY_RUN_STAT and
ARY_MCC; out of its state it is REJECTED, as every action is while the instance is being reset and the first four of a cascade instance on a package that
is not the master. It says under which conditions these commands complete, and with what next state: `runCtlStart`, `runCtlPause`, `runCtlResume`,
`runCtlFreeze`, `runCtlSetStopAt`, `runCtlClearStopAt`. Where it rests on the model's choices, they are those of log entries 106, 113, 122, 123, 171, 177.
-/
def Obligations.RunControlCommandsAct : Prop :=
  ∀ (m : Fin 16) (seq : BitVec 16) (j : Msg) (s : State),
    let q := seq.toNat
    let i := j.inst
    let casc := (s.pkg.inst i).desc.cascade
    let refuses := fun (cmd : Instr) (r : Reason) => Yields cmd s fun t => s.pkg.accounted t ∧ t.completed m q .rejected r []
    let done := fun (t : Pkg) => t.completed m q .ok .none (t.runResult i)
    let acts := [(Instr.runCtlStart m seq, 1), (.runCtlPause m seq, 2), (.runCtlResume m seq, 3), (.runCtlFreeze m seq, 4), (.runCtlSetStopAt m seq, 5),
      (.runCtlClearStopAt m seq, 6)]
    let waits := fun (t : Pkg) (resume : Bool) => t.runState i = s.pkg.runState i ∧ t.job m q = some { j with started := true, xfer := none } ∧
      ∃ x, t.tim.lq = s.pkg.tim.lq ++ [x] ∧ x.t = j.arg 16 8 ∧ x.w2 = 1 ∧ x.w3 = 16 + i * 256 + b2n resume * 4096 ∧ x.cmd = some (m.val, q)
    s.pkg.inTurn m q 0x20 j → j.runArgsOk = true → (∀ x ∈ s.pkg.sends, (x.mbx, x.seq) ≠ (m.val, q)) →
    (∀ e ∈ acts, j.arg 0 1 = e.2 →
      (s.pkg.resetting i = true → refuses e.1 .instReset) ∧
      (s.pkg.resetting i = false → e.2 ≤ 4 → casc = true → s.pkg.isMaster = false → refuses e.1 .notMaster)) ∧
    (s.pkg.resetting i = false → casc = false →
      (j.arg 0 1 = 1 → j.arg 16 8 = 0 →
        (s.pkg.canStart i = true → s.pkg.g .TRN_INST_STAT_BAD i = 0 → Yields (.runCtlStart m seq) s fun t => done t ∧ t.runState i = .running ∧
          (t.inst i).row = 0 ∧ (t.inst i).step = 0) ∧
        (s.pkg.canStart i = false → Yields (.runCtlStart m seq) s fun t => t.completed m q .rejected .instState [] ∧ t.g .ARY_ERR_CMD_IGNORED i = 1)) ∧
      (j.arg 0 1 = 3 → j.arg 16 8 = 0 →
        (s.pkg.canResume i = true → s.pkg.g .TRN_INST_STAT_BAD i = 0 → s.pkg.b .ARY_RUN_STAT_MID_CYCLE i = true →
          Yields (.runCtlResume m seq) s fun t => done t ∧ t.runState i = .running ∧ (t.inst i).step = (s.pkg.inst i).step) ∧
        (s.pkg.canResume i = false → Yields (.runCtlResume m seq) s fun t => t.completed m q .rejected .instState [] ∧ t.runState i = s.pkg.runState i)) ∧
      (j.arg 16 8 ≠ 0 → s.pkg.tim.lq.length < 64 → s.pkg.overdue (j.arg 16 8) = false →
        (j.arg 0 1 = 1 → s.pkg.isMaster = true → Yields (.runCtlStart m seq) s fun t => waits t false) ∧
        (j.arg 0 1 = 3 → s.pkg.isMaster = true → Yields (.runCtlResume m seq) s fun t => waits t true) ∧
        (j.arg 0 1 = 1 → s.pkg.isMaster = false → refuses (.runCtlStart m seq) .notMaster) ∧
        (j.arg 0 1 = 3 → s.pkg.isMaster = false → refuses (.runCtlResume m seq) .notMaster)) ∧
      (j.arg 16 8 ≠ 0 → 64 ≤ s.pkg.tim.lq.length → s.pkg.isMaster = true → j.arg 0 1 = 1 → refuses (.runCtlStart m seq) .badArgs) ∧
      (j.arg 0 1 = 2 →
        (s.pkg.runs i = true → Yields (.runCtlPause m seq) s fun t => done t ∧ Cause.hostPause.code ∈ (t.inst i).pend ∧ t.g .ARY_RUN_STAT_PAUSE_PEND i = 1) ∧
        (s.pkg.runs i = false → Yields (.runCtlPause m seq) s fun t => t.completed m q .rejected .instState [] ∧ t.g .ARY_ERR_CMD_IGNORED i = 1)) ∧
      (j.arg 0 1 = 4 →
        (s.pkg.runs i = true → Yields (.runCtlFreeze m seq) s fun t => done t ∧ Cause.hostFreeze.code ∈ (t.inst i).pend ∧ t.g .ARY_RUN_STAT_FREEZE_PEND i = 1) ∧
        (s.pkg.runs i = false → Yields (.runCtlFreeze m seq) s fun t => t.completed m q .rejected .instState [] ∧ t.g .ARY_ERR_CMD_IGNORED i = 1))) ∧
    (s.pkg.resetting i = false → casc = true → s.pkg.isMaster = true → j.arg 16 8 = 0 → s.pkg.startReq i = none →
      ∀ e ∈ [(Instr.runCtlStart m seq, 1, false), (.runCtlResume m seq, 3, true)], j.arg 0 1 = e.2.1 →
        (s.pkg.startCode i e.2.2 0 = 0 → s.pkg.b .CFG_LOAD_STAT_PEER_MISSING 0 = false → Yields e.1 s fun t =>
          t.job m q = some { j with started := true, xfer := none } ∧ t.runState i = s.pkg.runState i ∧ ∃ r, t.startReq i = some r ∧
          r = { inst := i, count := s.pkg.g .LNK_STEP_CNT 0 + s.pkg.leadSteps, resume := e.2.2, cmd := some (m.val, q) } ∧
          (t.inst i).startAt = some r.count) ∧
        (s.pkg.startCode i e.2.2 0 ≠ 0 → Yields e.1 s fun t => t.completed m q .rejected .instState [] ∧ t.runState i = s.pkg.runState i ∧
          t.startReq i = none)) ∧
    (s.pkg.resetting i = false → s.pkg.runState i = .unloaded ∨ s.pkg.runState i = .loading →
      (j.arg 0 1 = 5 → refuses (.runCtlSetStopAt m seq) .instState) ∧ (j.arg 0 1 = 6 → refuses (.runCtlClearStopAt m seq) .instState)) ∧
    (s.pkg.resetting i = false → s.pkg.runState i ≠ .unloaded → s.pkg.runState i ≠ .loading →
      (j.arg 0 1 = 5 → Yields (.runCtlSetStopAt m seq) s fun t => done t ∧ t.lastWritten .ARY_STOP_AT_LO i = j.arg 8 4 ∧
        t.lastWritten .ARY_STOP_AT_HI i = j.arg 12 4 ∧ t.lastWritten .ARY_CTRL_STOP_AT_EN i = 1) ∧
      (j.arg 0 1 = 6 → Yields (.runCtlClearStopAt m seq) s fun t => done t ∧ t.lastWritten .ARY_CTRL_STOP_AT_EN i = 0))

/-- Reset and unload of an instance (R370-R373). INST_RESET and UNLOAD in their turn take the instance through STOP and PURGE to DRAIN, with its data stores
restored; its banks taken back; they wait for what must end first, and are REJECTED in a state that has nothing to reset. RESET_DRAIN_COMPLETE ends the
drain once nothing drains and the processors of its caves' dies end their restores: a reset leaves the instance LOADED at cycle 0, an unload UNLOADED with
no region. RESET_OVERRUN leaves it FAULTED with ENGINE_FAULT. Either answers the command. CAVE_OWN, MARCH, MP_RESTART, FLOW_BIND and FLOW_UNBIND in their
turn (R133, R139, R141, R350, R357, R375). CAVE_OWN hands every bank of its set over, or none. MARCH tests firmware-owned banks and shows each result.
MP_RESTART puts a processor into RESTARTING, which ends what it had begun; one that FAILED does not come back. FLOW_BIND starts an owned flow afresh with
its status line at 0; FLOW_UNBIND purges a bound flow, and it is UNBOUND once nothing of it is on an engine. Where Table 169 refuses them they are
REJECTED. It says under which conditions these commands complete, and with what next state: `unload`, `instReset`, `resetDrainComplete`, `resetOverrun`,
`caveOwn`, `march`, `mpRestart`, `flowBind`, `flowUnbind`. Where it rests on the model's choices, they are those of log entries 61, 63, 64, 106, 112, 113,
136, 176, 177, 182. -/
def Obligations.InstancesAndUnitsAct : Prop :=
  (∀ (i : Fin 16) (m : Fin 16) (seq : BitVec 16) (j : Msg) (ns : Nat) (s : State),
    let q := seq.toNat
    let refuses := fun (cmd : Instr) (r : Reason) => Yields cmd s fun t => s.pkg.onlyAnswer t ∧ t.completed m q .rejected r []
    let st := s.pkg.runState i
    let none_ := st = .unloaded ∨ st = .loading
    let begins := fun (un : Bool) (t : Pkg) => t.g .SCH_INST_RST_PHASE i = 3 ∧ t.runState i = st ∧
      (∃ r, t.resetOf i = some r ∧ r.unload = un ∧ r.mbx = some (m.val, q)) ∧ t.g .ARY_RUN_STAT_STALLING i = 0 ∧
      t.g .ARY_RUN_STAT_HOLDING i = 0 ∧ (∀ b ∈ s.pkg.banksOf i, t.bankOwn b = .firmware) ∧
      t.fab.data = copyIn s.pkg.fab.data s.pkg.fab.dataInit fun k => (s.pkg.regionsOf i).contains (k / (2048 * 2048))
    (j.inst = i.val → s.pkg.inTurn m q 0x13 j →
      (s.pkg.resetting i = true → refuses (.unload m seq) .instReset) ∧
      (s.pkg.resetting i = false → none_ → refuses (.unload m seq) .instState) ∧
      (s.pkg.resetting i = false → ¬none_ → s.pkg.resetReady i = false → Becomes (.unload m seq) s (s.pkg.dispatchCmd m q)) ∧
      (s.pkg.resetting i = false → ¬none_ → s.pkg.resetReady i = true → Yields (.unload m seq) s (begins true))) ∧
    (j.inst = i.val → s.pkg.inTurn m q 0x21 j →
      (s.pkg.resetting i = true → refuses (.instReset m seq) .instReset) ∧
      (s.pkg.resetting i = false → none_ → refuses (.instReset m seq) .instState) ∧
      (s.pkg.resetting i = false → ¬none_ → s.pkg.b .TRN_INST_STAT_INIT_BAD i = true → refuses (.instReset m seq) .initBad) ∧
      (s.pkg.resetting i = false → ¬none_ → s.pkg.b .TRN_INST_STAT_INIT_BAD i = false → s.pkg.resetReady i = false →
        Becomes (.instReset m seq) s (s.pkg.dispatchCmd m q)) ∧
      (s.pkg.resetting i = false → ¬none_ → s.pkg.b .TRN_INST_STAT_INIT_BAD i = false → s.pkg.resetReady i = true →
        Yields (.instReset m seq) s (begins false))) ∧
    (∀ r, s.pkg.resetOf i = some r → s.pkg.resetting i = true →
      let answered := fun (t : Pkg) (stat : Status) (why : Reason) => r.mbx = some (m.val, q) → s.pkg.job m q ≠ none →
        (∀ x ∈ s.pkg.sends, (x.mbx, x.seq) ≠ (m.val, q)) → t.completed m q stat why []
      let ended := s.pkg.draining i = 0 ∧ (s.pkg.restoring i).all s.pkg.mpActs = true
      (ended → r.unload = false → Yields (.resetDrainComplete i ns) s fun t => t.runState i = .loaded ∧ t.g .ARY_RUN_STAT_STOP_CAUSE i = 0 ∧
        (t.inst i).row = 0 ∧ (t.inst i).step = 0 ∧ (t.inst i).pend = [] ∧ t.g .ARY_MCC i = 0 ∧ t.g .SCH_INST_RST_PHASE i = 4 ∧ t.resetOf i = none ∧
        (∀ b ∈ r.caveOwn, s.pkg.bankOwn b = .firmware → t.bankOwn b = .inst i) ∧ t.g .SCH_INST_RST_US i = (s.pkg.sch.now + ns - r.since) / 1000 % 2 ^ Fld.width .SCH_INST_RST_US ∧ answered t .ok .none) ∧
      (ended → r.unload = true → Yields (.resetDrainComplete i ns) s fun t => t.runState i = .unloaded ∧ t.g .SCH_INST_RST_PHASE i = 0 ∧
        t.resetOf i = none ∧ t.regionsOf i = [] ∧ answered t .ok .none) ∧
      (¬ended → Becomes (.resetDrainComplete i ns) s (s.pkg.pass ns)) ∧
      (s.pkg.outstanding i ≠ 0 → Yields (.resetOverrun i ns) s fun t => t.runState i = .faulted ∧ t.g .ARY_RUN_STAT_STOP_CAUSE i = Cause.engineFault.code ∧
        t.g .SCH_INST_RST_PHASE i = 0 ∧ t.g .SCH_INST_RST_OVERRUN i = 1 ∧ t.g .SCH_STAT_ENGINE_FAULT 0 = 1 ∧ t.resetOf i = none ∧
        answered t .fault .engineFault) ∧
      (s.pkg.outstanding i = 0 → Becomes (.resetOverrun i ns) s (s.pkg.pass ns)))) ∧
  (∀ (m : Fin 16) (seq : BitVec 16) (j : Msg) (fails : List (Fin 1024 × List (BitVec 14 × BitVec 16))) (s : State),
    let q := seq.toNat
    let refuses := fun (cmd : Instr) (r : Reason) => Yields cmd s fun t => s.pkg.onlyAnswer t ∧ t.completed m q .rejected r []
    (s.pkg.inTurn m q 0x30 j → j.arg 1 1 < 64 →
      let r := j.arg 0 1 * 64 + j.arg 1 1
      let kind := bits (j.arg 4 1) 0 2
      let inst := bits (j.arg 4 1) 4 4
      let stopped := ∀ b ∈ banksIn r (j.arg 2 2), ∀ k, s.pkg.bankOwn b = .inst k → s.pkg.runs k = false
      let none_ := kind = 0 ∧ (s.pkg.runState inst = .unloaded ∨ s.pkg.runState inst = .loading)
      let owns := kind = 0 → s.pkg.regionOwner r = some inst
      (none_ → refuses (.caveOwn m seq) .instState) ∧
      (¬none_ → ¬owns → refuses (.caveOwn m seq) .notOwner) ∧
      (¬none_ → owns → ¬ stopped → refuses (.caveOwn m seq) .instState) ∧
      (¬none_ → owns → stopped →
        Yields (.caveOwn m seq) s fun t => t.completed m q .ok .none (leVals (j.arg 2 2) 2) ∧ s.pkg.sameBytes t ∧
          ∀ b ∈ banksIn r (j.arg 2 2),
            (∀ k, s.pkg.bankOwn b = .inst k → t.bankOwn b = BankOwner.of kind inst ∧ t.g .CAV_OWN_PEND b = 0) ∧
            ((∀ k, s.pkg.bankOwn b ≠ .inst k) → t.bankOwn b = s.pkg.bankOwn b ∧ t.g .CAV_OWN_KIND b = kind ∧ t.g .CAV_OWN_INST b = inst ∧ t.g .CAV_OWN_PEND b = 1))) ∧
    (s.pkg.inTurn m q 0x31 j →
      let regs := ((List.range 64).filter (bit (j.arg 8 8))).map fun g => j.arg 0 1 * 64 + g
      let banks := fun (r : Nat) => banksIn r (j.arg 2 2)
      let failed := fun (b : Nat) => fails.any fun e => e.1.val == b % 1024 && !e.2.isEmpty
      let idle := ∀ r ∈ regs, s.pkg.g .CAV_MARCH_STAT_BUSY r = 0
      let ready := ∀ r ∈ regs, s.pkg.powerState (r / 64) (r % 64) = 0 ∧ ∀ b ∈ banks r, s.pkg.bankOwn b = .firmware ∧ s.pkg.g .CAV_OWN_PEND b = 0
      (¬ idle → Yields (.march m seq fails) s fun t => s.pkg.onlyAnswer t ∧ t.completed m q .busy .resourceBusy [1, 0, 0, 0, 0, 0, 0, 0]) ∧
      (idle → ¬ ready → refuses (.march m seq fails) .notOwner) ∧
      (idle → ready → Yields (.march m seq fails) s fun t =>
        t.completed m q .ok .none (leVals (maskOf 64 fun g => regs.contains (j.arg 0 1 * 64 + g) && (banks (j.arg 0 1 * 64 + g)).any failed) 8 ++
          leVals ((regs.flatMap banks).filter failed).length 2) ∧ s.pkg.sameBytes t ∧
        ∀ r ∈ regs, t.g .CAV_MARCH_STAT_BUSY r = 0 ∧ t.g .CAV_MARCH_STAT_DONE r = 1 ∧
          ∀ b ∈ banks r, t.g .CAV_MARCH_RES_TESTED b = 1 ∧ t.g .CAV_MARCH_RES_FAIL b = b2n (failed b) ∧ bit (t.g .CAV_AVAIL r) (b % 16) = !failed b)) ∧
    (s.pkg.inTurn m q 0x70 j →
      let d := j.arg 0 1
      let st := s.pkg.g .MBX_MP_STAT_STATE d
      (st = 4 ∨ s.pkg.dieOk d = false → Yields (.mpRestart m seq) s fun t => s.pkg.onlyAnswer t ∧ t.completed m q .fault .mpFailed []) ∧
      (st = 3 → s.pkg.dieOk d = true → Becomes (.mpRestart m seq) s ((s.pkg.dispatchCmd m q).started m q)) ∧
      (st ≠ 3 → st ≠ 4 → s.pkg.dieOk d = true → Yields (.mpRestart m seq) s fun t => t.g .MBX_MP_STAT_STATE d = 3 ∧
        (∀ n p k, s.pkg.job n p = some k → k.started = true → k.die = d → k.op ≠ 0x70 → t.job n p = none) ∧
        (s.pkg.reloc = [] → (∀ e ∈ s.pkg.allJobs, e.1 = m.val → e.2.seq = q → e.2 = j) → t.job m q = some { j with started := true, xfer := none }))) ∧
    (s.pkg.inTurn m q 0x80 j →
      let f := j.arg 0 2
      (∀ r, s.pkg.bindCheck f (j.arg 2 1) (j.arg 3 1) (j.arg 4 4) = .inl r → refuses (.flowBind m seq) r) ∧
      (∀ i u, s.pkg.bindCheck f (j.arg 2 1) (j.arg 3 1) (j.arg 4 4) = .inr (i, u) → Yields (.flowBind m seq) s fun t =>
        t.g .SCH_FLOW_STAT_STATE f = 1 ∧ t.g .SCH_FLOW_STAT_DIR f = j.arg 2 1 ∧ t.g .SCH_FLOW_RINGCFG_LOG2N f = j.arg 3 1 ∧
        t.g .SCH_FLOW_RINGCFG_ENTRY_BYTES f = j.arg 4 4 ∧ t.g .SCH_FLOW_RING f = j.arg 8 8 ∧ t.g .SCH_FLOW_HOST f = 0 ∧ t.g .SCH_FLOW_DEV f = 0 ∧
        t.g .SCH_FLOW_TAKEN f = 0 ∧ t.flow f = { unit := u } ∧ t.completed m q .ok .none [] ∧
        t = { s.pkg with flds := t.flds, snaps := t.snaps, mbx := t.mbx, sch := t.sch, host := t.host } ∧
        written s.pkg.host t.host (j.arg 8 8 + 2 ^ j.arg 3 1 * j.arg 4 4) (List.replicate 64 0))) ∧
    (s.pkg.inTurn m q 0x81 j →
      let f := j.arg 0 2
      (∀ r, s.pkg.unbindCheck f = some r → refuses (.flowUnbind m seq) r) ∧
      (s.pkg.unbindCheck f = none →
        (s.pkg.flowBusy f = false → Yields (.flowUnbind m seq) s fun t => t.g .SCH_FLOW_STAT_STATE f = 0 ∧ (t.flow f).inb = [] ∧ (t.flow f).calls = [] ∧
          t.completed m q .ok .none [] ∧ s.pkg.sameBytes t) ∧
        (s.pkg.flowBusy f = true → Yields (.flowUnbind m seq) s fun t => t.g .SCH_FLOW_STAT_STATE f = 2 ∧ (t.flow f).unbind = some (m.val, q) ∧
          t.job m q = some { j with started := true, xfer := none } ∧ s.pkg.sameBytes t))))

/-- Keys and policy fuses (R199-R202, R345, R347), in their turn. KEY_EF_PROGRAM blows a key whose check value is right, once, with the rails in range; one
that does not read back is disabled in the same operation. KEY_BB_WRITE replaces the slot that is not active and leaves the active one; KEY_BB_ZERO clears
both. FUSE_POLICY blows the bits asked for that will blow. A policy, a supply or a check value that forbids it REJECTS each. It says under which conditions
these commands complete, and with what next state: `keyEfProgram`, `keyBbWrite`, `keyBbZero`, `fusePolicy`. Where it rests on the model's choices, they are
those of log entries 8, 104, 105. -/
def Obligations.KeysAndFusesAreWritten : Prop :=
  ∀ (m : Fin 16) (seq : BitVec 16) (j : Msg) (steady reads : Bool) (stuck : BitVec 3) (s : State),
    let q := seq.toNat
    let refuses := fun (cmd : Instr) (r : Reason) => Yields cmd s fun t => s.pkg.onlyAnswer t ∧ t.completed m q .rejected r []
    let supply := steady && s.pkg.railsIn
    (s.pkg.inTurn m q 0x60 j →
      (s.fuses.keyBarred = true → refuses (.keyEfProgram m seq steady reads) .policy) ∧
      (s.fuses.keyBarred = false → supply = false → refuses (.keyEfProgram m seq steady reads) .supply) ∧
      (s.fuses.keyBarred = false → supply = true → j.kcv ≠ kcvOf j.key → refuses (.keyEfProgram m seq steady reads) .badArgs) ∧
      (s.fuses.keyBarred = false → supply = true → j.kcv = kcvOf j.key →
        (∃ p, exec (.keyEfProgram m seq steady true) s =
            .next { s with pkg := p, fuses := { s.fuses with key := j.key, check := j.kcv, keyOk := true } } ∧
          s.pkg.onlyAnswer p ∧ p.completed m q .ok .none (leVals j.kcv 4)) ∧
        ∃ p k c, exec (.keyEfProgram m seq steady false) s =
            .next { s with pkg := p, fuses := { s.fuses with key := k, check := c, keyOk := false, efKeyDis := true } } ∧
          s.pkg.accounted p ∧ p.completed m q .fault .verify [])) ∧
    (s.pkg.inTurn m q 0x61 j →
      (s.fuses.bbKeyDis = true → refuses (.keyBbWrite m seq reads) .policy) ∧
      (s.fuses.bbKeyDis = false → j.kcv ≠ kcvOf j.key → refuses (.keyBbWrite m seq reads) .badArgs) ∧
      (s.fuses.bbKeyDis = false → j.kcv = kcvOf j.key →
        (s.pkg.slotActive = some false →
          Yields (.keyBbWrite m seq true) s (fun t => t.slotA = s.pkg.slotA ∧
            t.slotB = { key := j.key, kcv := j.kcv, seq := (s.pkg.slotA.seq + 1) % 2 ^ 16, ok := true } ∧ s.pkg.accounted t ∧
            t.completed m q .ok .none (leVals j.kcv 4 ++ [1])) ∧
          Yields (.keyBbWrite m seq false) s fun t => t.slotA = s.pkg.slotA ∧ t.slotB.ok = false ∧ s.pkg.accounted t ∧ t.completed m q .fault .verify []) ∧
        (s.pkg.slotActive = some true →
          Yields (.keyBbWrite m seq true) s (fun t => t.slotB = s.pkg.slotB ∧
            t.slotA = { key := j.key, kcv := j.kcv, seq := (s.pkg.slotB.seq + 1) % 2 ^ 16, ok := true } ∧ s.pkg.accounted t ∧
            t.completed m q .ok .none (leVals j.kcv 4 ++ [0])) ∧
          Yields (.keyBbWrite m seq false) s fun t => t.slotB = s.pkg.slotB ∧ t.slotA.ok = false ∧ s.pkg.accounted t ∧ t.completed m q .fault .verify []) ∧
        (s.pkg.slotActive = none → Yields (.keyBbWrite m seq true) s fun t => (t.slotA.key = j.key ∧ t.slotA.ok = true ∧ t.slotB = s.pkg.slotB ∨
          t.slotB.key = j.key ∧ t.slotB.ok = true ∧ t.slotA = s.pkg.slotA) ∧ s.pkg.accounted t))) ∧
    (s.pkg.inTurn m q 0x62 j → Yields (.keyBbZero m seq) s fun t => t.slotA = {} ∧ t.slotB = {} ∧ t.completed m q .ok .none [] ∧
      t = { s.pkg with flds := t.flds, mbx := t.mbx, sch := t.sch, slotA := t.slotA, slotB := t.slotB } ∧ s.pkg.accounted t) ∧
    (s.pkg.inTurn m q 0x63 j →
      let ask := j.arg 0 1 % 8
      let got := maskOf 3 fun b => bit ask b && (!bit stuck.toNat b || bit s.fuses.sec b)
      (supply = false → refuses (.fusePolicy m seq steady stuck) .supply) ∧
      (supply = true → ∃ p, exec (.fusePolicy m seq steady stuck) s = .next { s with pkg := p, fuses := s.fuses.blow got } ∧ s.pkg.onlyAnswer p ∧
        (got = ask → p.completed m q .ok .none [(s.fuses.blow got).sec]) ∧ (got ≠ ask → p.completed m q .fault .verify [])))

/-- The mailbox hardware (R331-R344). SLOT_TAKE with a whole message of one slot: the next SEQ is consumed and the command accepted with its work item, or
turned away; a SEQ just completed is answered DUPLICATE with the first outcome; a SEQ ahead or behind is REJECTED; the key of a key command is overwritten
in the ring. A slot of a longer message is kept for it, one that does not check is discarded, and so is a message that stays incomplete. COMPLETION_WRITE
writes the oldest completion when its ring has room, and its vector goes out or pends while its MSI-X entry is masked (R330). DOORBELL, CPL_HEAD_WRITE and
MAILBOX_RESET (with no watchpoint enabled) move or clear the pointers, or are refused; FETCH_RETRY shows a failed transfer. It says under which conditions
these commands complete, and with what next state: `doorbell`, `slotTake`, `partialMessageTimeout`, `completionWrite`, `cplHeadWrite`, `mailboxReset`,
`fetchRetry`. Where it rests on the model's choices, they are those of log entries 16, 89, 90, 171. -/
def Obligations.MailboxesCarryCommands : Prop :=
  ∀ (m : Fin 16) (init : Fin 128) (fetched : List (BitVec 8)) (s : State),
    let head := s.pkg.g .MBX_CMD_HEAD m
    let x := slotOf (s.pkg.slotBytes m head (fetched.map BitVec.toNat))
    let b := fun (k : Nat) => x.body.getD k 0
    let tag := leOf ((x.body.drop 8).take 8)
    let gap := dist16 x.seq (s.pkg.g .MBX_SEQ m)
    let j : Msg := { seq := x.seq, op := b 0, prio := min (b 1 % 4) (s.pkg.g .MBX_CTRL_PRIO m), inst := b 2 % 16, flags := b 3,
                     args := (x.body.drop 16).take (b 4 + 256 * b 5), tag := tag, order := s.pkg.jobs }
    let raised := fun (t : Pkg) (n : Nat) => (s.pkg.g .MSIX_MASK m = 0 → t.irq.at m = s.pkg.irq.at m + n) ∧
      (s.pkg.g .MSIX_MASK m = 1 → t.irq = s.pkg.irq ∧ (n = 1 → bit (t.g .MSIX_PBA 0) m = true))
    let counted := fun (t : Pkg) => t.g .MBX_CMD_HEAD m = s.pkg.plus .MBX_CMD_HEAD m 1 ∧ t.g .MBX_SLOT_USED m = s.pkg.plus .MBX_SLOT_USED m 1 ∧
      t.g .MBX_MSG_IN m = s.pkg.plus .MBX_MSG_IN m 1
    let answers := fun (st : Status) (orig : Nat) (r : Reason) (res : List Nat) => Yields (.slotTake m fetched) s fun t => counted t ∧
      (t.mail m).run = (s.pkg.mail m).run ∧ (t.mail m).cplq = (s.pkg.mail m).cplq ++
        [{ seq := x.seq, op := b 0, status := st.ctorIdx, orig := orig, reason := r.ctorIdx, qdepth := s.pkg.inflight m, tag := tag, result := res }]
    (s.pkg.intakeOpen m = false → Becomes (.slotTake m fetched) s s.pkg) ∧
    (s.pkg.intakeOpen m = true → x.magicOk = true → x.chkOk = true → x.idx = 0 → (s.pkg.mail m).asm = none →
      (x.last = 0 →
        (gap = 0 →
          (s.pkg.masterFailed = true → answers .fault 0 .mpFailed []) ∧
          (s.pkg.masterFailed = false → cmdShape (b 0) = none → answers .rejected 0 .badOpcode []) ∧
          (s.pkg.masterFailed = false → cmdShape (b 0) ≠ none → msgOk j x.body 0 s.pkg.part.model.dies = false → answers .rejected 0 .badArgs []) ∧
          (s.pkg.masterFailed = false → cmdShape (b 0) ≠ none → msgOk j x.body 0 s.pkg.part.model.dies = true →
            (s.pkg.g .MBX_PKG_STAT_FW_READY 0 = 0 → answers .busy 0 .notReady (List.replicate 8 0)) ∧
            (s.pkg.g .MBX_PKG_STAT_FW_READY 0 = 1 → Yields (.slotTake m fetched) s fun t => counted t ∧ t.g .MBX_SEQ m = (x.seq + 1) % 2 ^ 16 ∧
              (t.mail m).run = (s.pkg.mail m).run ++ [j] ∧ (t.mail m).cplq = (s.pkg.mail m).cplq ∧
              t.sch.items = s.pkg.sch.items ++ [{ num := s.pkg.sch.num, prio := j.prio, inst := if namesInst j.op then some j.inst else none,
                                                  arr := s.pkg.sch.now, ref := .cmd m x.seq }] ∧
              t.g .SCH_CREATED 0 = s.pkg.plus .SCH_CREATED 0 1 ∧ (b 0 ≠ 0x60 → b 0 ≠ 0x61 → s.pkg.sameBytes t) ∧
              (b 0 = 0x60 ∨ b 0 = 0x61 → s.pkg.b .MBX_CTRL_ONCHIP m = true →
                written s.pkg.sram t.sram (0xD0000 + m * 0x3000 + head % s.pkg.ringN m * 64 + 24) (List.replicate 32 0)) ∧
              (b 0 = 0x60 ∨ b 0 = 0x61 → s.pkg.b .MBX_CTRL_ONCHIP m = false →
                written s.pkg.host t.host (s.pkg.g .MBX_CMD_BASE m + (head % s.pkg.ringN m * 64 + 24)) (List.replicate 32 0))))) ∧
        (65280 ≤ gap → ∀ e, (s.pkg.mail m).cache.find? (fun e => e.seq == x.seq) = some e →
          (∀ st, e.status = some st → answers .duplicate st.ctorIdx e.reason e.result) ∧ (e.status = none → answers .duplicate 15 .none [])) ∧
        (32768 ≤ gap → gap < 65280 → answers .rejected 0 .seqStale []) ∧ (gap ≠ 0 → gap < 32768 → answers .rejected 0 .seqGap [])) ∧
      (x.last ≠ 0 → Yields (.slotTake m fetched) s fun t => (t.mail m).asm = some { seq := x.seq, last := x.last, n := 1, body := x.body, pos := head } ∧
        t.g .MBX_CMD_HEAD m = s.pkg.plus .MBX_CMD_HEAD m 1 ∧ (t.mail m).cplq = (s.pkg.mail m).cplq)) ∧
    (s.pkg.intakeOpen m = true → x.magicOk = true → x.chkOk = true → x.idx ≠ 0 → ∀ a, (s.pkg.mail m).asm = some a →
      (x.seq = a.seq → x.idx = a.n → a.n < a.last → Yields (.slotTake m fetched) s fun t => (t.mail m).asm = some { a with n := a.n + 1, body := a.body ++ x.body } ∧
        (t.mail m).cplq = (s.pkg.mail m).cplq) ∧
      (x.seq ≠ a.seq → Yields (.slotTake m fetched) s fun t => t.mail m = s.pkg.mail m ∧ t.g .MBX_SLOT_DISC m = s.pkg.plus .MBX_SLOT_DISC m 1)) ∧
    (s.pkg.intakeOpen m = true → (x.magicOk && x.chkOk) = false → (s.pkg.mail m).asm = none → Yields (.slotTake m fetched) s fun t => t.g .MBX_STAT_SLOT_ERR m = 1 ∧
      t.g .MBX_SLOT_DISC m = s.pkg.plus .MBX_SLOT_DISC m 1 ∧ t.g .MBX_MSG_DISC m = s.pkg.plus .MBX_MSG_DISC m 1 ∧ t.g .MBX_SEQ m = s.pkg.g .MBX_SEQ m ∧
      ∃ c, (t.mail m).cplq = (s.pkg.mail m).cplq ++ [c] ∧ c.seq = x.seq ∧ c.status = Status.rejected.ctorIdx ∧ c.reason = Reason.slotCheck.ctorIdx) ∧
    (∀ a, (s.pkg.mail m).asm = some a → Yields (.partialMessageTimeout m) s fun t => (t.mail m).asm = none ∧
      t.g .MBX_SLOT_DISC m = s.pkg.plus .MBX_SLOT_DISC m a.n ∧ t.g .MBX_MSG_DISC m = s.pkg.plus .MBX_MSG_DISC m 1 ∧
      ∃ c, (t.mail m).cplq = (s.pkg.mail m).cplq ++ [c] ∧ c.seq = a.seq ∧ c.status = Status.rejected.ctorIdx ∧ c.reason = Reason.incomplete.ctorIdx) ∧
    ((s.pkg.mail m).asm = none → Becomes (.partialMessageTimeout m) s s.pkg) ∧
    (∀ c l, (s.pkg.mail m).cplq = c :: l →
      let n := s.pkg.ringN m
      let at_ := s.pkg.g .MBX_CPL_TAIL m % n * 32
      let bytes := (c.entry (1 - (s.pkg.mail m).wrote / n % 2)).map (BitVec.ofNat 8)
      let used := dist16 (s.pkg.g .MBX_CPL_TAIL m) (s.pkg.g .MBX_CPL_HEAD m)
      (used < n → Yields (.completionWrite m) s fun t => (t.mail m).cplq = l ∧ t.g .MBX_CPL_TAIL m = s.pkg.plus .MBX_CPL_TAIL m 1 ∧
        t.g .MBX_CPL_WR m = s.pkg.plus .MBX_CPL_WR m 1 ∧ raised t (b2n (s.pkg.b .MBX_CTRL_IRQ_EN m)) ∧
        (s.pkg.b .MBX_CTRL_ONCHIP m = true → t.host = s.pkg.host ∧ written s.pkg.sram t.sram (0xD0000 + m * 0x3000 + 0x2000 + at_) bytes) ∧
        (s.pkg.b .MBX_CTRL_ONCHIP m = false → t.sram = s.pkg.sram ∧ written s.pkg.host t.host (s.pkg.g .MBX_CPL_BASE m + at_) bytes)) ∧
      (n ≤ used → Becomes (.completionWrite m) s s.pkg)) ∧
    ((s.pkg.mail m).cplq = [] → Becomes (.completionWrite m) s s.pkg) ∧
    (s.pkg.b .MBX_CTRL_ONCHIP m = true → Becomes (.fetchRetry m) s s.pkg) ∧
    (s.pkg.b .MBX_CTRL_ONCHIP m = false → Yields (.fetchRetry m) s fun t => t.g .MBX_STAT_FETCH_ERR m = 1 ∧
      t.g .SCH_DMA_RETRY 0 = min (s.pkg.g .SCH_DMA_RETRY 0 + 1) (2 ^ Fld.width .SCH_DMA_RETRY - 1) ∧
      s.pkg.onlyFields t [(.MBX_STAT_FETCH_ERR, m.val), (.SCH_DMA_RETRY, 0)]) ∧
    (s.pkg.unwatched = true → ∀ v : BitVec 16,
      (dist16 v.toNat head ≤ s.pkg.ringN m → Yields (.doorbell m init v) s fun t => t.g .MBX_CMD_TAIL m = v.toNat ∧
        t.g .MBX_SLOT_POSTED m = s.pkg.plus .MBX_SLOT_POSTED m (2 ^ 32 + dist16 v.toNat head - dist16 (s.pkg.g .MBX_CMD_TAIL m) head) ∧
        s.pkg.onlyFields t [(.MBX_CMD_TAIL, m.val), (.MBX_SLOT_POSTED, m.val)]) ∧
      (s.pkg.ringN m < dist16 v.toNat head → Yields (.doorbell m init v) s fun t => s.pkg.refused t .MBX 0 5 init) ∧
      (dist16 (s.pkg.g .MBX_CPL_TAIL m) v.toNat ≤ s.pkg.ringN m → Becomes (.cplHeadWrite m init v) s (s.pkg.p .MBX_CPL_HEAD m v.toNat)) ∧
      (s.pkg.ringN m < dist16 (s.pkg.g .MBX_CPL_TAIL m) v.toNat → Yields (.cplHeadWrite m init v) s fun t => s.pkg.refused t .MBX 0 5 init) ∧
      (s.pkg.part.model = .gl8 ∨ s.pkg.g .MBX_CTRL_PORT m = 0 →
        let idle := s.pkg.g .MBX_CTRL_EN m = 0 ∧ s.pkg.inflight m = 0 ∧ s.pkg.cplPend m = 0
        let cleared := [Fld.MBX_CMD_TAIL, .MBX_CMD_HEAD, .MBX_CPL_TAIL, .MBX_CPL_HEAD, .MBX_SLOT_POSTED, .MBX_SLOT_USED, .MBX_SLOT_DISC, .MBX_MSG_IN,
          .MBX_MSG_DISC, .MBX_CPL_WR, .MBX_MSG_DUP, .MBX_MSG_BUSY]
        (idle → Yields (.mailboxReset m init) s fun t => t.mail m = {} ∧ (∀ f ∈ cleared, t.g f m = 0) ∧
          t = { s.pkg with flds := t.flds, mbx := t.mbx } ∧ s.pkg.fieldsOutside t (cleared.map fun f => (f, m.val))) ∧
        (¬ idle → Yields (.mailboxReset m init) s fun t => s.pkg.refused t .MBX 0 4 init)))

/-- Events, deferred commands and watchdogs (R343, R349-R351, Tables 172 and 173). EVENT_WRITE writes the oldest event when the ring has room.
DEFERRED_ACTION_DONE ends a deferred send whose lane is in FAULT. A processor kicks its own watchdog and no other. WDOG_EXPIRY puts a READY processor that
debug does not hold into RESTARTING; MP_REBOOT_DONE brings it back and answers the MP_RESTARTs that named it; MP_FAILED gives it up, and faults the running
instances on its die, of the whole package for die 0, whose commands all end. It says under which conditions these commands complete, and with what next
state: `eventWrite`, `deferredActionDone`, `wdogKick`, `wdogExpiry`, `mpRebootDone`, `mpFailed`. Where it rests on the model's choices, they are those of
log entries 22, 90, 95, 117, 174. -/
def Obligations.EventsAndWatchdogsAct : Prop :=
  ∀ (d : Fin 8) (m : Fin 16) (seq : BitVec 16) (s : State),
    let st := s.pkg.g .MBX_MP_STAT_STATE d
    let n := 2 ^ s.pkg.g .MBX_EVT_CTRL_LOG2N 0
    let room := s.pkg.b .MBX_EVT_CTRL_EN 0 && decide (dist16 (s.pkg.g .MBX_EVT_TAIL 0) (s.pkg.g .MBX_EVT_HEAD 0) < n)
    let raised := fun (t : Pkg) (v n : Nat) => (s.pkg.g .MSIX_MASK v = 0 → t.irq.at v = s.pkg.irq.at v + n) ∧
      (s.pkg.g .MSIX_MASK v = 1 → t.irq = s.pkg.irq ∧ (n = 1 → bit (t.g .MSIX_PBA 0) v = true))
    let posted := fun (t : Pkg) (typ : Nat) (data : List Nat) => s.pkg.evts.length < 256 → ∃ e, e ∈ t.evts ∧ e.typ = typ ∧ e.data = data
    (∀ e l, s.pkg.evts = e :: l → room = true → Yields .eventWrite s fun t => t.g .MBX_EVT_TAIL 0 = s.pkg.plus .MBX_EVT_TAIL 0 1 ∧
      t.g .MBX_EVT_WR 0 = s.pkg.plus .MBX_EVT_WR 0 1 ∧ raised t 16 (b2n (s.pkg.b .MBX_EVT_CTRL_IRQ_EN 0)) ∧
      (s.pkg.evtLost = 0 → t.evts = l ∧ t.evtLost = 0) ∧
      (s.pkg.evtLost ≠ 0 → l.length < 256 → t.evtLost = 0 ∧ ∃ x, t.evts = l ++ [x] ∧ x.typ = 15 ∧ x.data = leVals s.pkg.evtLost 4) ∧
      written s.pkg.host t.host (s.pkg.g .MBX_EVT_BASE 0 + s.pkg.g .MBX_EVT_TAIL 0 % n * 32)
        ((e.entry (1 - s.pkg.g .MBX_EVT_WR 0 / n % 2)).map (BitVec.ofNat 8)) ∧
      t = { s.pkg with flds := t.flds, host := t.host, evts := t.evts, evtLost := t.evtLost, irq := t.irq }) ∧
    (s.pkg.evts = [] ∨ room = false → Becomes .eventWrite s s.pkg) ∧
    (∀ x, (s.pkg.sends.find? fun x => x.mbx == m.val && x.seq == seq.toNat && x.deferred && !x.ended) = some x →
      ((∃ l ∈ portLanes x.port, s.pkg.laneSt l = .fault) → Yields (.deferredActionDone m seq) s fun t =>
        x ∉ t.sends ∧ { x with ended := true } ∈ t.sends ∧
        posted t 2 ([m.val, 0] ++ leVals seq.toNat 2 ++ [Status.fault.ctorIdx, Reason.laneFault.ctorIdx])) ∧
      ((∀ l ∈ portLanes x.port, s.pkg.laneSt l ≠ .fault) → Becomes (.deferredActionDone m seq) s s.pkg)) ∧
    (s.pkg.unwatched = true → d.val < s.pkg.part.model.dies → ∀ init : Fin 128,
      (init.val = d → Becomes (.wdogKick d init) s s.pkg) ∧ (init.val ≠ d → Yields (.wdogKick d init) s fun t => s.pkg.refused t .MBX d 4 init)) ∧
    (st = 2 → s.pkg.g .DBG_MP_STAT_HALTED d = 0 ∨ s.pkg.g .DBG_MP_CTL_WDOG_RUN d = 1 → Yields (.wdogExpiry d) s fun t => t.g .MBX_MP_STAT_STATE d = 3 ∧
      t.g .MBX_MP_STAT_WDOG_EXP d = 1 ∧ t.g .MBX_WDOG_CNT d = min (s.pkg.g .MBX_WDOG_CNT d + 1) (2 ^ Fld.width .MBX_WDOG_CNT - 1) ∧ raised t 17 1 ∧
      ∀ k p x, s.pkg.job k p = some x → x.started = true → x.die = d → x.op ≠ 0x70 → t.job k p = none) ∧
    (st ≠ 2 ∨ s.pkg.g .DBG_MP_STAT_HALTED d = 1 ∧ s.pkg.g .DBG_MP_CTL_WDOG_RUN d = 0 → Becomes (.wdogExpiry d) s s.pkg) ∧
    (st = 3 → s.pkg.g .DBG_MP_STAT_HALTED d = 0 → Yields (.mpRebootDone d) s fun t => t.g .MBX_MP_STAT_STATE d = 2 ∧
      t.g .MBX_MP_RESTART_CNT d = min (s.pkg.g .MBX_MP_RESTART_CNT d + 1) (2 ^ Fld.width .MBX_MP_RESTART_CNT - 1) ∧ posted t 6 [d.val, 0] ∧ s.pkg.sameBytes t ∧
      ∀ k p x, s.pkg.job k p = some x → x.started = true → x.op = 0x70 → x.arg 0 1 = d → t.completed k p .ok .none []) ∧
    (st ≠ 3 ∨ s.pkg.g .DBG_MP_STAT_HALTED d = 1 → Becomes (.mpRebootDone d) s s.pkg) ∧
    (st = 3 → Yields (.mpFailed d) s fun t => t.g .MBX_MP_STAT_STATE d = 4 ∧ raised t 17 1 ∧
      (∀ i : Fin 16, s.pkg.runState i = .running → d.val = 0 ∨ s.pkg.onDie i d = true → t.runState i = .faulted ∧
        t.g .ARY_RUN_STAT_STOP_CAUSE i = Cause.engineFault.code) ∧
      (d.val = 0 → t.g .MBX_PKG_STAT_MASTER_FAILED 0 = 1 ∧ ∀ k p, t.job k p = none)) ∧
    (st ≠ 3 → Becomes (.mpFailed d) s s.pkg)

/-! ## The scheduler and the transactor flows -/

/-- Engines and flows (R359-R363, R365-R368, R372, R374-R376). WORK_ITEM_DISPATCH gives a free engine the eligible item of highest priority, the oldest of
them. An outbound entry reaches its slot of the host ring, and only from the front are entries released, with the device pointer and the status line; under
purge it is dropped. An inbound entry in sequence and of a good length is staged; any other stops the flow. A failed transfer is shown and counted. The
host pointer moves within the ring, a call is answered oldest first, SNAP captures the counts and RETURN puts an engine back; each is refused where its
rule says so (with no watchpoint enabled). It says under which conditions these commands complete, and with what next state: `outboundEntryWriteDone`,
`callAnswer`, `flowHostPointerWrite`, `inboundFetchDone`, `workItemDispatch`, `dmaRetry`, `schSnap`, `engineReturn`. Where it rests on the model's choices,
they are those of log entries 20, 67, 68, 125, 170, 172. -/
def Obligations.EnginesAndFlowsAct : Prop :=
  ∀ (e : Fin 40) (ns : Nat) (s : State),
    let p := s.pkg.pass ns
    let gone := fun (t : Pkg) (x : Item) => ∀ y ∈ t.sch.items, y.num ≠ x.num
    (∀ x, s.pkg.engRoom e = true → p.selectItem e = some x → Yields (.workItemDispatch e ns) s fun t =>
      p.eligible e x = true ∧ (s.pkg.part.edf = false → ∀ y ∈ p.sch.items, p.eligible e y = true → p.goesBefore y x = false) ∧
      t.sch.items = (p.sch.items.map fun y => if y.num = x.num then { y with engine := some e.val } else y) ∧ t.sch.now = s.pkg.sch.now + ns ∧
      t = { s.pkg with flds := t.flds, sch := t.sch } ∧ s.pkg.accounted t) ∧
    (s.pkg.engRoom e = false ∨ p.selectItem e = none → Becomes (.workItemDispatch e ns) s p) ∧
    (∀ x f q ent, (s.pkg.onEngine e).find? (fun x => match x.ref with | .out _ _ => true | _ => false) = some x → x.ref = .out f q →
      ((s.pkg.flow f).out.find? fun y => y.fseq == q) = some ent →
      let slot := s.pkg.g .SCH_FLOW_RING f + ent.slot * s.pkg.g .SCH_FLOW_RINGCFG_ENTRY_BYTES f
      let line := s.pkg.g .SCH_FLOW_RING f + s.pkg.flowN f * s.pkg.g .SCH_FLOW_RINGCFG_ENTRY_BYTES f
      let entry := entryBytes ent.words.length ent
      (s.pkg.flowBound f = true → ∀ rest, (s.pkg.flow f).out = ent :: rest → (∀ y, rest.head? = some y → y.written = false) → (∀ y ∈ rest, y.fseq ≠ q) →
        Yields (.outboundEntryWriteDone e ns) s fun t => gone t x ∧ (t.flow f).out = rest ∧ t.g .SCH_FLOW_DEV f = s.pkg.plus .SCH_FLOW_DEV f 1 ∧
          t.g .SCH_FLOW_REL f = s.pkg.plus .SCH_FLOW_REL f 1 ∧ t.g .SCH_DMA_DONE 0 = s.pkg.plus .SCH_DMA_DONE 0 1 ∧
          (∃ h, written s.pkg.host h slot entry ∧ written h t.host line (leBytes (t.g .SCH_FLOW_DEV f) 2 ++ List.replicate 62 0)) ∧
          t = { s.pkg with flds := t.flds, sch := t.sch, host := t.host }) ∧
      (s.pkg.flowBound f = true → ∀ y rest, (s.pkg.flow f).out = y :: rest → y.fseq ≠ q → y.written = false →
        Yields (.outboundEntryWriteDone e ns) s fun t => gone t x ∧ t.g .SCH_FLOW_DEV f = s.pkg.g .SCH_FLOW_DEV f ∧
          (t.flow f).out = ((s.pkg.flow f).out.map fun y => if y.fseq = q then { y with written := true } else y) ∧
          written s.pkg.host t.host slot entry ∧ t = { s.pkg with flds := t.flds, sch := t.sch, host := t.host }) ∧
      (s.pkg.flowBound f = false → (s.pkg.flow f).unbind = none → Yields (.outboundEntryWriteDone e ns) s fun t => gone t x ∧
        (t.flow f).out = ((s.pkg.flow f).out.filter fun y => y.fseq != q) ∧ t.g .SCH_FLOW_PURGED f = s.pkg.plus .SCH_FLOW_PURGED f 1 ∧
        t.g .SCH_DMA_DISCARD 0 = s.pkg.plus .SCH_DMA_DISCARD 0 1 ∧ ∀ a, a < slot ∨ slot + entry.length ≤ a → readByte t.host a = readByte s.pkg.host a)) ∧
    ((s.pkg.onEngine e).find? (fun x => match x.ref with | .out _ _ => true | _ => false) = none → Becomes (.outboundEntryWriteDone e ns) s p) ∧
    (∀ x f, (s.pkg.onEngine e).find? (fun x => match x.ref with | .inb _ => true | _ => false) = some x → x.ref = .inb f →
      ∀ (fseq : BitVec 32) (len : BitVec 16) (words : List (BitVec 16)),
      let fits := len ≠ 0 ∧ len.toNat ≤ 1024 ∧ len.toNat ≤ (s.pkg.g .SCH_FLOW_RINGCFG_ENTRY_BYTES f - 16) / 2
      let next := fseq.toNat = s.pkg.g .SCH_FLOW_TAKEN f
      (s.pkg.flowBound f = true → next → fits → Yields (.inboundFetchDone e ns fseq len words) s fun t => t.g .SCH_FLOW_DEV f = s.pkg.plus .SCH_FLOW_DEV f 1 ∧
        (t.flow f).inb = (s.pkg.flow f).inb ++ [(List.range len.toNat).map fun n => (words.map BitVec.toNat).getD n 0] ∧
        t.g .SCH_FLOW_TAKEN f = s.pkg.plus .SCH_FLOW_TAKEN f 1 ∧ t.g .SCH_FLOW_STAT_SEQ_ERR f = s.pkg.g .SCH_FLOW_STAT_SEQ_ERR f) ∧
      (s.pkg.flowBound f = true → ¬ next → Yields (.inboundFetchDone e ns fseq len words) s fun t => gone t x ∧ (t.flow f).halt = true ∧ t.g .SCH_FLOW_STAT_SEQ_ERR f = 1 ∧
        (t.flow f).inb = (s.pkg.flow f).inb ∧ s.pkg.sameBytes t) ∧
      (s.pkg.flowBound f = true → next → ¬ fits → Yields (.inboundFetchDone e ns fseq len words) s fun t => gone t x ∧ (t.flow f).halt = true ∧ t.g .SCH_FLOW_STAT_LEN_ERR f = 1 ∧
        (t.flow f).inb = (s.pkg.flow f).inb ∧ s.pkg.sameBytes t) ∧
      (s.pkg.flowBound f = false → (s.pkg.flow f).unbind = none → Yields (.inboundFetchDone e ns fseq len words) s fun t => gone t x ∧ (t.flow f).inb = (s.pkg.flow f).inb ∧
        t.g .SCH_FLOW_PURGED f = s.pkg.plus .SCH_FLOW_PURGED f 1)) ∧
    (∀ x, (s.pkg.onEngine e).head? = some x →
      (∀ f, (∃ q, x.ref = .out f q) ∨ x.ref = .inb f → Yields (.dmaRetry e) s fun t => t.g .SCH_FLOW_STAT_DMA_ERR f = 1 ∧
        t.g .SCH_DMA_RETRY 0 = min (s.pkg.g .SCH_DMA_RETRY 0 + 1) (2 ^ Fld.width .SCH_DMA_RETRY - 1) ∧
        s.pkg.onlyFields t [(.SCH_DMA_RETRY, 0), (.SCH_FLOW_STAT_DMA_ERR, f)]) ∧
      (x.ref.code ≠ 3 → Becomes (.dmaRetry e) s s.pkg)) ∧
    (s.pkg.onEngine e = [] → Becomes (.dmaRetry e) s s.pkg) ∧
    (s.pkg.unwatched = true → ∀ (init : Fin 128) (f : Fin 4096),
      (∀ k rest (hi lo : BitVec 32), (s.pkg.flow f).calls = (k, true) :: rest →
        Becomes (.callAnswer f init none hi) s
          (s.pkg.setFlow f { s.pkg.flow f with calls := rest, word := s.pkg.g .SCH_FLOW_ANS_LO f + hi.toNat * 2 ^ 32 }) ∧
        Becomes (.callAnswer f init (some lo) hi) s
          ((s.pkg.p .SCH_FLOW_ANS_LO f lo.toNat).setFlow f { s.pkg.flow f with calls := rest, word := lo.toNat + hi.toNat * 2 ^ 32 })) ∧
      ((∀ k rest, (s.pkg.flow f).calls ≠ (k, true) :: rest) → ∀ lo hi, Yields (.callAnswer f init lo hi) s fun t => s.pkg.refused t .SCH 0 4 init) ∧
      (∀ v : BitVec 16,
        let inbound := s.pkg.g .SCH_FLOW_STAT_DIR f = 1
        let gap := if inbound then dist16 v.toNat (s.pkg.g .SCH_FLOW_DEV f) else dist16 (s.pkg.g .SCH_FLOW_DEV f) v.toNat
        let taken := s.pkg.g .SCH_FLOW_STAT_STATE f ≠ 0 ∧ gap ≤ s.pkg.flowN f
        (taken → ¬ inbound → Becomes (.flowHostPointerWrite f init v) s (s.pkg.p .SCH_FLOW_HOST f v.toNat)) ∧
        (taken → inbound → Yields (.flowHostPointerWrite f init v) s fun t => t.g .SCH_FLOW_HOST f = v.toNat ∧
          (s.pkg.flowBound f = true → (s.pkg.flow f).halt = false → s.pkg.staged f < s.pkg.flowDepth f → v.toNat ≠ s.pkg.g .SCH_FLOW_DEV f →
            ∃ y ∈ t.sch.items, y.ref = .inb f.val) ∧ s.pkg.sameBytes t) ∧
        (¬ taken → Yields (.flowHostPointerWrite f init v) s fun t => s.pkg.refused t .SCH 0 5 init)) ∧
      Yields (.schSnap init) s (fun t => t.flds = s.pkg.flds ∧ t = { s.pkg with snaps := t.snaps } ∧
        (∀ k : Fin 4, t.gs .SCH_CREATED k = s.pkg.g .SCH_CREATED k ∧ t.gs .SCH_DONE k = s.pkg.g .SCH_DONE k ∧
          t.gs .SCH_READY k = (s.pkg.sch.items.filter fun x => x.ref.code == k.val && x.engine.isNone).length % 2 ^ Fld.width .SCH_READY ∧
          t.gs .SCH_RUN k = (s.pkg.sch.items.filter fun x => x.ref.code == k.val && x.engine.isSome).length % 2 ^ Fld.width .SCH_RUN) ∧
        t.gs .SCH_FLOW_TAKEN f = s.pkg.g .SCH_FLOW_TAKEN f) ∧
      (s.pkg.engPresent e = true → Becomes (.engineReturn e init) s (s.pkg.p .SCH_ENG_STAT_FAULT e 0)) ∧
      (s.pkg.engPresent e = false → Yields (.engineReturn e init) s fun t => s.pkg.refused t .SCH 0 1 init))

/-! ## The service rings and region power -/

/-- The service rings (R377-R387). RING_REQUEST under a free tag counts, waits for its response, and is performed at its target as `Pkg.access` says; a packet
found in error is dropped and counted, and one for another package goes by its route or is refused; a response found in error is dropped and counted; a tag
in use inserts nothing. RING_RESPONSE gives the initiator the words and ends the wait; a late one is counted and frees the tag. A refused request for
another package is recorded on die 0. RING_TIMEOUT ends the wait, counts, and logs the first; its tag stays taken until TIMED_OUT_TAG_RELEASE. RING_MSG
delivers the oldest notification of its die to the acting processor, which forms the event the notification tells of (R214, R222, R327); while that
processor does not act it waits. It says under which conditions these commands complete, and with what next state: `ringRequest`, `ringResponse`,
`ringMsg`, `ringTimeout`, `timedOutTagRelease`. Where it rests on the model's choices, they are those of log entries 71, 72, 102, 178, 181. -/
def Obligations.RingsCarryRequests : Prop :=
  ∀ (r : RingPkt) (init : Fin 128) (tag : BitVec 6) (d : Fin 8) (s : State),
    let k := (localInit r.init).getD 0
    let x : RingReq := { init := r.init, tag := r.tag, addr := r.addr, inst := r.inst, write := r.write, num := s.pkg.svc.num, prio := r.rank,
                         away := r.dst.isSome }
    let p := s.pkg.insert r k none
    let free := s.pkg.hasInit r.init = true ∧ s.pkg.tagFree r.init r.tag = true
    let answer := fun (p : Pkg) (err : Nat) (l : List Nat) => p.respond r.init r.tag s.pkg.svc.num err l r.back
    let turned := fun (p : Pkg) (c : Nat) => Yields (.ringRequest r) s fun t => ∃ q, p.refused q .SVC 0 c r.init ∧ t = answer q c []
    let at_ := if r.dst.isSome || decide (s.pkg.part.model.dies ≤ bits r.addr 37 3) then 0 else bits r.addr 37 3
    (¬ free → Becomes (.ringRequest r) s s.pkg) ∧
    (free → p.svc.out = s.pkg.svc.out ++ [x] ∧ p.g .SVC_REQ k = s.pkg.plus .SVC_REQ k 1 ∧
      (r.ecc = 0 → r.dst = none → Becomes (.ringRequest r) s (answer (p.access s.fuses r.access).2 (p.access s.fuses r.access).1.err (p.access s.fuses r.access).1.data)) ∧
      (r.ecc = 1 → r.dst = none → Yields (.ringRequest r) s fun t => ∃ q : Pkg, q.g .SVC_STAT_CE at_ = 1 ∧
        q.g .SVC_CE_CNT at_ = min (p.g .SVC_CE_CNT at_ + 1) (2 ^ Fld.width .SVC_CE_CNT - 1) ∧ p.onlyFields q [(.SVC_CE_CNT, at_), (.SVC_STAT_CE, at_)] ∧
        t = answer (q.access s.fuses r.access).2 (q.access s.fuses r.access).1.err (q.access s.fuses r.access).1.data) ∧
      (r.ecc = 2 → Yields (.ringRequest r) s fun t => t.g .SVC_STAT_UE at_ = 1 ∧
        t.g .SVC_UE_CNT at_ = min (p.g .SVC_UE_CNT at_ + 1) (2 ^ Fld.width .SVC_UE_CNT - 1) ∧ p.onlyFields t [(.SVC_UE_CNT, at_), (.SVC_STAT_UE, at_)]) ∧
      (∀ dst, r.ecc ≠ 2 → r.dst = some dst →
        let p := if r.ecc = 1 then p.svcCe 0 else p
        (r.init ≠ 0 → turned p 4) ∧ (r.init = 0 → 4 < r.len → turned p 2) ∧ (r.init = 0 → r.len ≤ 4 → s.pkg.route dst = none → turned p 1) ∧
        (∀ q, r.init = 0 → r.len ≤ 4 → s.pkg.route dst = some q → Becomes (.ringRequest r) s (p.sendSvc q (r.flit s.pkg.part.pkgId dst))))) ∧
    (∀ a k, s.pkg.svc.rsp.find? (fun x => x.init == init.val && x.tag == tag.toNat) = some a → localInit init = some k →
      let at_ := initDie init
      (a.ecc = 2 → Yields (.ringResponse init tag none) s fun t => t.svc = { s.pkg.svc with rsp := s.pkg.svc.rsp.erase a } ∧ t.g .SVC_STAT_UE at_ = 1 ∧
        t.g .SVC_UE_CNT at_ = min (s.pkg.g .SVC_UE_CNT at_ + 1) (2 ^ Fld.width .SVC_UE_CNT - 1) ∧ t = { s.pkg with flds := t.flds, svc := t.svc } ∧
        s.pkg.fieldsOutside t [(.SVC_UE_CNT, at_), (.SVC_STAT_UE, at_)]) ∧
      (∀ y, a.ecc = 1 → s.pkg.svc.out.find? (fun x => x.num == a.num) = some y → Yields (.ringResponse init tag none) s fun t =>
        t.svc.out = s.pkg.svc.out.erase y ∧ t.g .SVC_STAT_CE at_ = 1 ∧ t.g .SVC_UE_CNT at_ = s.pkg.g .SVC_UE_CNT at_ ∧
        t.g .SVC_CE_CNT at_ = min (s.pkg.g .SVC_CE_CNT at_ + 1) (2 ^ Fld.width .SVC_CE_CNT - 1)) ∧
      (∀ y, a.ecc = 0 → s.pkg.svc.out.find? (fun x => x.num == a.num) = some y → y.remote = none → (s.pkg.dbg.busy = none ∨ isDebug init.val = false) →
        Yields (.ringResponse init tag none) s fun t => t.svc.rsp = s.pkg.svc.rsp.erase a ∧ t.svc.out = s.pkg.svc.out.erase y ∧
          Store.get [] t.svc.got init = a.data ∧ t.g .SVC_OUTST k = (s.pkg.g .SVC_OUTST k - 1) ∧
          (a.err = 0 → t.g .SVC_RSP k = s.pkg.plus .SVC_RSP k 1) ∧ (a.err ≠ 0 → t.g .SVC_ERR k = s.pkg.plus .SVC_ERR k 1) ∧
          t = { s.pkg with flds := t.flds, svc := t.svc } ∧ s.pkg.fieldsOutside t [(.SVC_RSP, k), (.SVC_ERR, k), (.SVC_OUTST, k)]) ∧
      (a.ecc = 0 → s.pkg.svc.out.find? (fun x => x.num == a.num) = none → Yields (.ringResponse init tag none) s fun t => t.svc.rsp = s.pkg.svc.rsp.erase a ∧
        t.svc.late = (s.pkg.svc.late.filter fun x => x.num != a.num) ∧ t.g .SVC_LATE k = s.pkg.plus .SVC_LATE k 1 ∧
        t = { s.pkg with flds := t.flds, svc := t.svc } ∧ s.pkg.fieldsOutside t [(.SVC_LATE, k)])) ∧
    (s.pkg.svc.rsp.find? (fun x => x.init == init.val && x.tag == tag.toNat) = none → Becomes (.ringResponse init tag none) s s.pkg) ∧
    (∀ y k, s.pkg.svc.out.find? (fun x => x.init == init.val && x.tag == tag.toNat) = some y → localInit init = some k → y.remote = none →
      (s.pkg.dbg.busy = none ∨ isDebug init.val = false) →
      Yields (.ringTimeout init tag none) s fun t => t.svc.out = s.pkg.svc.out.erase y ∧ t.svc.late = s.pkg.svc.late ++ [y] ∧
        t.tagFree y.init y.tag = false ∧ t.g .SVC_TMO_CNT k = s.pkg.plus .SVC_TMO_CNT k 1 ∧ t.g .SVC_STAT_TMO (k / 10) = 1 ∧
        t.g .SVC_TMO_LOG_INFO_VALID (k / 10) = 1 ∧
        (s.pkg.g .SVC_TMO_LOG_INFO_VALID (k / 10) = 0 → t.g .SVC_TMO_LOG_INFO_INITIATOR (k / 10) = initCode init ∧
          t.g .SVC_TMO_LOG_INFO_WRITE (k / 10) = b2n y.write ∧ t.g .SVC_TMO_LOG_INFO_INST_VALID (k / 10) = b2n y.inst.isSome) ∧
        (s.pkg.g .SVC_TMO_LOG_INFO_VALID (k / 10) = 1 → t.g .SVC_TMO_LOG_INFO_INITIATOR (k / 10) = s.pkg.g .SVC_TMO_LOG_INFO_INITIATOR (k / 10)) ∧
        t = { s.pkg with flds := t.flds, svc := t.svc }) ∧
    (s.pkg.svc.out.find? (fun x => x.init == init.val && x.tag == tag.toNat) = none → Becomes (.ringTimeout init tag none) s s.pkg) ∧
    (Yields (.timedOutTagRelease init tag) s fun t => t = { s.pkg with svc := { s.pkg.svc with late := t.svc.late } } ∧
      (∀ y ∈ t.svc.late, ¬ (y.init = init.val ∧ y.tag = tag.toNat)) ∧
      ((∀ y ∈ s.pkg.svc.out, ¬ (y.init = init.val ∧ y.tag = tag.toNat)) → t.tagFree init tag.toNat = true)) ∧
    (∀ e, s.pkg.notes.find? (fun e => e.1 == d.val) = some e → s.pkg.mpActs d = true →
      let q : Pkg := { s.pkg with notes := s.pkg.notes.erase e, svc := { s.pkg.svc with inbox := s.pkg.svc.inbox ++ [e] } }
      let n := e.2 / 16
      (e.2 % 16 ≠ Note.supply.ctorIdx → e.2 % 16 ≠ Note.turner.ctorIdx → Becomes (.ringMsg d) s q) ∧
      (e.2 % 16 = Note.supply.ctorIdx → s.pkg.evts.length < 256 → Yields (.ringMsg d) s fun t =>
        t = { q with flds := t.flds, evts := t.evts } ∧ q.fieldsOutside t [(.MBX_EVT_PROD, 0)] ∧
        ∃ v, t.evts = s.pkg.evts ++ [v] ∧ v.typ = 8 ∧ v.inst = s.pkg.bankOwner n ∧ v.data = [n / 4, n % 4]) ∧
      (e.2 % 16 = Note.turner.ctorIdx → ∀ f, faddr n = some f → s.pkg.evts.length + (s.pkg.frameInsts f).length ≤ 256 → Yields (.ringMsg d) s fun t =>
        t = { q with flds := t.flds, evts := t.evts } ∧ q.fieldsOutside t [(.MBX_EVT_PROD, 0)] ∧
        ∀ i ∈ s.pkg.frameInsts f, ∃ v ∈ t.evts, v.typ = 3 ∧ v.inst = some i ∧ v.data = leVals f.code 4 ++ leVals (s.pkg.virtFrame i f) 4)) ∧
    (s.pkg.notes.find? (fun e => e.1 == d.val) = none ∨ s.pkg.mpActs d = false → Becomes (.ringMsg d) s s.pkg)

/-- The power domain of a region (R388-R391, Tables 194 and 195). A switch-off of an unowned region that is ON drains it, by command or when it has had no
owner for SVC_PD_AUTO and the firmware of its die acts; an owned region, the target of a relocation and one in transition refuse a command. Drained, its
fabric lines are not valid; a drain that does not end returns it to ON. Switching off loses all it holds, and switching on leaves its contents undefined.
It says under which conditions these commands complete, and with what next state: `regionPowerOff`, `regionDrained`, `drainTimeout`, `regionOff`,
`regionPowerOn`, `regionOn`, `autoPowerOff`. Where it rests on the model's choices, they are those of log entries 11, 69, 97, 180. -/
def Obligations.RegionsPowerOffAndOn : Prop :=
  ∀ (p : Fin 512) (init : Fin 128) (us : BitVec 16) (s : State),
    let st := s.pkg.pdState p
    let d := p.val / 64
    let owned := s.pkg.regionOwner p ≠ none ∨ s.pkg.relocTarget p = true
    (s.pkg.unwatched = true → d < s.pkg.part.model.dies →
      (st = 0 → ¬owned → Becomes (.regionPowerOff p init) s (s.pkg.p .SVC_PD_STAT_STATE p 1)) ∧
      (st = 3 → ¬owned → Becomes (.regionPowerOff p init) s s.pkg) ∧
      (st = 0 ∨ st = 3 → owned → Yields (.regionPowerOff p init) s fun t => s.pkg.refused t .SVC d 4 init) ∧
      (st = 3 → Becomes (.regionPowerOn p init) s (s.pkg.p .SVC_PD_STAT_STATE p 4)) ∧
      (st = 0 → Becomes (.regionPowerOn p init) s s.pkg) ∧
      (st = 1 ∨ st = 2 ∨ st = 4 → Yields (.regionPowerOff p init) s (fun t => s.pkg.refused t .SVC d 4 init) ∧
        Yields (.regionPowerOn p init) s fun t => s.pkg.refused t .SVC d 4 init)) ∧
    (st = 1 → s.pkg.quiet p = true → Yields (.regionDrained p) s fun t => t.pdState p = 2 ∧
      (∀ k : Nat, k / 512 = p.val → t.fab.exp.at k = 0) ∧ (∀ k : Nat, k / 32 = p.val → t.fab.egr.at k = 0 ∧ t.fab.ing.at k = 0 ∧ t.cav.lines.at k = 0) ∧
      (∀ k : Nat, k / 512 ≠ p.val → t.fab.exp.at k = s.pkg.fab.exp.at k) ∧ s.pkg.sameBytes t ∧ s.pkg.fieldsOutside t [(.SVC_PD_STAT_STATE, p.val)]) ∧
    (st ≠ 1 ∨ s.pkg.quiet p = false → Becomes (.regionDrained p) s s.pkg) ∧
    (st = 1 → s.pkg.quiet p = false → Yields (.drainTimeout p) s fun t => t.pdState p = 0 ∧ t.g .SVC_PD_STAT_TMO p = 1 ∧
      s.pkg.onlyFields t [(.SVC_PD_STAT_STATE, p.val), (.SVC_PD_STAT_TMO, p.val)]) ∧
    (st ≠ 1 ∨ s.pkg.quiet p = true → Becomes (.drainTimeout p) s s.pkg) ∧
    (st = 2 → Yields (.regionOff p us) s fun t => t.pdState p = 3 ∧ t.g .SVC_PD_US p = us.toNat ∧
      t.g .SVC_PD_CNT_OFF p = min (s.pkg.g .SVC_PD_CNT_OFF p + 1) (2 ^ Fld.width .SVC_PD_CNT_OFF - 1) ∧
      (∀ k : Nat, k / (2048 * 2048) = p.val → t.fab.data.at k = 0) ∧ (∀ k : Nat, k / (2048 * 2048) ≠ p.val → t.fab.data.at k = s.pkg.fab.data.at k) ∧
      (∀ b a : Nat, b / 16 = p.val → a < 16384 → t.caveWord b a = 0) ∧ (∀ b a : Nat, b / 16 ≠ p.val → a < 16384 → t.caveWord b a = s.pkg.caveWord b a) ∧
      s.pkg.sameBytes t ∧ s.pkg.fieldsOutside t [(.SVC_PD_STAT_STATE, p.val), (.SVC_PD_US, p.val), (.SVC_PD_CNT_OFF, p.val)]) ∧
    (st ≠ 2 → Becomes (.regionOff p us) s s.pkg) ∧
    (st = 4 → Yields (.regionOn p us) s fun t => t.pdState p = 0 ∧ t.g .SVC_PD_US p = us.toNat ∧
      t.g .SVC_PD_CNT_ON p = min (s.pkg.g .SVC_PD_CNT_ON p + 1) (2 ^ Fld.width .SVC_PD_CNT_ON - 1) ∧
      (∀ b a : Nat, b / 16 ≠ p.val → a < 16384 → t.caveWord b a = s.pkg.caveWord b a) ∧ s.pkg.sameBytes t ∧
      s.pkg.fieldsOutside t [(.SVC_PD_STAT_STATE, p.val), (.SVC_PD_US, p.val), (.SVC_PD_CNT_ON, p.val)]) ∧
    (st ≠ 4 → Becomes (.regionOn p us) s s.pkg) ∧
    (s.pkg.g .SVC_PD_AUTO d ≠ 0 → st = 0 → ¬owned → s.pkg.mpActs d = true → Becomes (.autoPowerOff p) s (s.pkg.p .SVC_PD_STAT_STATE p 1)) ∧
    (s.pkg.g .SVC_PD_AUTO d = 0 ∨ st ≠ 0 ∨ owned ∨ s.pkg.mpActs d = false → Becomes (.autoPowerOff p) s s.pkg)

/-! ## Network time -/

/-- The clock, its servo and its PTP messages (R397-R400, R403-R405, R413). Network time advances by the periods that pass, at TIM_RATE, and takes up an offset
being slewed no faster than TIM_SLEW_MAX; a TIM_RATE that waits applies when a whole microsecond passes. An offset that the servo measures, or TIM_ADJ
applies, at or above TIM_STEP_THR or while VALID is 0 steps the time in one operation, counted and logged; a smaller one sets the rate or is slewed.
Sixteen offsets within TIM_LOCK_THR lock and four outside it unlock. The loss of the master begins HOLDOVER at the mean rate, while the firmware acts.
Event messages carry the time they crossed the ball, within 4 ns, with the board delay of their port. That bound of 4 ns is the time error of the part
(R400); TIM_ADJ is refused in PTP mode (with no watchpoint enabled). It says under which conditions these commands complete, and with what next state:
`ptpFrameReceive`, `ptpFrameTransmit`, `servoOffset`, `masterLost`, `timeAdjust`, `ntMicrosecond`. Where it rests on the model's choices, they are those of
log entries 11, 15, 75, 78, 79, 80. -/
def Obligations.NetworkTimeActs : Prop :=
  ∀ (s : State),
    let p := s.pkg
    let e := p.g .TIM_PTP_CFG_PORT 0
    let now := p.tim.ns * 1000 + p.tim.frac * 1000 / 2 ^ 32
    let eth := fun (t : Pkg) => Store.get {} t.tim.eth e
    let steers := p.g .TIM_CTRL 0 = 1 ∧ (p.g .TIM_STAT_STATE 0 = 1 ∨ p.g .TIM_STAT_STATE 0 = 2)
    let steps := fun (a : Int) => p.g .TIM_STAT_VALID 0 = 0 ∨ clampTo 1000 1000000000 (p.g .TIM_STEP_THR 0) ≤ a.natAbs
    let moved := fun (a : Int) => (((p.tim.ns : Int) + a) % (ntSpan : Int)).toNat
    let passes := fun (a : Int) (x : Launch) => p.hasCome x.t = false ∧ ({ p with tim := { p.tim with ns := moved a } } : Pkg).overdue x.t = true
    let stepped := fun (t : Pkg) (a : Int) => t.tim.ns = moved a ∧ t.tim.frac = p.tim.frac ∧
      t.g .TIM_STEP_CNT 0 = min (p.g .TIM_STEP_CNT 0 + 1) (2 ^ Fld.width .TIM_STEP_CNT - 1) ∧ t.g .TIM_STEP_LOG_AMT 0 = wrapN 64 a ∧
      t.g .TIM_STEP_LOG_AT 0 = p.tim.ns % 2 ^ 64 ∧ t.g .TIM_STAT_STEPPED 0 = 1 ∧ t.g .TIM_STAT_VALID 0 = 1 ∧ t.tim.lq = p.tim.lq
    (∀ n, (∀ w ∈ p.pendw, w.fld = .TIM_RATE → w.idx = 0 ∧ w.wait = 0) → Yields (.ntMicrosecond n) s fun t =>
      let tot := p.tim.frac + n * p.timInc
      (∃ a : Int, a.natAbs ≤ p.slewRoom n ∧ a.natAbs ≤ p.tim.slew.natAbs ∧ 0 ≤ a * p.tim.slew ∧ t.tim.slew = p.tim.slew - a ∧
        (t.tim.ns : Int) = ((p.tim.ns + tot / 2 ^ 32 : Nat) + a) % (ntSpan : Int)) ∧ t.tim.frac = tot % 2 ^ 32 ∧
      (t.tim.ns / 1000 = p.tim.ns / 1000 → t.pendw = p.pendw ∧ t.g .TIM_RATE 0 = p.g .TIM_RATE 0) ∧
      (t.tim.ns / 1000 ≠ p.tim.ns / 1000 → (t.pendw.all fun w => w.fld != .TIM_RATE) = true ∧
        ∀ w, (p.pendw.filter fun w => w.fld == .TIM_RATE) = [w] → t.g .TIM_RATE 0 = w.val % 2 ^ 32) ∧
      p.fieldsOutside t [(.TIM_RATE, 0), (.TIM_HOLD_MS, 0)] ∧ t = { p with flds := t.flds, pendw := t.pendw, tim := t.tim, fresh := t.fresh }) ∧
    (∀ x : EthFrame, x.port < 2 →
      let ours := x.kind ≤ 2 ∧ x.port = e ∧ x.transport = p.g .TIM_PTP_CFG_TRANSPORT 0 ∧ x.domain = p.g .TIM_PTP_CFG_DOMAIN 0
      (¬ ours → Becomes (.ptpFrameReceive x) s ((p.p .TIM_ETH_STAT_LINK x.port 1).incSat .TIM_ETH_RXDISC x.port)) ∧
      (ours → Yields (.ptpFrameReceive x) s fun t =>
        (x.kind ≤ 1 → ∃ ps, (eth t).rx = some (x.kind, ps) ∧
          (4000 + p.g .TIM_ETH_TXLAT_RXLAT e ≤ now →
            now ≤ ps + p.g .TIM_ETH_TXLAT_RXLAT e + 4000 ∧ ps + p.g .TIM_ETH_TXLAT_RXLAT e ≤ now + 4000)) ∧
        (x.kind = 2 → (eth t).rx = (eth p).rx) ∧ (eth t).tx = (eth p).tx ∧ (eth t).sent = (eth p).sent ∧
        (t.g .TIM_STAT_STATE 0 = if p.g .TIM_CTRL 0 = 1 ∧ x.kind = 0 ∧ x.qualified = true ∧ (p.g .TIM_STAT_STATE 0 = 0 ∨ p.g .TIM_STAT_STATE 0 = 3) ∧
          p.mpActs 0 = true then 1 else p.g .TIM_STAT_STATE 0) ∧ t.tim.ns = p.tim.ns ∧
        p.fieldsOutside t [(.TIM_ETH_STAT_LINK, e), (.TIM_STAT_STATE, 0)] ∧ t = { p with flds := t.flds, tim := t.tim, fresh := t.fresh })) ∧
    (∀ (k : Fin 5) (c : Bool),
      let sends := p.g .TIM_CTRL 0 = 1 ∧ p.mpActs 0 = true ∧ ¬ (k = 0 ∧ p.g .TIM_PTP_CFG_SLAVE_ONLY 0 ≠ 0)
      (sends → Yields (.ptpFrameTransmit k c) s fun t =>
        (k.val ≤ 3 → ∃ ps, (eth t).tx = some (k.val, ps) ∧
          (4000 ≤ now → now + p.g .TIM_ETH_TXLAT_PS e ≤ ps + 4000 ∧ ps ≤ now + p.g .TIM_ETH_TXLAT_PS e + 4000)) ∧
        (k.val = 4 → (eth t).tx = (eth p).tx) ∧ (eth t).rx = (eth p).rx ∧ t.g .TIM_ETH_STAT_LINK e = 1 ∧
        p.fieldsOutside t [(.TIM_ETH_STAT_LINK, e), (.TIM_ETH_CSUM, e)] ∧ t = { p with flds := t.flds, tim := t.tim, fresh := t.fresh }) ∧
      (¬ sends → Becomes (.ptpFrameTransmit k c) s p)) ∧
    (∀ o m w : Int,
      (¬ (steers ∧ p.mpActs 0 = true) → Becomes (.servoOffset o m w) s p) ∧
      (steers → p.mpActs 0 = true →
        (steps o → (∀ x ∈ p.tim.lq, ¬ passes (-o) x) → Yields (.servoOffset o m w) s fun t => stepped t (-o) ∧ t.g .TIM_RATE 0 = p.g .TIM_RATE 0) ∧
        (¬ steps o → Yields (.servoOffset o m w) s fun t => t.tim.ns = p.tim.ns ∧ t.g .TIM_STEP_CNT 0 = p.g .TIM_STEP_CNT 0 ∧
          t.g .TIM_RATE 0 = wrapN 32 (clampInt 549755814 (m + clampInt (clampTo 1000 500000 (p.g .TIM_SLEW_MAX 0) * 2 ^ 40 / 10 ^ 9) (w - m))) ∧
          t.g .TIM_OFFSET 0 = wrapN 64 o ∧
          let inside := o.natAbs < p.g .TIM_LOCK_THR 0
          (p.g .TIM_STAT_STATE 0 = 1 → p.tim.run = 15 → inside → t.g .TIM_STAT_STATE 0 = 2 ∧ t.tim.run = 0) ∧
          (p.g .TIM_STAT_STATE 0 = 1 → ¬ inside → t.g .TIM_STAT_STATE 0 = 1 ∧ t.tim.run = 0) ∧
          (p.g .TIM_STAT_STATE 0 = 2 → p.tim.run = 3 → ¬ inside → t.g .TIM_STAT_STATE 0 = 1 ∧ t.tim.run = 0) ∧
          (p.g .TIM_STAT_STATE 0 = 2 → inside → t.g .TIM_STAT_STATE 0 = 2 ∧ t.tim.run = 0) ∧
          p.fieldsOutside t [(.TIM_OFFSET, 0), (.TIM_RATE, 0), (.TIM_STAT_STATE, 0)] ∧ t = { p with flds := t.flds, tim := t.tim }))) ∧
    (¬ steers ∨ p.mpActs 0 = false → Becomes .masterLost s p) ∧
    (steers → p.mpActs 0 = true →
      let n := 32 * 10 ^ 9 / p.timHalf
      let l := histTake n p.tim.hist
      Yields .masterLost s fun t => t.g .TIM_STAT_STATE 0 = 3 ∧ t.g .TIM_HOLD_MS 0 = 0 ∧ t.tim.hold = 0 ∧ t.tim.ns = p.tim.ns ∧
        t.g .TIM_STAT_VALID 0 = p.g .TIM_STAT_VALID 0 ∧
        ((l.map (·.1)).sum < n → t.g .TIM_RATE 0 = p.g .TIM_RATE 0) ∧
        ((l.map (·.1)).sum = n → ∃ r : Int, r * n ≤ (l.map fun e => (e.1 : Int) * e.2).sum + n - 1 ∧ (l.map fun e => (e.1 : Int) * e.2).sum ≤ r * n + n - 1 ∧
          t.g .TIM_RATE 0 = wrapN 32 (clampInt 549755814 r)) ∧
        p.fieldsOutside t [(.TIM_STAT_STATE, 0), (.TIM_HOLD_MS, 0), (.TIM_RATE, 0)] ∧ t = { p with flds := t.flds, tim := t.tim, fresh := t.fresh }) ∧
    (p.unwatched = true → ∀ (init : Fin 128) (w : BitVec 64),
      let a := sgn 64 w.toNat
      (p.g .TIM_CTRL 0 = 1 → Yields (.timeAdjust init w) s fun t => p.refused t .TIM 0 4 init) ∧
      (p.g .TIM_CTRL 0 ≠ 1 → steps a → (∀ x ∈ p.tim.lq, ¬ passes a x) → Yields (.timeAdjust init w) s fun t => stepped t a ∧
        p.fieldsOutside t [(.TIM_STEP_CNT, 0), (.TIM_STEP_LOG_AMT, 0), (.TIM_STEP_LOG_AT, 0), (.TIM_STAT_STEPPED, 0), (.TIM_STAT_VALID, 0)] ∧
        t = { p with flds := t.flds, tim := t.tim }) ∧
      (p.g .TIM_CTRL 0 ≠ 1 → ¬ steps a →
        Becomes (.timeAdjust init w) s { p with tim := { p.tim with adjLo := w.toNat % 2 ^ 32, slew := p.tim.slew + a } }))

/-- The launch queue (R406-R410), with no watchpoint enabled for the register rows. TIM_LQ_PUSH takes the entry built in TIM_LQ_W0 to W5 under an ID that no
pending entry has, or reports its refusal: full, a field out of range, a control message on a package that is not the master. An entry more than 1 us late
is discarded where DISC_LATE says so, and fires at once, counted late, where it does not. LAUNCH_FIRE fires the entry whose time came longest ago, once,
while VALID is 1: a frame leaves its port as it stands in the buffer, a PTP event message with its timestamp, and a control message starts its instance.
TIM_LQ_CANCEL removes a pending entry and is refused for any other ID. It says under which conditions these commands complete, and with what next state:
`launchPush`, `launchFire`, `launchCancel`. Where it rests on the model's choices, they are those of log entries 15, 77, 126. -/
def Obligations.LaunchQueueActs : Prop :=
  ∀ (s : State),
    let p := s.pkg
    let w := fun (n : Nat) => p.g .TIM_LQ_W n
    let time := w 0 + 2 ^ 32 * w 1
    let bad := lqBad (w 2) (w 3) (w 4 + 2 ^ 32 * w 5)
    let gone := fun (q t : Pkg) (x : Launch) => t.tim.lq = (q.tim.lq.filter fun y => y.num != x.num) ∧
      t.g .TIM_LQ_LEVEL 0 = t.tim.lq.length % 2 ^ Fld.width .TIM_LQ_LEVEL
    (p.unwatched = true → ∀ init : Fin 128,
      (64 ≤ p.tim.lq.length → Becomes (.launchPush init) s (p.p .TIM_LQ_RES_REFUSE 0 1)) ∧
      (p.tim.lq.length < 64 → bad = true → Becomes (.launchPush init) s (p.p .TIM_LQ_RES_REFUSE 0 2)) ∧
      (p.tim.lq.length < 64 → bad = false → w 2 % 4 = 1 → p.isMaster = false → Becomes (.launchPush init) s (p.p .TIM_LQ_RES_REFUSE 0 3)) ∧
      (p.tim.lq.length < 64 → bad = false → (w 2 % 4 = 1 → p.isMaster = true) → (∀ y ∈ p.tim.lq, y.num ≠ p.tim.num) →
        let counted := fun (t : Pkg) => t.g .TIM_LQ_PUSHED 0 = p.plus .TIM_LQ_PUSHED 0 1 ∧ t.g .TIM_LQ_RES_REFUSE 0 = 0
        (p.overdue time = false → Yields (.launchPush init) s fun t => counted t ∧
          (∃ x : Launch, t.tim.lq = p.tim.lq ++ [x] ∧ x.t = time ∧ x.w2 = w 2 ∧ x.w3 = w 3 ∧ x.w45 = w 4 + 2 ^ 32 * w 5 ∧ x.id < 64 ∧
            t.g .TIM_LQ_RES_ID 0 = x.id ∧ ∀ y ∈ p.tim.lq, y.id ≠ x.id) ∧
          p.fieldsOutside t [(.TIM_LQ_RES_ID, 0), (.TIM_LQ_RES_REFUSE, 0), (.TIM_LQ_LEVEL, 0), (.TIM_LQ_PUSHED, 0)] ∧
          t = { p with flds := t.flds, tim := t.tim, fresh := t.fresh }) ∧
        (p.overdue time = true → w 2 / 4 % 2 = 1 → Yields (.launchPush init) s fun t => counted t ∧ t.tim.lq = p.tim.lq ∧
          t.g .TIM_LQ_DISC 0 = p.plus .TIM_LQ_DISC 0 1 ∧ t.g .TIM_LQ_FIRED 0 = p.g .TIM_LQ_FIRED 0 ∧ p.sameBytes t ∧ t.tim.eth = p.tim.eth) ∧
        (p.overdue time = true → w 2 / 4 % 2 = 0 → p.g .TIM_STAT_VALID 0 ≠ 0 → w 2 % 4 = 0 → Yields (.launchPush init) s fun t => counted t ∧
          t.tim.lq = p.tim.lq ∧ t.g .TIM_LQ_FIRED 0 = p.plus .TIM_LQ_FIRED 0 1 ∧ t.g .TIM_STAT_LATE 0 = 1 ∧
          t.g .TIM_LQ_LATE 0 = p.plus .TIM_LQ_LATE 0 1) ∧
        (p.overdue time = true → w 2 / 4 % 2 = 0 → p.g .TIM_STAT_VALID 0 = 0 → Yields (.launchPush init) s fun t => counted t ∧
          t.tim.lq.length = p.tim.lq.length + 1 ∧ t.tim.eth = p.tim.eth ∧ ∃ x ∈ t.tim.lq, x.num = p.tim.num ∧ x.late = true))) ∧
    (p.unwatched = true → ∀ (init : Fin 128) (id : BitVec 6),
      (∀ x, p.tim.lq.find? (fun y => y.id == id.toNat) = some x → x.cmd = none → Yields (.launchCancel init id) s fun t => gone p t x ∧
        t.g .TIM_LQ_CANCELLED 0 = p.plus .TIM_LQ_CANCELLED 0 1 ∧ p.fieldsOutside t [(.TIM_LQ_LEVEL, 0), (.TIM_LQ_CANCELLED, 0)] ∧
        t = { p with flds := t.flds, tim := t.tim }) ∧
      ((∀ y ∈ p.tim.lq, y.id ≠ id.toNat) → Yields (.launchCancel init id) s fun t => p.refused t .TIM 0 4 init)) ∧
    ∀ (n : Nat) (held csum : Bool),
      let q := p.ntPass n
      ((∀ y ∈ q.tim.lq, q.hasCome y.t = false) ∨ q.g .TIM_STAT_VALID 0 = 0 → Becomes (.launchFire n held csum) s q) ∧
      (∀ x, x ∈ q.tim.lq → q.hasCome x.t = true → (∀ y ∈ q.tim.lq, y ≠ x → q.hasCome y.t = true → q.past y.t < q.past x.t) → q.g .TIM_STAT_VALID 0 ≠ 0 →
        (x.ctl = false → Yields (.launchFire n held csum) s fun t =>
          let e := x.w2 / 16 % 2
          let frame := readBytes q.tim.buf (bits x.w2 5 13 * 8) (x.w3 % 2048)
          let port := Store.get {} t.tim.eth e
          gone q t x ∧ t.g .TIM_LQ_FIRED 0 = q.plus .TIM_LQ_FIRED 0 1 ∧
          (t.g .TIM_LQ_LATE 0 = if x.late = true ∨ held = true ∨ 8 < q.past x.t then q.plus .TIM_LQ_LATE 0 1 else q.g .TIM_LQ_LATE 0) ∧
          (ptpAt frame = none ∨ bit x.w2 3 = false → port.sent = frame) ∧
          (∀ m c, ptpAt frame = some (m, c) → ∃ ps, port.tx = some (ptpType frame m, ps) ∧
            (bit x.w2 3 = true → ∃ r, port.sent = oneStep frame (ps / 1000) (ps % 1000 * 65536 / 1000) r csum)) ∧
          q.sameBytes t ∧ t = { q with flds := t.flds, tim := t.tim, fresh := t.fresh }) ∧
        (x.ctl = true → x.w3 % 256 = 0x10 → bit x.w3 12 = false → x.cmd = none → (q.inst x.inst).desc.cascade = false → q.runState x.inst = .loaded →
          q.resetting x.inst = false → q.relocating x.inst = false → q.patching x.inst = false → q.g .TRN_INST_STAT_BAD x.inst = 0 →
          Yields (.launchFire n held csum) s fun t => t.runState x.inst = .running ∧ (t.inst x.inst).step = 0 ∧
            t.g .TIM_LQ_FIRED 0 = q.plus .TIM_LQ_FIRED 0 1) ∧
        (x.ctl = true → x.w3 % 256 = 0x13 → (q.inst x.inst).desc.cascade = true → q.downPorts = [] → q.g .ARY_MCC x.inst < x.w45 →
          Yields (.launchFire n held csum) s fun t => gone q t x ∧ t.g .TIM_LQ_FIRED 0 = q.plus .TIM_LQ_FIRED 0 1 ∧
            t.g .ARY_CTRL_STOP_AT_EN x.inst = 1 ∧ t.g .ARY_STOP_AT_LO x.inst = x.w45 % 2 ^ 32 ∧ (t.inst x.inst).cascCause = some (bits x.w3 13 4)))

/-! ## Debug -/

/-- The debug port (R414-R416, R424): IDCODE, PSTAT and BYPASS capture and change nothing else; an ACCESS scan captures the result of the last access, and asks
for one access at priority 2 by initiator 0x38 where it may; while DBG_PORT_CTL.EN is 0 it is refused and counted. It says under which conditions these
commands complete, and with what next state: `dbgAccess`, `dbgPstat`, `dbgIdcode`, `dbgBypass`. Where it rests on the model's choices, they are those of
log entries 18, 83. -/
def Obligations.DebugPortScans : Prop :=
  ∀ (s : State),
    let p := s.pkg
    let scan := fun (ir cap : Nat) => ({ p with dbg := { p.dbg with ir := ir, irOut := 1, cap := cap } } : Pkg)
    (Yields .dbgIdcode s fun t => t = scan 1 t.dbg.cap ∧ t.dbg.cap % 2 = 1 ∧
      t.dbg.cap / 2 ^ 12 % 2 ^ 16 = match p.part.model with | .gl2 => 0x6C02 | .gl4 => 0x6C04 | .gl8 => 0x6C08) ∧
    Becomes .dbgPstat s (scan 9 (p.g .DBG_PORT_STAT_OVERRUN 0 + if p.dbg.busy = none then 0 else 2)) ∧
    Becomes .dbgBypass s (scan 15 0) ∧
    ∀ dr : BitVec 80,
      let r := dr.toNat
      let shown := if p.g .DBG_PORT_CTL 0 = 0 then 2 + 4 * 4 else if p.dbg.busy = none then p.dbg.status + 4 * (p.dbg.cause % 16) else 1
      let q := scan 8 (p.dbg.data % 2 ^ 32 + p.dbg.addr % 2 ^ 40 * 2 ^ 32 + shown * 2 ^ 72)
      (bit r 79 = true → Becomes (.dbgAccess dr) s q) ∧
      (bit r 79 = false → p.g .DBG_PORT_CTL 0 = 0 → Yields (.dbgAccess dr) s fun t => q.onlyFields t [(.DBG_PORT_REFUSED, 0)] ∧
        t.g .DBG_PORT_REFUSED 0 = min (p.g .DBG_PORT_REFUSED 0 + 1) (2 ^ Fld.width .DBG_PORT_REFUSED - 1)) ∧
      (bit r 79 = false → p.g .DBG_PORT_CTL 0 ≠ 0 → bit r 78 = false → Becomes (.dbgAccess dr) s q) ∧
      (bit r 79 = false → p.g .DBG_PORT_CTL 0 ≠ 0 → bit r 78 = true → p.dbg.busy ≠ none → Yields (.dbgAccess dr) s fun t =>
        q.onlyFields t [(.DBG_PORT_STAT_OVERRUN, 0)] ∧ t.g .DBG_PORT_STAT_OVERRUN 0 = 1) ∧
      ∀ tag, bit r 79 = false → p.g .DBG_PORT_CTL 0 ≠ 0 → bit r 78 = true → p.dbg.busy = none → p.freeTag 0x38 = some tag →
        let x : RingPkt := { write := bit r 72, init := 0x38, tag := tag, inst := if bit r 77 then some (bits r 73 4) else none, cls := 5,
                             addr := bits r 32 40, data := if bit r 72 then [r % 2 ^ 32] else [], prio := 2 }
        Becomes (.dbgAccess dr) s
          ((({ q with dbg := { q.dbg with busy := some (tag, bits r 32 40, bit r 72) } } : Pkg).inc .DBG_PORT_CNT 0).ringRequest s.fuses x)

/-- Management processors under debug (R417-R419, R423), with no watchpoint enabled for the register rows. HALT, a breakpoint and a watchpoint halt one that
runs, once, with the cause and a count; RESUME lets it run on, and a boot that it held goes on; STEP halts it again after one instruction. Its registers
and fed instructions are there only while it is HALTED. A halt pulses the channels that its die selects. A watchpoint that matches counts, shows itself and
takes its actions. What a program left in the registers is free. It says under which conditions these commands complete, and with what next state:
`mpHalt`, `mpResume`, `mpStep`, `mpBreakpoint`, `mpRegWrite`, `mpFeed`, `mpWatchpointMatch`. Where it rests on the model's choices, they are those of log
entries 10, 87, 92. -/
def Obligations.ProcessorsHaltAndRun : Prop :=
  ∀ (d : Fin 8) (init : Fin 128) (s : State),
    let p := s.pkg
    let here := p.unwatched = true ∧ d.val < p.part.model.dies
    let isHalted := p.g .DBG_MP_STAT_HALTED d ≠ 0
    let runs := p.g .MBX_MP_STAT_STATE d = 1 ∨ p.g .MBX_MP_STAT_STATE d = 2
    let quiet := ∀ c < 4, p.g .DBG_XT_SRC_MP_HALT (d * 4 + c) = 0
    let entered := fun (cause : Nat) (t : Pkg) => t.g .DBG_MP_STAT_HALTED d = 1 ∧ t.g .DBG_MP_STAT_HALT_CAUSE d = cause ∧
      t.g .DBG_MP_HALT_CNT d = min (p.g .DBG_MP_HALT_CNT d + 1) (2 ^ Fld.width .DBG_MP_HALT_CNT - 1)
    let alone := fun (t : Pkg) => p.fieldsOutside t [(.DBG_MP_STAT_HALTED, d), (.DBG_MP_STAT_HALT_CAUSE, d), (.DBG_MP_HALT_CNT, d)] ∧
      (∀ k, k / 64 ≠ d.val → t.dbg.regs.at k = p.dbg.regs.at k) ∧ t = { p with flds := t.flds, fresh := t.fresh, dbg := { p.dbg with regs := t.dbg.regs } }
    let pulses := fun (t : Pkg) => ∀ c < 4, p.g .DBG_XT_SRC_MP_HALT (d * 4 + c) ≠ 0 → bit (t.g .DBG_XT_STAT 0) c = true
    (here → ¬ isHalted → Yields (.mpHalt d init) s fun t => pulses t ∧ (quiet → entered 1 t ∧ alone t)) ∧
    (here → isHalted → Yields (.mpHalt d init) s fun t => p.onlyFields t []) ∧
    (here → isHalted → p.boot.env = none → Yields (.mpResume d init) s fun t => t.g .DBG_MP_STAT_HALTED d = 0 ∧
      p.onlyFields t [(.DBG_MP_STAT_HALTED, d)]) ∧
    (here → isHalted → p.g .ADC_BOOT_STAT_PHASE 0 = 4 → p.boot.env ≠ none → (∀ e < 8, e ≠ d.val → p.g .DBG_MP_STAT_HALTED e = 0) →
      Yields (.mpResume d init) s fun t => t.g .DBG_MP_STAT_HALTED d = 0 ∧ t.g .ADC_BOOT_STAT_PHASE 0 = 5) ∧
    (here → ¬ isHalted → Yields (.mpResume d init) s (fun t => p.onlyFields t []) ∧ Yields (.mpStep d init) s fun t => p.onlyFields t []) ∧
    (here → isHalted → Yields (.mpStep d init) s fun t => pulses t ∧ (quiet → entered 6 t ∧ alone t)) ∧
    (runs → ¬ isHalted → Yields (.mpBreakpoint d) s fun t => pulses t ∧ (quiet → entered 3 t ∧ alone t)) ∧
    (¬ runs ∨ isHalted → Becomes (.mpBreakpoint d) s p) ∧
    (∀ (fetch write : Bool) (addr : BitVec 64) (n : Fin 9) (data : List (BitVec 32)),
      let x : Access := { src := if fetch then 0 else 1, write := write && !fetch, addr := addr.toNat, n := n.val,
                          inst := if p.g .DBG_MP_CTX_VALID d = 0 then none else some (p.g .DBG_MP_CTX_INST d), init := d.val,
                          data := data.map BitVec.toNat }
      (isHalted ∨ (∀ k < 8, p.wpMatch d k x = false) → Becomes (.mpWatchpointMatch d fetch write addr n data) s p) ∧
      ∀ k < 8, ¬ isHalted → p.wpMatch d k x = true →
        let w := d.val * 8 + k
        Yields (.mpWatchpointMatch d fetch write addr n data) s fun t => t.g .DBG_WP_CNT w = min (p.g .DBG_WP_CNT w + 1) (2 ^ Fld.width .DBG_WP_CNT - 1) ∧
          bit (t.g .DBG_WP_STAT_HIT d) k = true ∧ t.g .DBG_WP_STAT_FIRST_VALID d = 1 ∧ (k < 7 → t.dbg.hits.at (w + 1) = 1) ∧
          (p.g .DBG_WP_STAT_FIRST_VALID d = 0 → (∀ j < k, p.wpMatch d j x = false) → t.g .DBG_WP_STAT_FIRST d = k) ∧
          (p.g .DBG_WP_CTL_HALT_MP w ≠ 0 → t.g .DBG_MP_STAT_HALTED d = 1 ∧ t.g .DBG_MP_STAT_HALT_CAUSE d = 2) ∧
          ∀ c < 4, bit (p.g .DBG_WP_CTL_XT w) c = true → bit (t.g .DBG_XT_STAT 0) c = true) ∧
    (here →
      let barred := p.g .DBG_MP_STAT_HALTED d = 0 ∨ p.g .DBG_MP_STAT_FEED_BUSY d ≠ 0 ∨ isMp init = true
      let sel := p.g .DBG_MP_REG_SEL d
      let set := fun (n v : Nat) (t : Pkg) => t.dbg.regs.at (d.val * 64 + n) = v ∧
        ∀ k, k ≠ d.val * 64 + n → t.dbg.regs.at k = p.dbg.regs.at k
      (∀ w : BitVec 64,
        (barred → Yields (.mpRegWrite d init w) s fun t => p.refused t .DBG d 4 init) ∧
        (¬ barred → sel < 34 → Yields (.mpRegWrite d init w) s fun t => set sel w.toNat t ∧ t = { p with dbg := { p.dbg with regs := t.dbg.regs } }) ∧
        (¬ barred → 34 ≤ sel → Becomes (.mpRegWrite d init w) s p)) ∧
      ∀ (insn : BitVec 32) (o : FeedOut),
        let ctx := if p.g .DBG_MP_CTX_VALID d = 0 then none else some (p.g .DBG_MP_CTX_INST d)
        (barred → Yields (.mpFeed d init insn o) s fun t => p.refused t .DBG d 4 init) ∧
        (¬ barred → o = .err → Becomes (.mpFeed d init insn o) s (p.p .DBG_MP_STAT_FEED_ERR d 1)) ∧
        (¬ barred → ∀ n v, n < 34 → o = .regs [(n, v)] →
          (n ≠ 32 → Yields (.mpFeed d init insn o) s fun t => set n (v % 2 ^ 64) t ∧ t = { p with dbg := { p.dbg with regs := t.dbg.regs } }) ∧
          (n = 32 → Becomes (.mpFeed d init insn o) s p)) ∧
        (¬ barred → ∀ a data, o = .store a data →
          let r := p.access s.fuses { write := true, init := d.val, inst := ctx, addr := a, len := 4 * data.length, data := data }
          Becomes (.mpFeed d init insn o) s (if r.1.err = 0 then r.2 else r.2.p .DBG_MP_STAT_FEED_ERR d 1)) ∧
        (¬ barred → ∀ reg a n signed, o = .load reg a n signed →
          let r := p.access s.fuses { write := false, init := d.val, inst := ctx, addr := a, len := n }
          (r.1.err ≠ 0 → Becomes (.mpFeed d init insn o) s (r.2.p .DBG_MP_STAT_FEED_ERR d 1)) ∧
          (r.1.err = 0 → reg < 34 → reg ≠ 32 → Yields (.mpFeed d init insn o) s fun t =>
            t.dbg.regs.at (d.val * 64 + reg) = (if signed then wrapN 64 (sgn (8 * n) (wordsNat r.1.data)) else wordsNat r.1.data) % 2 ^ 64 ∧
            t = { r.2 with dbg := { r.2.dbg with regs := t.dbg.regs } })))

/-- The cross-trigger and the debug control of instances (R424-R428), with no watchpoint enabled for the register rows. A pulse is shown on every die, halts
the management processors and asks for a freeze of the instances that its sinks name, and drives DBG_XTRIG_OUT_N; an entry to HALTED pulses its own
channels in turn. FREEZE waits for the boundary of a RUNNING instance and is ignored otherwise; RELEASE clears HOLD; STEP runs an instance that may run for
DBG_INST_STEPN + 1 major cycles, and sets STEP_REFUSED otherwise; on the master of a cascade it begins the exchange with a stop cycle. It says under which
conditions these commands complete, and with what next state: `dbgXtrig`, `xtPulse`, `xtrigIn`, `debugFreeze`, `debugRelease`, `debugStep`. Where it rests
on the model's choices, they are those of log entries 85, 86. -/
def Obligations.TriggersAndStepsAct : Prop :=
  ∀ (init : Fin 128) (s : State),
    let p := s.pkg
    let silent := ∀ k < 32, p.g .DBG_XT_SRC_MP_HALT k = 0
    let halts := fun (m d : Nat) => ∃ c < 4, bit m c = true ∧ p.g .DBG_XT_SINK_HALT_MP (d * 4 + c) ≠ 0
    let freezes := fun (m i : Nat) => ∃ c < 4, bit m c = true ∧ bit (p.g .DBG_XT_SINK_INST c) i = true
    let drives := fun (m : Nat) => ∃ c < 4, bit m c = true ∧ p.g .DBG_XT_SINK_XTRIG_OUT c ≠ 0
    let pulsed := fun (m : Nat) (t : Pkg) => ∀ d < p.part.model.dies,
      (∀ c < 4, bit (p.g .DBG_XT_STAT d) c = true ∨ bit m c = true → bit (t.g .DBG_XT_STAT d) c = true) ∧
      (halts m d → t.g .DBG_MP_STAT_HALTED d = 1) ∧
      (halts m d → p.g .DBG_MP_STAT_HALTED d = 0 → ∀ c < 4, p.g .DBG_XT_SRC_MP_HALT (d * 4 + c) ≠ 0 → bit (t.g .DBG_XT_STAT d) c = true) ∧
      (silent → t.g .DBG_XT_STAT d = p.g .DBG_XT_STAT d ||| m) ∧
      (silent → halts m d → p.g .DBG_MP_STAT_HALTED d = 0 → t.g .DBG_MP_STAT_HALT_CAUSE d = 4) ∧
      (silent → (¬ halts m d ∨ p.g .DBG_MP_STAT_HALTED d ≠ 0) → t.g .DBG_MP_STAT_HALT_CAUSE d = p.g .DBG_MP_STAT_HALT_CAUSE d ∧
        t.g .DBG_MP_STAT_HALTED d = p.g .DBG_MP_STAT_HALTED d) ∧
      (silent → m ≠ 0 → drives m → t.dbg.xtOut = p.dbg.xtOut + 1) ∧ (silent → ¬ drives m → t.dbg.xtOut = p.dbg.xtOut) ∧
      (silent → ∀ i < 16, (p.inst i).desc.cascade = false → p.runs i = true → freezes m i → t.g .DBG_INST_STAT_FRZ_PEND i = 1) ∧ t.fab = p.fab
    (∀ m : BitVec 4, p.unwatched = true → Yields (.xtPulse init m) s fun t => pulsed m.toNat t) ∧
    (∀ m : BitVec 4, Yields (.dbgXtrig m) s fun t => pulsed m.toNat t ∧ t.dbg.ir = 10 ∧ t.dbg.cap = p.g .DBG_XT_STAT 0) ∧
    (Yields .xtrigIn s fun t => ∀ m < 16, (∀ c < 4, bit m c = true ↔ p.g .DBG_XT_SRC_XTRIG_IN c ≠ 0) → pulsed m t) ∧
    (p.unwatched = true → ∀ i : Fin 16,
      let casc := (p.inst i).desc.cascade
      let busy := p.resetting i || p.relocating i || p.patching i
      let n := p.g .DBG_INST_STEPN i + 1
      let may := (casc = false ∨ p.isMaster = true) ∧ busy = false ∧ (p.runState i = .loaded ∨ p.atBoundary i = true ∧
        (p.runState i = .frozen ∧ p.g .DBG_INST_STAT_HOLD i ≠ 0 ∨ p.runState i = .paused ∨ p.runState i = .frozen ∧ p.causeCleared i = true))
      let began := fun (t : Pkg) => t.runState i = .running ∧ t.g .DBG_INST_STAT_STEPPING i = 1 ∧ t.g .DBG_INST_STAT_HOLD i = 1 ∧
        t.g .DBG_INST_LEFT i = n % 2 ^ Fld.width .DBG_INST_LEFT ∧ (t.inst i).stepLeft = n ∧ p.sameBytes t
      (p.runs i = true → casc = false → Yields (.debugFreeze i init) s fun t => t.g .DBG_INST_STAT_FRZ_PEND i = 1 ∧
        t.g .ARY_RUN_STAT_FREEZE_PEND i = 1 ∧ 5 ∈ (t.inst i).pend ∧ t.runState i = .running ∧
        p.fieldsOutside t [(.DBG_INST_STAT_FRZ_PEND, i), (.ARY_RUN_STAT_FREEZE_PEND, i)] ∧ t = { p with flds := t.flds, insts := t.insts }) ∧
      (p.runs i = true → casc = true → p.isMaster = true → p.downPorts = [] →
        Yields (.debugFreeze i init) s fun t => t.g .ARY_CTRL_STOP_AT_EN i = 1 ∧ t.g .ARY_STOP_AT_LO i = (p.g .ARY_MCC i + p.stopLead i) % 2 ^ 32) ∧
      (p.runs i = false → Becomes (.debugFreeze i init) s (p.p .ARY_ERR_CMD_IGNORED i 1)) ∧
      Becomes (.debugRelease i init) s (p.p .DBG_INST_STAT_HOLD i 0) ∧
      (¬ may → Becomes (.debugStep i init) s (p.p .DBG_INST_STAT_STEP_REFUSED i 1)) ∧
      (casc = false → busy = false → p.g .TRN_INST_STAT_BAD i = 0 →
        (p.runState i = .loaded → Yields (.debugStep i init) s fun t => began t ∧ (t.inst i).step = 0) ∧
        (p.runState i = .frozen → p.g .ARY_RUN_STAT_MID_CYCLE i = 0 → p.g .DBG_INST_STAT_HOLD i ≠ 0 → (p.inst i).begun = true → p.lacking i = [] →
          Yields (.debugStep i init) s fun t => began t ∧ (t.inst i).step = 0)) ∧
      (casc = true → p.isMaster = true → busy = false → p.runState i = .loaded → p.startReq i = none → p.portsOf i = [] → p.downPorts = [] →
        p.g .CFG_LOAD_STAT_PEER_MISSING 0 = 0 → Yields (.debugStep i init) s fun t => t.g .ARY_CTRL_STOP_AT_EN i = 1 ∧
          t.g .ARY_STOP_AT_LO i = (p.g .ARY_MCC i + n) % 2 ^ 32 ∧ t.runState i = .loaded ∧ t.g .DBG_INST_STAT_STEPPING i = 1 ∧
          t.g .DBG_INST_STAT_HOLD i = 1 ∧ t.g .DBG_INST_LEFT i = n % 2 ^ Fld.width .DBG_INST_LEFT ∧ (t.inst i).stepLeft = n ∧
          ∃ x, t.startReq i = some x ∧ x.inst = i ∧ x.count = p.g .LNK_STEP_CNT 0 + p.leadSteps ∧ x.resume = false))

/-! ## Start-up, clocks and monitoring -/

/-- Boot and loss of power (R201, R432, R433, R440-R443, R453, R454). RESET_RELEASE, once, with a valid reference, samples the straps and boots as far as the
fuses, the stacks, the flash copies and the boot-halt strap let it; a fatal fault is shown by its code. A die that is not READY in time is marked, its
lanes go OFF and its banks are not available. FIRMWARE_READY ends the boot. POWER_LOSS leaves the part, the key memory, the fuses and what lies outside the
package; a write that it interrupts leaves what the bits that were written make of it. VBAT_LOSS empties both key slots. (What the model keeps through
POWER_LOSS beside the key memory and the fuses, and that memories read as after reset then, is its choice; log entry 114.) It says under which conditions
these commands complete, and with what next state: `resetRelease`, `dieBootTimeout`, `firmwareReady`, `pcieLinkUp`, `powerLoss`, `vbatLoss`. Where it rests
on the model's choices, they are those of log entries 6, 15, 81, 114, 124, 183. -/
def Obligations.BootAndPowerLossAct : Prop :=
  ∀ (s : State),
    let p := s.pkg
    let fresh := p.boot.env = none ∧ (∀ d < 8, p.g .DBG_MP_STAT_HALTED d = 0) ∧ p.g .ADC_BOOT_STAT_DIE_FAIL 0 = 0 ∧ p.g .ADC_BOOT_STAT_FAIL 0 = 0
    (∀ e : BootEnv,
      (p.boot.env ≠ none ∨ e.refA = false ∧ e.refB = false → Becomes (.resetRelease e) s p) ∧
      (fresh → e.refA = true ∨ e.refB = true → Yields (.resetRelease e) s fun t =>
        let booted := e.fuseOk = true ∧ e.bootHalt = false ∧ 0 ∉ e.badStacks
        t.part = { p.part with pkgId := e.pkgId % 64, masterSel := e.masterSel, compat := e.compat % 2 ^ 32, bscanCe := e.bscanCe, bootHalt := e.bootHalt } ∧
        t.boot.env = some e ∧ t.g .ADC_REF_STAT_A_VALID 0 = (if e.refA then 1 else 0) ∧ t.g .ADC_REF_STAT_B_VALID 0 = (if e.refB then 1 else 0) ∧
        t.g .ADC_REF_STAT_ACTIVE 0 = (if e.refA then 0 else 1) ∧
        (∀ d < p.part.model.dies, t.g .ADC_PLL_STAT_ROOT_LOCK d = 1 ∧ t.g .ADC_MON_RAIL_IN d = 31 ∧
          t.g .DBG_MP_CTL_RST_HALT d = if e.bootHalt then 1 else 0) ∧
        (e.fuseOk = false → t.g .ADC_BOOT_STAT_FAIL 0 = 1 ∧ t.g .MBX_PKG_STAT_MASTER_FAILED 0 = 1 ∧ t.g .ADC_BOOT_STAT_PHASE 0 = 1) ∧
        (e.fuseOk = true → e.bootHalt = true → t.g .DBG_MP_STAT_HALTED 0 = 1 ∧ t.g .DBG_MP_STAT_HALT_CAUSE 0 = 5 ∧ t.g .ADC_BOOT_STAT_PHASE 0 = 1 ∧
          t.g .MBX_MP_STAT_STATE 0 = 1) ∧
        (e.fuseOk = true → e.bootHalt = false → 0 ∈ e.badStacks →
          t.g .ADC_BOOT_STAT_FAIL 0 = 3 ∧ t.g .ADC_BOOT_STAT_PHASE 0 = 2 ∧ t.g .MBX_PKG_STAT_MASTER_FAILED 0 = 1) ∧
        (booted → e.copyA = none → e.copyB = none →
          t.g .ADC_BOOT_STAT_FAIL 0 = 2 ∧ t.g .ADC_BOOT_STAT_PHASE 0 = 3 ∧ t.g .MBX_PKG_STAT_MASTER_FAILED 0 = 1) ∧
        (booted → e.copyA ≠ none ∨ e.copyB ≠ none → t.g .ADC_BOOT_STAT_PHASE 0 = 5 ∧ t.g .MBX_MP_STAT_STATE 0 = 1 ∧
          (∀ v, e.copyA = some v → e.copyB = none → t.g .ADC_BOOT_STAT_COPY 0 = 0 ∧ t.g .ADC_FW_VER 0 = v % 2 ^ Fld.width .ADC_FW_VER) ∧
          (∀ v w, e.copyA = some v → e.copyB = some w → v < w → t.g .ADC_BOOT_STAT_COPY 0 = 1 ∧ t.g .ADC_FW_VER 0 = w % 2 ^ Fld.width .ADC_FW_VER) ∧
          (∀ v w, e.copyA = some v → e.copyB = some w → w < v → t.g .ADC_BOOT_STAT_COPY 0 = 0 ∧ t.g .ADC_FW_VER 0 = v % 2 ^ Fld.width .ADC_FW_VER) ∧
          (e.badStacks = [] → e.march = [] → t.g .ADC_BOOT_STAT_FAIL 0 = 0 ∧ ∀ k < p.part.model.dies * 64, t.g .CAV_AVAIL k = 65535 ∧
            ∀ w, w / 16384 / 16 = k → t.cav.mem.at w = 0)))) ∧
    (∀ d : Fin 8,
      let late := d.val ≠ 0 ∧ d.val < p.part.model.dies ∧ p.boot.env ≠ none ∧ p.dieOk d = true ∧ p.g .MBX_MP_STAT_STATE d = 1 ∧
        p.g .DBG_MP_STAT_HALTED d = 0 ∧ 4 ≤ p.g .ADC_BOOT_STAT_PHASE 0
      (late → Yields (.dieBootTimeout d) s fun t => t.g .ADC_BOOT_STAT_FAIL 0 = 5 ∧ bit (t.g .ADC_BOOT_STAT_DIE_FAIL 0) d = true ∧
        (∀ l < 16, t.laneSt (d.val * 16 + l) = .off) ∧ ∀ k < 64, t.g .CAV_AVAIL (d.val * 64 + k) = Fld.reset .CAV_AVAIL (d.val * 64 + k) % 2 ^ 16) ∧
      (¬ late → Becomes (.dieBootTimeout d) s p)) ∧
    (∀ ms : BitVec 32,
      let done := p.g .ADC_BOOT_STAT_PHASE 0 = 5 ∧ ∀ d < p.part.model.dies, p.dieOk d = true → p.g .DBG_MP_STAT_HALTED d = 0
      (done → Yields (.firmwareReady ms) s fun t => t.g .ADC_BOOT_STAT_PHASE 0 = 6 ∧ t.g .MBX_PKG_STAT_FW_READY 0 = 1 ∧
        t.g .ADC_BOOT_MS 0 = ms.toNat % 2 ^ Fld.width .ADC_BOOT_MS ∧
        (∀ d, t.g .MBX_MP_STAT_STATE d = if d < p.part.model.dies ∧ p.dieOk d = true then 2 else p.g .MBX_MP_STAT_STATE d) ∧
        t = { p with flds := t.flds }) ∧
      (¬ done → Becomes (.firmwareReady ms) s p)) ∧
    (p.boot.env ≠ none →
      Becomes (.pcieLinkUp 0) s (p.p .MBX_PKG_STAT_PORT0_UP 0 1) ∧
      Becomes (.pcieLinkUp 1) s (if p.part.model = .gl8 then p.p .MBX_PKG_STAT_PORT1_UP 0 1 else p)) ∧
    (p.boot.env = none → ∀ k, Becomes (.pcieLinkUp k) s p) ∧
    (Yields (.powerLoss .none) s fun t => t.part = p.part ∧ t.slotA = p.slotA ∧ t.slotB = p.slotB ∧ t.host = p.host ∧ t.pins.pad = p.pins.pad ∧
      (∀ f i, (f, i) ≠ (.DBG_PORT_CTL, 0) → t.g f i = f.reset i % 2 ^ f.width) ∧ t.g .DBG_PORT_CTL 0 = (if s.fuses.secure then 0 else 1) ∧
      t.insts = [] ∧ t.fab = {} ∧ t.cav = {} ∧ t.que = {} ∧ t.load = {} ∧ t.mbx = [] ∧ t.boot = {}) ∧
    (∀ m q set j, p.inTurn m q 0x63 j → ∃ t, exec (.powerLoss (.policy m q set)) s =
      .next { s with pkg := t, fuses := if p.railsIn then s.fuses.blow (j.arg 0 1 &&& set) else s.fuses }) ∧
    (∀ m q k c j, p.inTurn m q 0x60 j → s.fuses.keyBarred = false → p.railsIn = true → j.kcv = kcvOf j.key →
      ∃ t f, exec (.powerLoss (.efKey m q k c)) s = .next { s with pkg := t, fuses := f } ∧ f.key = j.key &&& k ∧ f.check = j.kcv &&& c ∧
        f.sec = s.fuses.sec ∧ f.gen = s.fuses.gen ∧ (f.keyOk = true → f.check = kcvOf f.key)) ∧
    (∀ m q j, p.inTurn m q 0x61 j → s.fuses.bbKeyDis = false → j.kcv = kcvOf j.key →
      (p.slotActive = some false → Yields (.powerLoss (.bbKey m q)) s fun t => t.slotA = p.slotA ∧ t.slotB.ok = false) ∧
      (p.slotActive = some true → Yields (.powerLoss (.bbKey m q)) s fun t => t.slotB = p.slotB ∧ t.slotA.ok = false)) ∧
    Becomes .vbatLoss s { p with slotA := {}, slotB := {} }

/-- References, root PLLs, the ADC, rails and temperatures (R434-R438, R440, R444-R450), with no watchpoint enabled for the register rows. The loss of the
active reference switches to a valid ALT without disturbing anything, or is a lost reference: holdover, and every instance under way FAULTED; a valid one
ends it. A write of the selector or of ROOT is refused where the rules say so, and relocks where it must. A lost root lock and a lost rail fault what lies
on the die. The ADC converts once for a START or at its rate. Limits are shown, counted, and reported by HEALTH events. It says under which conditions
these commands complete, and with what next state: `referenceInvalid`, `referenceValid`, `refCtrlWrite`, `rootWrite`, `rootLockLoss`, `adcStart`,
`adcConversionEnd`, `railDeparture`, `tempWarn`, `tempCrit`, `thermalTrip`, `tempClear`, `pllRelock`, `railReturn`, `adcConversionBoundary`. Where it rests
on the model's choices, they are those of log entries 11, 76, 93, 94, 179, 184. -/
def Obligations.ClocksAndMonitorsAct : Prop :=
  ∀ (d : Fin 8) (init : Fin 128) (s : State),
    let p := s.pkg
    let exists_ := d.val < p.part.model.dies
    let raised := fun (t : Pkg) (die kind idx : Nat) (v : Int) => p.evts.length < evtFifo → ∃ x, t.evts = p.evts ++ [x] ∧ x.typ = 7 ∧ x.inst = none ∧
      x.data = [die, kind, idx, 0] ++ leVals (wrapN 32 v) 4 ++ leVals (p.tim.ns % 2 ^ 64) 8
    let faulted := fun (t : Pkg) (i cause : Nat) => t.runState i = .faulted ∧ t.g .ARY_RUN_STAT_STOP_CAUSE i = cause
    let same := fun (t : Pkg) => t.insts = p.insts ∧ t.fab = p.fab ∧ p.sameBytes t
    let valid := fun (k : Nat) => p.g (refValid k) 0
    let active := p.g .ADC_REF_STAT_ACTIVE 0
    let lost := p.g .ADC_REF_STAT_LOST 0
    let alt := p.g .ADC_REF_CTRL_ALT 0
    let moved := fun (t : Pkg) (k : Nat) => t.g .ADC_REF_STAT_ACTIVE 0 = k ∧ t.g .ADC_REF_STAT_SWITCHED 0 = 1 ∧
      t.g .ADC_REF_SW_CNT 0 = min (p.g .ADC_REF_SW_CNT 0 + 1) (2 ^ Fld.width .ADC_REF_SW_CNT - 1) ∧ raised t 0 5 k 0 ∧ same t
    let relocks := fun (t : Pkg) => t.boot.relock = p.dies ∧ t.boot.realign = true ∧
      ∀ e < p.part.model.dies, t.g .ADC_PLL_STAT_ROOT_LOCK e = 0 ∧ t.g .XBR_BRG_STAT_ALIGNED e = 0
    (∀ k : Fin 3,
      (valid k = 0 → Becomes (.referenceInvalid k) s p) ∧
      (valid k ≠ 0 → active ≠ k.val ∨ lost ≠ 0 → Becomes (.referenceInvalid k) s (p.p (refValid k) 0 0)) ∧
      (valid k ≠ 0 → active = k.val → lost = 0 → alt ≠ k.val → alt < 3 → valid alt ≠ 0 →
        Yields (.referenceInvalid k) s fun t => t.g (refValid k) 0 = 0 ∧ moved t alt) ∧
      (valid k ≠ 0 → active = k.val → lost = 0 → alt = k.val ∨ valid alt = 0 →
        Yields (.referenceInvalid k) s fun t => t.g (refValid k) 0 = 0 ∧ t.g .ADC_REF_STAT_LOST 0 = 1 ∧ t.g .ADC_REF_STAT_HOLDOVER 0 = 1 ∧
          t.g .TIM_STAT_CLK_LOST 0 = 1 ∧ t.g .TIM_STAT_VALID 0 = 0 ∧ (∀ e < p.part.model.dies, t.g .ADC_PLL_STAT_ROOT_HOLD e = 1) ∧
          (∀ i < 16, p.runState i = .running ∨ p.runState i = .paused ∨ p.runState i = .frozen → faulted t i 12) ∧
          ∀ i < 16, p.runState i = .unloaded ∨ p.runState i = .loaded → t.runState i = p.runState i) ∧
      (p.boot.env = none ∨ valid k ≠ 0 ∨ (k = 2 ∧ (p.laneSt p.recLane).carriesRec = false) → Becomes (.referenceValid k) s p) ∧
      (p.boot.env ≠ none → valid k = 0 → (k = 2 → (p.laneSt p.recLane).carriesRec = true) →
        (lost ≠ 0 → Yields (.referenceValid k) s fun t => t.g (refValid k) 0 = 1 ∧ t.g .ADC_REF_STAT_LOST 0 = 0 ∧ t.g .ADC_REF_STAT_HOLDOVER 0 = 0 ∧
          t.g .ADC_REF_STAT_ACTIVE 0 = k.val ∧ t.g .TIM_STAT_CLK_LOST 0 = 0 ∧ (∀ e < p.part.model.dies, t.g .ADC_PLL_STAT_ROOT_HOLD e = 0) ∧
          raised t 0 7 k 0 ∧ same t) ∧
        let reverts := p.g .ADC_REF_CTRL_REVERT 0 ≠ 0 ∧ p.g .ADC_REF_CTRL_PRI 0 = k.val ∧ active ≠ k.val
        (lost = 0 → reverts → Yields (.referenceValid k) s fun t => t.g (refValid k) 0 = 1 ∧ moved t k) ∧
        (lost = 0 → ¬ reverts → Becomes (.referenceValid k) s (p.p (refValid k) 0 1)))) ∧
    (p.unwatched = true → ∀ (w : BitVec 32) (far : Bool),
      let v := w.toNat
      let pri := v % 4
      let carries := (p.laneSt (v / 32 % 32 * 4)).carriesRec
      let bad := pri = 3 ∨ v / 4 % 4 = 3 ∨ pri = v / 4 % 4
      let moves := (p.g .ADC_REF_CTRL_PRI 0 ≠ pri ∨ bit v 4 = true ∧ p.g .ADC_REF_CTRL_REVERT 0 = 0) ∧ active ≠ pri ∧ valid pri ≠ 0 ∧ lost = 0 ∧ (pri = 2 → carries = true)
      let stays := carries = true ∨ valid 2 = 0
      let busy := ∃ i < 16, p.runState i = .running ∨ p.runState i = .paused ∨ p.runState i = .frozen
      let set := fun (t : Pkg) => t.g .ADC_REF_CTRL_PRI 0 = pri ∧ t.g .ADC_REF_CTRL_ALT 0 = v / 4 % 4 ∧ t.g .ADC_REF_CTRL_REVERT 0 = v / 16 % 2
      (bad → Yields (.refCtrlWrite init w far) s fun t => p.refused t .ADC 0 5 init) ∧
      (¬ bad → moves → far = true → busy → Yields (.refCtrlWrite init w far) s fun t => p.refused t .ADC 0 4 init) ∧
      (¬ bad → ¬ moves → stays → Yields (.refCtrlWrite init w far) s fun t => set t ∧ t.g .ADC_REF_STAT_ACTIVE 0 = active ∧
        p.onlyFields t [(.ADC_REF_CTRL_PRI, 0), (.ADC_REF_CTRL_ALT, 0), (.ADC_REF_CTRL_REVERT, 0), (.ADC_REF_CTRL_REC_PORT, 0)]) ∧
      (¬ bad → ¬ moves → ¬ stays → active ≠ 2 ∨ lost ≠ 0 → Yields (.refCtrlWrite init w far) s fun t => set t ∧ t.g .ADC_REF_STAT_REC_VALID 0 = 0 ∧
        t.g .ADC_REF_STAT_ACTIVE 0 = active ∧ same t) ∧
      (¬ bad → ¬ moves → ¬ stays → active = 2 → lost = 0 → Yields (.refCtrlWrite init w far) s fun t => set t ∧ t.g .ADC_REF_STAT_REC_VALID 0 = 0 ∧
        (v / 4 % 4 ≠ 2 → valid (v / 4 % 4) ≠ 0 → moved t (v / 4 % 4)) ∧
        (v / 4 % 4 = 2 ∨ valid (v / 4 % 4) = 0 → t.g .ADC_REF_STAT_LOST 0 = 1 ∧ t.g .ADC_REF_STAT_HOLDOVER 0 = 1)) ∧
      (¬ bad → moves → stays → far = false → Yields (.refCtrlWrite init w far) s fun t => set t ∧ moved t pri) ∧
      (¬ bad → moves → stays → far = true → ¬ busy → Yields (.refCtrlWrite init w far) s fun t => set t ∧ t.g .ADC_REF_STAT_ACTIVE 0 = pri ∧ relocks t)) ∧
    (p.unwatched = true → ∀ r : Bool,
      let idle := ∀ i < 16, p.runState i = .unloaded
      (¬ idle → Yields (.rootWrite init r) s fun t => p.refused t .ADC 0 4 init) ∧
      (idle → p.part.slow = true → r = false → Yields (.rootWrite init r) s fun t => p.refused t .ADC 0 5 init) ∧
      (idle → p.part.slow = false ∨ r = true → Yields (.rootWrite init r) s fun t => t.g .ADC_CLK_CFG_ROOT 0 = (if r then 1 else 0) ∧ relocks t)) ∧
    (exists_ → p.g .ADC_PLL_STAT_ROOT_LOCK d ≠ 0 → lost = 0 → Yields (.rootLockLoss d) s fun t => t.g .ADC_PLL_STAT_ROOT_LOCK d = 0 ∧
      t.g .ADC_PLL_STAT_ROOT_LOCK_LOST d = 1 ∧ t.boot.relock = p.boot.relock ++ [d.val] ∧
      ∀ i < 16, p.onDie i d = true → p.runState i = .running ∨ p.runState i = .paused ∨ p.runState i = .frozen ∨ p.runState i = .loaded → faulted t i 11) ∧
    (¬ exists_ ∨ p.g .ADC_PLL_STAT_ROOT_LOCK d = 0 ∨ lost ≠ 0 → Becomes (.rootLockLoss d) s p) ∧
    (d.val ∈ p.boot.relock → Yields (.pllRelock d) s fun t => t.g .ADC_PLL_STAT_ROOT_LOCK d = 1 ∧ t.g .ADC_PLL_STAT_SD_LOCK d = 1 ∧
      t.g .ADC_PLL_STAT_HBM_LOCK d = 1 ∧ t.boot.relock = (p.boot.relock.filter fun e => e != d.val) ∧
      (t.boot.relock = [] → p.boot.realign = true → t.boot.realign = false ∧ ∀ e < p.part.model.dies, ∀ k < 4,
        bit (t.g .XBR_BRG_STAT_ALIGNED e) k = (p.part.model.neighbour e k).isSome)) ∧
    (d.val ∉ p.boot.relock → Becomes (.pllRelock d) s p) ∧
    (p.unwatched = true → exists_ →
      let may := if p.g .ADC_CTRL_HOST d ≠ 0 then isMp init = false else isMp init = true
      (may → p.lastWritten .ADC_CTRL_MODE d < 2 → Yields (.adcStart d init) s fun t => (t.adc d).start = true ∧ (t.adc d).conv = (p.adc d).conv ∧ same t ∧ p.fieldsOutside t [] ∧
        t.lastWritten .ADC_CTRL_MODE d = p.lastWritten .ADC_CTRL_MODE d) ∧
      (¬ may → Yields (.adcStart d init) s fun t => p.refused t .ADC d 4 init)) ∧
    (p.pendw = [] →
      let a := p.adc d
      let chan := p.g .ADC_CFG_CHAN d
      let settle := a.settle - 1
      let goes := a.conv = none ∧ (if p.g .ADC_CTRL_MODE d = 0 then a.start = true else a.wait = 0)
      Yields (.adcConversionBoundary d) s fun t => same t ∧ (t.adc d).settle = settle ∧ t.g .ADC_STAT_REF_SETTLED d = (if settle = 0 then 1 else 0) ∧
        (goes → (t.adc d).conv = some (chan, p.g .ADC_CFG_REF d, settle != 0) ∧ t.g .ADC_STAT_BUSY d = 1 ∧ (t.adc d).start = false ∧
          (p.g .ADC_CTRL_MODE d ≠ 0 → (t.adc d).wait = p.g .ADC_CFG_RATE d)) ∧
        (¬ goes → (t.adc d).conv = a.conv ∧ t.g .ADC_STAT_BUSY d = (if a.conv = none then 0 else 1))) ∧
    (p.pendw = [{ fld := .ADC_CFG_CHAN, idx := d.val, val := 5, wait := 0 }] → Yields (.adcConversionBoundary d) s fun t =>
      t.g .ADC_CFG_CHAN d = 5 ∧ t.pendw = []) ∧
    (∀ code : BitVec 12,
      ((p.adc d).conv = none → Becomes (.adcConversionEnd d code) s p) ∧
      ∀ chan ref un, (p.adc d).conv = some (chan, ref, un) → chan < 16 → ref < 3 → Yields (.adcConversionEnd d code) s fun t => (t.adc d).conv = none ∧
        t.g .ADC_STAT_BUSY d = 0 ∧ t.g .ADC_RESULT_CODE d = (if ref = 2 ∧ chan = 3 then 3072 else code.toNat) ∧ t.g .ADC_RESULT_CHAN d = chan ∧
        t.g .ADC_RESULT_REF d = ref ∧ t.g .ADC_RESULT_UNSETTLED d = (if un then 1 else 0) ∧ t.g .ADC_CONV_CNT d = p.plus .ADC_CONV_CNT d 1 ∧
        t.g .ADC_RESULT_SEQ d = t.g .ADC_CONV_CNT d % 4096 ∧ same t) ∧
    (∀ (r : Fin 5) (mv : BitVec 16),
      let inside := exists_ ∧ bit (p.g .ADC_MON_RAIL_IN d) r = true
      (inside → Yields (.railDeparture d r mv) s fun t => bit (t.g .ADC_MON_RAIL_IN d) r = false ∧ bit (t.g .ADC_MON_RAIL_OUT d) r = true ∧
        t.g .ADC_MON_UV_CNT d = min (p.g .ADC_MON_UV_CNT d + 1) (2 ^ Fld.width .ADC_MON_UV_CNT - 1) ∧
        (r.val ≤ 1 → ∀ i < 16, p.onDie i d = true → p.runState i = .running ∨ p.runState i = .paused ∨ p.runState i = .frozen ∨ p.runState i = .loaded →
          faulted t i 11) ∧
        (r.val = 2 → raised t d 3 r mv.toNat ∧ same t) ∧
        (3 ≤ r.val → ∀ l < 16, p.laneSt (d.val * 16 + l) = .active → t.laneSt (d.val * 16 + l) = .cal)) ∧
      (¬ inside → Becomes (.railDeparture d r mv) s p) ∧
      (exists_ → bit (p.g .ADC_MON_RAIL_IN d) r = false → Yields (.railReturn d r mv) s fun t => bit (t.g .ADC_MON_RAIL_IN d) r = true ∧
        raised t d 4 r mv.toNat ∧ same t) ∧
      (¬ exists_ ∨ bit (p.g .ADC_MON_RAIL_IN d) r = true → Becomes (.railReturn d r mv) s p)) ∧
    ∀ (n : Fin 4) (v : Int),
      let warm := p.boot.warm.at (d.val * 4 + n.val)
      (Yields (.tempWarn d n v) s fun t => bit (t.g .ADC_MON_TEMP_WARN d) n = true ∧ bit (t.g .ADC_MON_TEMP_WARN_SEEN d) n = true ∧ same t ∧
        (warm = 0 → p.mpActs d = true → raised t d 0 n v) ∧ (warm ≠ 0 ∨ p.mpActs d = false → t.evts = p.evts)) ∧
      (Yields (.tempCrit d n v) s fun t => bit (t.g .ADC_MON_TEMP_CRIT d) n = true ∧ bit (t.g .ADC_MON_TEMP_CRIT_SEEN d) n = true ∧ p.sameBytes t ∧
        (warm ≤ 1 → p.mpActs d = true → ∀ i < 16, p.runs i = true → (p.inst i).desc.cascade = false → (∃ r ∈ p.regionsOf i, r / 64 = d.val) →
          t.g .ARY_RUN_STAT_FREEZE_PEND i = 1 ∧ 14 ∈ (t.inst i).pend)) ∧
      (Yields (.thermalTrip d n) s fun t => bit (t.g .ADC_MON_TEMP_CRIT_SEEN d) n = true ∧ t.pins.thermN = false ∧
        (∀ i < 16, p.runState i = .running ∨ p.runState i = .paused ∨ p.runState i = .frozen ∨ p.runState i = .loaded → faulted t i 11) ∧
        (∀ b < p.part.model.dies * 4, t.g .IOC_BANK_STAT_ENABLED b = 0) ∧ ∀ l < p.part.model.dies * 16, t.laneSt l = .off) ∧
      ∀ crit : Bool,
        let f : Fld := if crit then .ADC_MON_TEMP_CRIT else .ADC_MON_TEMP_WARN
        (bit (p.g f d) n = true → Yields (.tempClear d n crit v) s fun t => bit (t.g f d) n = false ∧ same t ∧
          (p.mpActs d = true → raised t d 2 n v) ∧ (p.mpActs d = false → t.evts = p.evts)) ∧
        (bit (p.g f d) n = false → Becomes (.tempClear d n crit v) s p)
end

