-- ==== Sys2Proof/Laws/Store.lean ====
section
/-!
SUPPORT. What the operations of a sparse store do: read after write, and that each keeps the canonical form.
-/
namespace Sys2Proof.Machine

variable {α : Type}

/-! ## Reading back -/

@[simp] theorem Store.get_nil (d : α) (k : Nat) : Store.get d [] k = d := rfl

theorem Store.get_erase_same (d : α) (m : Store α) (k : Nat) : Store.get d (Store.erase m k) k = d := by
  induction m with
  | nil => rfl
  | cons e m ih =>
    obtain ⟨k', v⟩ := e
    by_cases h : k = k' <;> simp [Store.erase, Store.get, h, ih]
    simpa [h] using ih

theorem Store.get_erase_other (d : α) (m : Store α) (k k' : Nat) (h : k' ≠ k) :
    Store.get d (Store.erase m k) k' = Store.get d m k' := by
  induction m with
  | nil => rfl
  | cons e m ih =>
    obtain ⟨k'', v⟩ := e
    by_cases h1 : k = k''
    · subst h1; simp [Store.erase, Store.get, h, ih]
    · by_cases h2 : k' = k'' <;> simp [Store.erase, Store.get, h1, h2, ih]

/-- A key reads back what was put there. -/
theorem Store.get_set_same [DecidableEq α] (d : α) (m : Store α) (k : Nat) (v : α) : Store.get d (Store.set d m k v) k = v := by
  induction m with
  | nil => by_cases h : v = d <;> simp [Store.set, Store.get, h]
  | cons e m ih =>
    obtain ⟨k', v'⟩ := e
    unfold Store.set
    split
    · split
      · next h1 h2 => rw [Store.get_erase_same, h2]
      · simp [Store.get]
    · split
      · split
        · next h1 h2 h3 => rw [h3, Store.get_erase_same]
        · simp [Store.get]
      · next h1 h2 => simp [Store.get, h2, ih]

/-- A put leaves every other key as it was. -/
theorem Store.get_set_other [DecidableEq α] (d : α) (m : Store α) (k k' : Nat) (v : α) (h : k' ≠ k) :
    Store.get d (Store.set d m k v) k' = Store.get d m k' := by
  induction m with
  | nil => by_cases hv : v = d <;> simp [Store.set, Store.get, hv, h]
  | cons e m ih =>
    obtain ⟨k'', v''⟩ := e
    unfold Store.set
    split
    · split
      · exact Store.get_erase_other d _ k k' h
      · simp [Store.get, h]
    · split
      · next h1 h2 =>
        subst h2
        split
        · rw [Store.get_erase_other d m k k' h]; simp [Store.get, h]
        · simp [Store.get, h]
      · by_cases h2 : k' = k'' <;> simp [Store.get, h2, ih]

theorem Store.get_set [DecidableEq α] (d : α) (m : Store α) (k k' : Nat) (v : α) :
    Store.get d (Store.set d m k v) k' = if k' = k then v else Store.get d m k' := by
  by_cases h : k' = k
  · rw [if_pos h, h, Store.get_set_same]
  · rw [if_neg h, Store.get_set_other d m k k' v h]

/-- Dropping keys returns them, and only them, to the default. -/
theorem Store.get_drop (d : α) (m : Store α) (p : Nat → Bool) (k : Nat) :
    Store.get d (Store.drop m p) k = if p k then d else Store.get d m k := by
  induction m with
  | nil => simp [Store.drop, Store.get]
  | cons e m ih =>
    obtain ⟨k', v⟩ := e
    simp only [Store.drop, List.filter] at ih ⊢
    by_cases hp : p k' = true
    · simp only [hp, Bool.not_true, Store.get]
      rw [ih]
      by_cases hk : k = k'
      · subst hk; simp [hp]
      · simp [hk]
    · simp only [Bool.not_eq_true] at hp
      simp only [hp, Bool.not_false, Store.get]
      rw [ih]
      by_cases hk : k = k'
      · subst hk; simp [hp]
      · simp [hk]

/-- A key that no entry has holds the default. -/
theorem Store.get_unlisted (d : α) (m : Store α) (k : Nat) (h : ∀ e ∈ m, e.1 ≠ k) : Store.get d m k = d := by
  induction m with
  | nil => rfl
  | cons e m ih =>
    obtain ⟨k', v⟩ := e
    have h1 : k ≠ k' := fun x => h (k', v) (by simp) x.symm
    simp only [Store.get, if_neg h1]
    exact ih fun e he => h e (by simp [he])

@[simp] theorem NStore.at_put_same (m : NStore) (k v : Nat) : (m.put k v).at k = v := Store.get_set_same 0 m k v
theorem NStore.at_put_other (m : NStore) (k k' v : Nat) (h : k' ≠ k) : (m.put k v).at k' = m.at k' := Store.get_set_other 0 m k k' v h
theorem NStore.at_put (m : NStore) (k k' v : Nat) : (m.put k v).at k' = if k' = k then v else m.at k' := Store.get_set 0 m k k' v
theorem NStore.at_drop (m : NStore) (p : Nat → Bool) (k : Nat) : NStore.at (Store.drop m p) k = if p k then 0 else m.at k :=
  Store.get_drop 0 m p k
@[simp] theorem NStore.at_nil (k : Nat) : NStore.at [] k = 0 := rfl

/-! ## The canonical form -/

/-- Canonical form as two facts: keys strictly rise, and no listed value is the default. -/
theorem Store.wf_iff [DecidableEq α] (d : α) (m : Store α) :
    Store.wf d m = true ↔ m.Pairwise (fun a b => a.1 < b.1) ∧ ∀ e ∈ m, e.2 ≠ d := by
  induction m with
  | nil => simp [Store.wf]
  | cons e m ih =>
    obtain ⟨k, v⟩ := e
    cases m with
    | nil => simp [Store.wf]
    | cons e' m =>
      obtain ⟨k', v'⟩ := e'
      rw [Store.wf]
      simp only [Bool.and_eq_true, decide_eq_true_eq, ih, List.pairwise_cons, List.mem_cons, forall_eq_or_imp]
      constructor
      · rintro ⟨⟨h1, h2⟩, ⟨h3, h4⟩, h5, h6⟩
        exact ⟨⟨⟨h2, fun e he => lt_trans h2 (h3 e he)⟩, h3, h4⟩, h1, h5, h6⟩
      · rintro ⟨⟨⟨h2, _⟩, h3, h4⟩, h1, h5, h6⟩
        exact ⟨⟨h1, h2⟩, ⟨h3, h4⟩, h5, h6⟩

@[simp] theorem Store.wf_nil [DecidableEq α] (d : α) : Store.wf d ([] : Store α) = true := rfl

theorem Store.erase_sublist (m : Store α) (k : Nat) : (Store.erase m k).Sublist m := by
  induction m with
  | nil => simp [Store.erase]
  | cons e m ih =>
    obtain ⟨k', v⟩ := e
    by_cases h : k = k' <;> simp [Store.erase, h]
    · subst h; exact ih.trans (List.sublist_cons_self _ _)
    · exact ih

theorem Store.wf_sublist [DecidableEq α] (d : α) {m m' : Store α} (h : m'.Sublist m) (hm : Store.wf d m = true) : Store.wf d m' = true := by
  rw [Store.wf_iff] at hm ⊢
  exact ⟨hm.1.sublist h, fun e he => hm.2 e (h.subset he)⟩

theorem Store.wf_erase [DecidableEq α] (d : α) (m : Store α) (k : Nat) (hm : Store.wf d m = true) : Store.wf d (Store.erase m k) = true :=
  Store.wf_sublist d (Store.erase_sublist m k) hm

theorem Store.wf_drop [DecidableEq α] (d : α) (m : Store α) (p : Nat → Bool) (hm : Store.wf d m = true) :
    Store.wf d (Store.drop m p) = true := Store.wf_sublist d List.filter_sublist hm

theorem Store.mem_set [DecidableEq α] (d : α) (m : Store α) (k : Nat) (v : α) (e : Nat × α) (he : e ∈ Store.set d m k v) :
    e ∈ m ∨ e = (k, v) := by
  induction m with
  | nil =>
    unfold Store.set at he
    split at he
    · simp at he
    · simpa using he
  | cons x m ih =>
    obtain ⟨k', v'⟩ := x
    unfold Store.set at he
    split at he
    · split at he
      · exact .inl ((Store.erase_sublist _ k).subset he)
      · rcases List.mem_cons.1 he with h | h
        · exact .inr h
        · exact .inl h
    · split at he
      · split at he
        · exact .inl (List.mem_cons_of_mem _ ((Store.erase_sublist _ k).subset he))
        · rcases List.mem_cons.1 he with h | h
          · exact .inr h
          · exact .inl (List.mem_cons_of_mem _ h)
      · rcases List.mem_cons.1 he with h | h
        · exact .inl (h ▸ List.mem_cons_self)
        · rcases ih h with h | h
          · exact .inl (List.mem_cons_of_mem _ h)
          · exact .inr h

/-- A put keeps the canonical form. -/
theorem Store.wf_set [DecidableEq α] (d : α) (m : Store α) (k : Nat) (v : α) (hm : Store.wf d m = true) :
    Store.wf d (Store.set d m k v) = true := by
  induction m with
  | nil => by_cases h : v = d <;> simp [Store.set, Store.wf, h]
  | cons e m ih =>
    obtain ⟨k', v'⟩ := e
    have hm' := hm
    rw [Store.wf_iff, List.pairwise_cons] at hm'
    have htail : Store.wf d m = true := Store.wf_sublist d (List.sublist_cons_self _ _) hm
    unfold Store.set
    split
    · next hlt =>
      split
      · exact Store.wf_erase d _ k hm
      · next hv =>
        rw [Store.wf_iff, List.pairwise_cons]
        refine ⟨⟨fun e he => ?_, (Store.wf_iff d _).1 hm |>.1⟩, fun e he => ?_⟩
        · rcases List.mem_cons.1 he with h | h
          · subst h; exact hlt
          · exact lt_trans hlt (hm'.1.1 e h)
        · rcases List.mem_cons.1 he with h | h
          · subst h; exact hv
          · exact hm'.2 e h
    · split
      · next heq =>
        split
        · exact Store.wf_erase d m k htail
        · next hv =>
          rw [Store.wf_iff, List.pairwise_cons]
          refine ⟨⟨fun e he => heq ▸ hm'.1.1 e he, hm'.1.2⟩, fun e he => ?_⟩
          rcases List.mem_cons.1 he with h | h
          · subst h; exact hv
          · exact hm'.2 e (List.mem_cons_of_mem _ h)
      · next hlt hne =>
        rw [Store.wf_iff, List.pairwise_cons]
        have h := (Store.wf_iff d _).1 (ih htail)
        refine ⟨⟨fun e he => ?_, h.1⟩, fun e he => ?_⟩
        · rcases Store.mem_set d m k v e he with h | h
          · exact hm'.1.1 e h
          · subst h; simp only; omega
        · rcases List.mem_cons.1 he with h' | h'
          · subst h'; exact hm'.2 _ List.mem_cons_self
          · exact h.2 e h'

theorem Store.wf_setAll [DecidableEq α] (d : α) (m : Store α) (l : List (Nat × α)) (hm : Store.wf d m = true) :
    Store.wf d (Store.setAll d m l) = true := by
  induction l generalizing m with
  | nil => exact hm
  | cons e l ih => exact ih (m.set d e.1 e.2) (Store.wf_set d m e.1 e.2 hm)

end Sys2Proof.Machine
end

