-- ==== Sys2Proof/Laws/Fields.lean ====
section
/-!
SUPPORT. Register fields: what a field reads after any field was written, captured or cleared.
-/
namespace Sys2Proof.Machine

theorem Fld.ctorIdx_lt (f : Fld) : f.ctorIdx < 1024 := by cases f <;> decide

theorem Fld.ctorIdx_inj {f f' : Fld} (h : f.ctorIdx = f'.ctorIdx) : f = f' := by
  rw [← Fld.ofNat_ctorIdx f, h, Fld.ofNat_ctorIdx]

/-- Two fields share a key only if they are the same field of the same unit. -/
theorem fkey_eq_iff (f f' : Fld) (i i' : Nat) : fkey f i = fkey f' i' ↔ f = f' ∧ i = i' := by
  constructor
  · intro h
    have h1 := Fld.ctorIdx_lt f
    have h2 := Fld.ctorIdx_lt f'
    unfold fkey at h
    have hi : i = i' := by omega
    subst hi
    exact ⟨Fld.ctorIdx_inj (by omega), rfl⟩
  · rintro ⟨rfl, rfl⟩; rfl

@[simp] theorem fkey_mod (f : Fld) (i : Nat) : fkey f i % 1024 = f.ctorIdx := by
  have := Fld.ctorIdx_lt f
  unfold fkey; omega
@[simp] theorem fkey_div (f : Fld) (i : Nat) : fkey f i / 1024 = i := by
  have := Fld.ctorIdx_lt f
  unfold fkey; omega

/-- A value written as a difference from the reset value reads back. -/
theorem field_mod (w v r : Nat) (hw : 0 < w) : ((v % w + w - r % w) % w + r) % w = v % w := by
  have h1 := Nat.mod_lt v hw
  have h2 := Nat.mod_lt r hw
  rw [Nat.mod_add_mod]
  have : v % w + w - r % w + r = v % w + w * (1 + r / w) := by
    have := Nat.mod_add_div r w
    rw [Nat.mul_add, Nat.mul_one]
    omega
  rw [this, Nat.add_mul_mod_self_left, Nat.mod_mod]

variable (s : Pkg)

/-- A field is never wider than its width. -/
theorem Pkg.g_lt (f : Fld) (i : Nat) : s.g f i < 2 ^ f.width := Nat.mod_lt _ (by positivity)

/-- A field reads what was written to it, held to its width. -/
@[simp] theorem Pkg.g_p_same (f : Fld) (i v : Nat) : (s.p f i v).g f i = v % 2 ^ f.width := by
  unfold Pkg.g Pkg.p
  simp only [NStore.at_put_same]
  exact field_mod _ v _ (by positivity)

/-- A write of one field leaves every other field of every unit as it was. -/
theorem Pkg.g_p_other (f f' : Fld) (i i' v : Nat) (h : ¬(f' = f ∧ i' = i)) : (s.p f i v).g f' i' = s.g f' i' := by
  unfold Pkg.g Pkg.p
  rw [NStore.at_put_other _ _ _ _ (fun e => h ((fkey_eq_iff f' f i' i).1 e))]

/-- The two facts above in one, for rewriting. -/
theorem Pkg.g_p (f f' : Fld) (i i' v : Nat) : (s.p f i v).g f' i' = if f' = f ∧ i' = i then v % 2 ^ f.width else s.g f' i' := by
  split
  · next h => obtain ⟨rfl, rfl⟩ := h; simp
  · next h => exact s.g_p_other f f' i i' v h

@[simp] theorem Pkg.g_p_fld (f f' : Fld) (i i' v : Nat) (h : f' ≠ f) : (s.p f i v).g f' i' = s.g f' i' :=
  s.g_p_other f f' i i' v fun e => h e.1

theorem Pkg.b_p (f f' : Fld) (i i' v : Nat) :
    (s.p f i v).b f' i' = if f' = f ∧ i' = i then decide (v % 2 ^ f.width ≠ 0) else s.b f' i' := by
  unfold Pkg.b
  rw [Pkg.g_p]
  split <;> simp [bne, Bool.beq_eq_decide_eq]

theorem Pkg.g_pb (f f' : Fld) (i i' : Nat) (v : Bool) :
    (s.pb f i v).g f' i' = if f' = f ∧ i' = i then b2n v % 2 ^ f.width else s.g f' i' := s.g_p f f' i i' (b2n v)

theorem Pkg.g_inc (f f' : Fld) (i i' n : Nat) :
    (s.inc f i n).g f' i' = if f' = f ∧ i' = i then (s.g f i + n) % 2 ^ f.width else s.g f' i' := s.g_p f f' i i' _

theorem Pkg.g_incSat (f f' : Fld) (i i' n : Nat) :
    (s.incSat f i n).g f' i' = if f' = f ∧ i' = i then min (s.g f i + n) (2 ^ f.width - 1) else s.g f' i' := by
  unfold Pkg.incSat
  rw [Pkg.g_p]
  split
  · have h : (0 : Nat) < 2 ^ f.width := by positivity
    rw [Nat.mod_eq_of_lt]
    have := min_le_right (s.g f i + n) (2 ^ f.width - 1)
    omega
  · rfl

/-- A write of a list of fields leaves a field not in the list as it was. -/
theorem Pkg.g_ps_other (l : List (Fld × Nat × Nat)) (f : Fld) (i : Nat) (h : ∀ e ∈ l, ¬(f = e.1 ∧ i = e.2.1)) :
    (s.ps l).g f i = s.g f i := by
  induction l generalizing s with
  | nil => rfl
  | cons e l ih =>
    show ((s.p e.1 e.2.1 e.2.2).ps l).g f i = _
    rw [ih _ fun x hx => h x (by simp [hx]), s.g_p_other _ _ _ _ _ (h e (by simp))]

@[simp] theorem Pkg.ps_nil : s.ps [] = s := rfl
theorem Pkg.ps_cons (e : Fld × Nat × Nat) (l : List (Fld × Nat × Nat)) : s.ps (e :: l) = (s.p e.1 e.2.1 e.2.2).ps l := rfl
@[simp] theorem Pkg.each_nil {α : Type} (f : Pkg → α → Pkg) : s.each [] f = s := rfl
theorem Pkg.each_cons {α : Type} (x : α) (l : List α) (f : Pkg → α → Pkg) : s.each (x :: l) f = (f s x).each l f := rfl

/-- What every step of a list keeps, the whole of it keeps. -/
theorem Pkg.each_keeps {α : Type} (P : Pkg → Prop) (l : List α) (f : Pkg → α → Pkg) (h : ∀ t x, x ∈ l → P t → P (f t x)) (hs : P s) :
    P (s.each l f) := by
  induction l generalizing s with
  | nil => exact hs
  | cons x l ih => exact ih (f s x) (fun t y hy => h t y (by simp [hy])) (h s x (by simp) hs)

/-- A field whose key is not listed holds its reset value. -/
theorem Pkg.g_default (f : Fld) (i : Nat) (h : s.flds.at (fkey f i) = 0) : s.g f i = f.reset i % 2 ^ f.width := by
  unfold Pkg.g; rw [h, Nat.zero_add]

/-- A register write keeps the canonical form of the register store. -/
theorem Pkg.flds_wf_p (f : Fld) (i v : Nat) (h : Store.wf 0 s.flds = true) : Store.wf 0 (s.p f i v).flds = true :=
  Store.wf_set 0 _ _ _ h

end Sys2Proof.Machine
end

