-- ==== Sys2Proof/Laws/State.lean ====
section
/-!
SUPPORT. Every update of the package leaves the fields it does not name as they were: one lemma per update and field, and what a changed field reads.
-/
namespace Sys2Proof.Machine

variable (s : Pkg)

/-! ## `Pkg.p` -/

@[simp] theorem Pkg.p_part (f : Fld) (i v : Nat) : (s.p f i v).part = s.part := rfl
@[simp] theorem Pkg.p_fresh (f : Fld) (i v : Nat) : (s.p f i v).fresh = s.fresh := rfl
@[simp] theorem Pkg.p_snaps (f : Fld) (i v : Nat) : (s.p f i v).snaps = s.snaps := rfl
@[simp] theorem Pkg.p_pendw (f : Fld) (i v : Nat) : (s.p f i v).pendw = s.pendw := rfl
@[simp] theorem Pkg.p_evts (f : Fld) (i v : Nat) : (s.p f i v).evts = s.evts := rfl
@[simp] theorem Pkg.p_evtLost (f : Fld) (i v : Nat) : (s.p f i v).evtLost = s.evtLost := rfl
@[simp] theorem Pkg.p_insts (f : Fld) (i v : Nat) : (s.p f i v).insts = s.insts := rfl
@[simp] theorem Pkg.p_fab (f : Fld) (i v : Nat) : (s.p f i v).fab = s.fab := rfl
@[simp] theorem Pkg.p_cav (f : Fld) (i v : Nat) : (s.p f i v).cav = s.cav := rfl
@[simp] theorem Pkg.p_que (f : Fld) (i v : Nat) : (s.p f i v).que = s.que := rfl
@[simp] theorem Pkg.p_pins (f : Fld) (i v : Nat) : (s.p f i v).pins = s.pins := rfl
@[simp] theorem Pkg.p_trc (f : Fld) (i v : Nat) : (s.p f i v).trc = s.trc := rfl
@[simp] theorem Pkg.p_lanes (f : Fld) (i v : Nat) : (s.p f i v).lanes = s.lanes := rfl
@[simp] theorem Pkg.p_ports (f : Fld) (i v : Nat) : (s.p f i v).ports = s.ports := rfl
@[simp] theorem Pkg.p_cas (f : Fld) (i v : Nat) : (s.p f i v).cas = s.cas := rfl
@[simp] theorem Pkg.p_mbx (f : Fld) (i v : Nat) : (s.p f i v).mbx = s.mbx := rfl
@[simp] theorem Pkg.p_jobs (f : Fld) (i v : Nat) : (s.p f i v).jobs = s.jobs := rfl
@[simp] theorem Pkg.p_sends (f : Fld) (i v : Nat) : (s.p f i v).sends = s.sends := rfl
@[simp] theorem Pkg.p_recvs (f : Fld) (i v : Nat) : (s.p f i v).recvs = s.recvs := rfl
@[simp] theorem Pkg.p_sram (f : Fld) (i v : Nat) : (s.p f i v).sram = s.sram := rfl
@[simp] theorem Pkg.p_irq (f : Fld) (i v : Nat) : (s.p f i v).irq = s.irq := rfl
@[simp] theorem Pkg.p_sch (f : Fld) (i v : Nat) : (s.p f i v).sch = s.sch := rfl
@[simp] theorem Pkg.p_load (f : Fld) (i v : Nat) : (s.p f i v).load = s.load := rfl
@[simp] theorem Pkg.p_reloc (f : Fld) (i v : Nat) : (s.p f i v).reloc = s.reloc := rfl
@[simp] theorem Pkg.p_trn (f : Fld) (i v : Nat) : (s.p f i v).trn = s.trn := rfl
@[simp] theorem Pkg.p_slotA (f : Fld) (i v : Nat) : (s.p f i v).slotA = s.slotA := rfl
@[simp] theorem Pkg.p_slotB (f : Fld) (i v : Nat) : (s.p f i v).slotB = s.slotB := rfl
@[simp] theorem Pkg.p_notes (f : Fld) (i v : Nat) : (s.p f i v).notes = s.notes := rfl
@[simp] theorem Pkg.p_svc (f : Fld) (i v : Nat) : (s.p f i v).svc = s.svc := rfl
@[simp] theorem Pkg.p_tim (f : Fld) (i v : Nat) : (s.p f i v).tim = s.tim := rfl
@[simp] theorem Pkg.p_dbg (f : Fld) (i v : Nat) : (s.p f i v).dbg = s.dbg := rfl
@[simp] theorem Pkg.p_boot (f : Fld) (i v : Nat) : (s.p f i v).boot = s.boot := rfl
@[simp] theorem Pkg.p_host (f : Fld) (i v : Nat) : (s.p f i v).host = s.host := rfl

/-! ## `Pkg.pb` -/

@[simp] theorem Pkg.pb_part (f : Fld) (i : Nat) (v : Bool) : (s.pb f i v).part = s.part := rfl
@[simp] theorem Pkg.pb_fresh (f : Fld) (i : Nat) (v : Bool) : (s.pb f i v).fresh = s.fresh := rfl
@[simp] theorem Pkg.pb_snaps (f : Fld) (i : Nat) (v : Bool) : (s.pb f i v).snaps = s.snaps := rfl
@[simp] theorem Pkg.pb_pendw (f : Fld) (i : Nat) (v : Bool) : (s.pb f i v).pendw = s.pendw := rfl
@[simp] theorem Pkg.pb_evts (f : Fld) (i : Nat) (v : Bool) : (s.pb f i v).evts = s.evts := rfl
@[simp] theorem Pkg.pb_evtLost (f : Fld) (i : Nat) (v : Bool) : (s.pb f i v).evtLost = s.evtLost := rfl
@[simp] theorem Pkg.pb_insts (f : Fld) (i : Nat) (v : Bool) : (s.pb f i v).insts = s.insts := rfl
@[simp] theorem Pkg.pb_fab (f : Fld) (i : Nat) (v : Bool) : (s.pb f i v).fab = s.fab := rfl
@[simp] theorem Pkg.pb_cav (f : Fld) (i : Nat) (v : Bool) : (s.pb f i v).cav = s.cav := rfl
@[simp] theorem Pkg.pb_que (f : Fld) (i : Nat) (v : Bool) : (s.pb f i v).que = s.que := rfl
@[simp] theorem Pkg.pb_pins (f : Fld) (i : Nat) (v : Bool) : (s.pb f i v).pins = s.pins := rfl
@[simp] theorem Pkg.pb_trc (f : Fld) (i : Nat) (v : Bool) : (s.pb f i v).trc = s.trc := rfl
@[simp] theorem Pkg.pb_lanes (f : Fld) (i : Nat) (v : Bool) : (s.pb f i v).lanes = s.lanes := rfl
@[simp] theorem Pkg.pb_ports (f : Fld) (i : Nat) (v : Bool) : (s.pb f i v).ports = s.ports := rfl
@[simp] theorem Pkg.pb_cas (f : Fld) (i : Nat) (v : Bool) : (s.pb f i v).cas = s.cas := rfl
@[simp] theorem Pkg.pb_mbx (f : Fld) (i : Nat) (v : Bool) : (s.pb f i v).mbx = s.mbx := rfl
@[simp] theorem Pkg.pb_jobs (f : Fld) (i : Nat) (v : Bool) : (s.pb f i v).jobs = s.jobs := rfl
@[simp] theorem Pkg.pb_sends (f : Fld) (i : Nat) (v : Bool) : (s.pb f i v).sends = s.sends := rfl
@[simp] theorem Pkg.pb_recvs (f : Fld) (i : Nat) (v : Bool) : (s.pb f i v).recvs = s.recvs := rfl
@[simp] theorem Pkg.pb_sram (f : Fld) (i : Nat) (v : Bool) : (s.pb f i v).sram = s.sram := rfl
@[simp] theorem Pkg.pb_irq (f : Fld) (i : Nat) (v : Bool) : (s.pb f i v).irq = s.irq := rfl
@[simp] theorem Pkg.pb_sch (f : Fld) (i : Nat) (v : Bool) : (s.pb f i v).sch = s.sch := rfl
@[simp] theorem Pkg.pb_load (f : Fld) (i : Nat) (v : Bool) : (s.pb f i v).load = s.load := rfl
@[simp] theorem Pkg.pb_reloc (f : Fld) (i : Nat) (v : Bool) : (s.pb f i v).reloc = s.reloc := rfl
@[simp] theorem Pkg.pb_trn (f : Fld) (i : Nat) (v : Bool) : (s.pb f i v).trn = s.trn := rfl
@[simp] theorem Pkg.pb_slotA (f : Fld) (i : Nat) (v : Bool) : (s.pb f i v).slotA = s.slotA := rfl
@[simp] theorem Pkg.pb_slotB (f : Fld) (i : Nat) (v : Bool) : (s.pb f i v).slotB = s.slotB := rfl
@[simp] theorem Pkg.pb_notes (f : Fld) (i : Nat) (v : Bool) : (s.pb f i v).notes = s.notes := rfl
@[simp] theorem Pkg.pb_svc (f : Fld) (i : Nat) (v : Bool) : (s.pb f i v).svc = s.svc := rfl
@[simp] theorem Pkg.pb_tim (f : Fld) (i : Nat) (v : Bool) : (s.pb f i v).tim = s.tim := rfl
@[simp] theorem Pkg.pb_dbg (f : Fld) (i : Nat) (v : Bool) : (s.pb f i v).dbg = s.dbg := rfl
@[simp] theorem Pkg.pb_boot (f : Fld) (i : Nat) (v : Bool) : (s.pb f i v).boot = s.boot := rfl
@[simp] theorem Pkg.pb_host (f : Fld) (i : Nat) (v : Bool) : (s.pb f i v).host = s.host := rfl

/-! ## `Pkg.inc` -/

@[simp] theorem Pkg.inc_part (f : Fld) (i n : Nat) : (s.inc f i n).part = s.part := rfl
@[simp] theorem Pkg.inc_fresh (f : Fld) (i n : Nat) : (s.inc f i n).fresh = s.fresh := rfl
@[simp] theorem Pkg.inc_snaps (f : Fld) (i n : Nat) : (s.inc f i n).snaps = s.snaps := rfl
@[simp] theorem Pkg.inc_pendw (f : Fld) (i n : Nat) : (s.inc f i n).pendw = s.pendw := rfl
@[simp] theorem Pkg.inc_evts (f : Fld) (i n : Nat) : (s.inc f i n).evts = s.evts := rfl
@[simp] theorem Pkg.inc_evtLost (f : Fld) (i n : Nat) : (s.inc f i n).evtLost = s.evtLost := rfl
@[simp] theorem Pkg.inc_insts (f : Fld) (i n : Nat) : (s.inc f i n).insts = s.insts := rfl
@[simp] theorem Pkg.inc_fab (f : Fld) (i n : Nat) : (s.inc f i n).fab = s.fab := rfl
@[simp] theorem Pkg.inc_cav (f : Fld) (i n : Nat) : (s.inc f i n).cav = s.cav := rfl
@[simp] theorem Pkg.inc_que (f : Fld) (i n : Nat) : (s.inc f i n).que = s.que := rfl
@[simp] theorem Pkg.inc_pins (f : Fld) (i n : Nat) : (s.inc f i n).pins = s.pins := rfl
@[simp] theorem Pkg.inc_trc (f : Fld) (i n : Nat) : (s.inc f i n).trc = s.trc := rfl
@[simp] theorem Pkg.inc_lanes (f : Fld) (i n : Nat) : (s.inc f i n).lanes = s.lanes := rfl
@[simp] theorem Pkg.inc_ports (f : Fld) (i n : Nat) : (s.inc f i n).ports = s.ports := rfl
@[simp] theorem Pkg.inc_cas (f : Fld) (i n : Nat) : (s.inc f i n).cas = s.cas := rfl
@[simp] theorem Pkg.inc_mbx (f : Fld) (i n : Nat) : (s.inc f i n).mbx = s.mbx := rfl
@[simp] theorem Pkg.inc_jobs (f : Fld) (i n : Nat) : (s.inc f i n).jobs = s.jobs := rfl
@[simp] theorem Pkg.inc_sends (f : Fld) (i n : Nat) : (s.inc f i n).sends = s.sends := rfl
@[simp] theorem Pkg.inc_recvs (f : Fld) (i n : Nat) : (s.inc f i n).recvs = s.recvs := rfl
@[simp] theorem Pkg.inc_sram (f : Fld) (i n : Nat) : (s.inc f i n).sram = s.sram := rfl
@[simp] theorem Pkg.inc_irq (f : Fld) (i n : Nat) : (s.inc f i n).irq = s.irq := rfl
@[simp] theorem Pkg.inc_sch (f : Fld) (i n : Nat) : (s.inc f i n).sch = s.sch := rfl
@[simp] theorem Pkg.inc_load (f : Fld) (i n : Nat) : (s.inc f i n).load = s.load := rfl
@[simp] theorem Pkg.inc_reloc (f : Fld) (i n : Nat) : (s.inc f i n).reloc = s.reloc := rfl
@[simp] theorem Pkg.inc_trn (f : Fld) (i n : Nat) : (s.inc f i n).trn = s.trn := rfl
@[simp] theorem Pkg.inc_slotA (f : Fld) (i n : Nat) : (s.inc f i n).slotA = s.slotA := rfl
@[simp] theorem Pkg.inc_slotB (f : Fld) (i n : Nat) : (s.inc f i n).slotB = s.slotB := rfl
@[simp] theorem Pkg.inc_notes (f : Fld) (i n : Nat) : (s.inc f i n).notes = s.notes := rfl
@[simp] theorem Pkg.inc_svc (f : Fld) (i n : Nat) : (s.inc f i n).svc = s.svc := rfl
@[simp] theorem Pkg.inc_tim (f : Fld) (i n : Nat) : (s.inc f i n).tim = s.tim := rfl
@[simp] theorem Pkg.inc_dbg (f : Fld) (i n : Nat) : (s.inc f i n).dbg = s.dbg := rfl
@[simp] theorem Pkg.inc_boot (f : Fld) (i n : Nat) : (s.inc f i n).boot = s.boot := rfl
@[simp] theorem Pkg.inc_host (f : Fld) (i n : Nat) : (s.inc f i n).host = s.host := rfl

/-! ## `Pkg.incSat` -/

@[simp] theorem Pkg.incSat_part (f : Fld) (i n : Nat) : (s.incSat f i n).part = s.part := rfl
@[simp] theorem Pkg.incSat_fresh (f : Fld) (i n : Nat) : (s.incSat f i n).fresh = s.fresh := rfl
@[simp] theorem Pkg.incSat_snaps (f : Fld) (i n : Nat) : (s.incSat f i n).snaps = s.snaps := rfl
@[simp] theorem Pkg.incSat_pendw (f : Fld) (i n : Nat) : (s.incSat f i n).pendw = s.pendw := rfl
@[simp] theorem Pkg.incSat_evts (f : Fld) (i n : Nat) : (s.incSat f i n).evts = s.evts := rfl
@[simp] theorem Pkg.incSat_evtLost (f : Fld) (i n : Nat) : (s.incSat f i n).evtLost = s.evtLost := rfl
@[simp] theorem Pkg.incSat_insts (f : Fld) (i n : Nat) : (s.incSat f i n).insts = s.insts := rfl
@[simp] theorem Pkg.incSat_fab (f : Fld) (i n : Nat) : (s.incSat f i n).fab = s.fab := rfl
@[simp] theorem Pkg.incSat_cav (f : Fld) (i n : Nat) : (s.incSat f i n).cav = s.cav := rfl
@[simp] theorem Pkg.incSat_que (f : Fld) (i n : Nat) : (s.incSat f i n).que = s.que := rfl
@[simp] theorem Pkg.incSat_pins (f : Fld) (i n : Nat) : (s.incSat f i n).pins = s.pins := rfl
@[simp] theorem Pkg.incSat_trc (f : Fld) (i n : Nat) : (s.incSat f i n).trc = s.trc := rfl
@[simp] theorem Pkg.incSat_lanes (f : Fld) (i n : Nat) : (s.incSat f i n).lanes = s.lanes := rfl
@[simp] theorem Pkg.incSat_ports (f : Fld) (i n : Nat) : (s.incSat f i n).ports = s.ports := rfl
@[simp] theorem Pkg.incSat_cas (f : Fld) (i n : Nat) : (s.incSat f i n).cas = s.cas := rfl
@[simp] theorem Pkg.incSat_mbx (f : Fld) (i n : Nat) : (s.incSat f i n).mbx = s.mbx := rfl
@[simp] theorem Pkg.incSat_jobs (f : Fld) (i n : Nat) : (s.incSat f i n).jobs = s.jobs := rfl
@[simp] theorem Pkg.incSat_sends (f : Fld) (i n : Nat) : (s.incSat f i n).sends = s.sends := rfl
@[simp] theorem Pkg.incSat_recvs (f : Fld) (i n : Nat) : (s.incSat f i n).recvs = s.recvs := rfl
@[simp] theorem Pkg.incSat_sram (f : Fld) (i n : Nat) : (s.incSat f i n).sram = s.sram := rfl
@[simp] theorem Pkg.incSat_irq (f : Fld) (i n : Nat) : (s.incSat f i n).irq = s.irq := rfl
@[simp] theorem Pkg.incSat_sch (f : Fld) (i n : Nat) : (s.incSat f i n).sch = s.sch := rfl
@[simp] theorem Pkg.incSat_load (f : Fld) (i n : Nat) : (s.incSat f i n).load = s.load := rfl
@[simp] theorem Pkg.incSat_reloc (f : Fld) (i n : Nat) : (s.incSat f i n).reloc = s.reloc := rfl
@[simp] theorem Pkg.incSat_trn (f : Fld) (i n : Nat) : (s.incSat f i n).trn = s.trn := rfl
@[simp] theorem Pkg.incSat_slotA (f : Fld) (i n : Nat) : (s.incSat f i n).slotA = s.slotA := rfl
@[simp] theorem Pkg.incSat_slotB (f : Fld) (i n : Nat) : (s.incSat f i n).slotB = s.slotB := rfl
@[simp] theorem Pkg.incSat_notes (f : Fld) (i n : Nat) : (s.incSat f i n).notes = s.notes := rfl
@[simp] theorem Pkg.incSat_svc (f : Fld) (i n : Nat) : (s.incSat f i n).svc = s.svc := rfl
@[simp] theorem Pkg.incSat_tim (f : Fld) (i n : Nat) : (s.incSat f i n).tim = s.tim := rfl
@[simp] theorem Pkg.incSat_dbg (f : Fld) (i n : Nat) : (s.incSat f i n).dbg = s.dbg := rfl
@[simp] theorem Pkg.incSat_boot (f : Fld) (i n : Nat) : (s.incSat f i n).boot = s.boot := rfl
@[simp] theorem Pkg.incSat_host (f : Fld) (i n : Nat) : (s.incSat f i n).host = s.host := rfl

/-! ## `Pkg.pbit` -/

@[simp] theorem Pkg.pbit_part (f : Fld) (i b : Nat) (v : Bool) : (s.pbit f i b v).part = s.part := rfl
@[simp] theorem Pkg.pbit_fresh (f : Fld) (i b : Nat) (v : Bool) : (s.pbit f i b v).fresh = s.fresh := rfl
@[simp] theorem Pkg.pbit_snaps (f : Fld) (i b : Nat) (v : Bool) : (s.pbit f i b v).snaps = s.snaps := rfl
@[simp] theorem Pkg.pbit_pendw (f : Fld) (i b : Nat) (v : Bool) : (s.pbit f i b v).pendw = s.pendw := rfl
@[simp] theorem Pkg.pbit_evts (f : Fld) (i b : Nat) (v : Bool) : (s.pbit f i b v).evts = s.evts := rfl
@[simp] theorem Pkg.pbit_evtLost (f : Fld) (i b : Nat) (v : Bool) : (s.pbit f i b v).evtLost = s.evtLost := rfl
@[simp] theorem Pkg.pbit_insts (f : Fld) (i b : Nat) (v : Bool) : (s.pbit f i b v).insts = s.insts := rfl
@[simp] theorem Pkg.pbit_fab (f : Fld) (i b : Nat) (v : Bool) : (s.pbit f i b v).fab = s.fab := rfl
@[simp] theorem Pkg.pbit_cav (f : Fld) (i b : Nat) (v : Bool) : (s.pbit f i b v).cav = s.cav := rfl
@[simp] theorem Pkg.pbit_que (f : Fld) (i b : Nat) (v : Bool) : (s.pbit f i b v).que = s.que := rfl
@[simp] theorem Pkg.pbit_pins (f : Fld) (i b : Nat) (v : Bool) : (s.pbit f i b v).pins = s.pins := rfl
@[simp] theorem Pkg.pbit_trc (f : Fld) (i b : Nat) (v : Bool) : (s.pbit f i b v).trc = s.trc := rfl
@[simp] theorem Pkg.pbit_lanes (f : Fld) (i b : Nat) (v : Bool) : (s.pbit f i b v).lanes = s.lanes := rfl
@[simp] theorem Pkg.pbit_ports (f : Fld) (i b : Nat) (v : Bool) : (s.pbit f i b v).ports = s.ports := rfl
@[simp] theorem Pkg.pbit_cas (f : Fld) (i b : Nat) (v : Bool) : (s.pbit f i b v).cas = s.cas := rfl
@[simp] theorem Pkg.pbit_mbx (f : Fld) (i b : Nat) (v : Bool) : (s.pbit f i b v).mbx = s.mbx := rfl
@[simp] theorem Pkg.pbit_jobs (f : Fld) (i b : Nat) (v : Bool) : (s.pbit f i b v).jobs = s.jobs := rfl
@[simp] theorem Pkg.pbit_sends (f : Fld) (i b : Nat) (v : Bool) : (s.pbit f i b v).sends = s.sends := rfl
@[simp] theorem Pkg.pbit_recvs (f : Fld) (i b : Nat) (v : Bool) : (s.pbit f i b v).recvs = s.recvs := rfl
@[simp] theorem Pkg.pbit_sram (f : Fld) (i b : Nat) (v : Bool) : (s.pbit f i b v).sram = s.sram := rfl
@[simp] theorem Pkg.pbit_irq (f : Fld) (i b : Nat) (v : Bool) : (s.pbit f i b v).irq = s.irq := rfl
@[simp] theorem Pkg.pbit_sch (f : Fld) (i b : Nat) (v : Bool) : (s.pbit f i b v).sch = s.sch := rfl
@[simp] theorem Pkg.pbit_load (f : Fld) (i b : Nat) (v : Bool) : (s.pbit f i b v).load = s.load := rfl
@[simp] theorem Pkg.pbit_reloc (f : Fld) (i b : Nat) (v : Bool) : (s.pbit f i b v).reloc = s.reloc := rfl
@[simp] theorem Pkg.pbit_trn (f : Fld) (i b : Nat) (v : Bool) : (s.pbit f i b v).trn = s.trn := rfl
@[simp] theorem Pkg.pbit_slotA (f : Fld) (i b : Nat) (v : Bool) : (s.pbit f i b v).slotA = s.slotA := rfl
@[simp] theorem Pkg.pbit_slotB (f : Fld) (i b : Nat) (v : Bool) : (s.pbit f i b v).slotB = s.slotB := rfl
@[simp] theorem Pkg.pbit_notes (f : Fld) (i b : Nat) (v : Bool) : (s.pbit f i b v).notes = s.notes := rfl
@[simp] theorem Pkg.pbit_svc (f : Fld) (i b : Nat) (v : Bool) : (s.pbit f i b v).svc = s.svc := rfl
@[simp] theorem Pkg.pbit_tim (f : Fld) (i b : Nat) (v : Bool) : (s.pbit f i b v).tim = s.tim := rfl
@[simp] theorem Pkg.pbit_dbg (f : Fld) (i b : Nat) (v : Bool) : (s.pbit f i b v).dbg = s.dbg := rfl
@[simp] theorem Pkg.pbit_boot (f : Fld) (i b : Nat) (v : Bool) : (s.pbit f i b v).boot = s.boot := rfl
@[simp] theorem Pkg.pbit_host (f : Fld) (i b : Nat) (v : Bool) : (s.pbit f i b v).host = s.host := rfl

/-! ## `Pkg.psnap` -/

@[simp] theorem Pkg.psnap_part (f : Fld) (i v : Nat) : (s.psnap f i v).part = s.part := rfl
@[simp] theorem Pkg.psnap_fresh (f : Fld) (i v : Nat) : (s.psnap f i v).fresh = s.fresh := rfl
@[simp] theorem Pkg.psnap_flds (f : Fld) (i v : Nat) : (s.psnap f i v).flds = s.flds := rfl
@[simp] theorem Pkg.psnap_pendw (f : Fld) (i v : Nat) : (s.psnap f i v).pendw = s.pendw := rfl
@[simp] theorem Pkg.psnap_evts (f : Fld) (i v : Nat) : (s.psnap f i v).evts = s.evts := rfl
@[simp] theorem Pkg.psnap_evtLost (f : Fld) (i v : Nat) : (s.psnap f i v).evtLost = s.evtLost := rfl
@[simp] theorem Pkg.psnap_insts (f : Fld) (i v : Nat) : (s.psnap f i v).insts = s.insts := rfl
@[simp] theorem Pkg.psnap_fab (f : Fld) (i v : Nat) : (s.psnap f i v).fab = s.fab := rfl
@[simp] theorem Pkg.psnap_cav (f : Fld) (i v : Nat) : (s.psnap f i v).cav = s.cav := rfl
@[simp] theorem Pkg.psnap_que (f : Fld) (i v : Nat) : (s.psnap f i v).que = s.que := rfl
@[simp] theorem Pkg.psnap_pins (f : Fld) (i v : Nat) : (s.psnap f i v).pins = s.pins := rfl
@[simp] theorem Pkg.psnap_trc (f : Fld) (i v : Nat) : (s.psnap f i v).trc = s.trc := rfl
@[simp] theorem Pkg.psnap_lanes (f : Fld) (i v : Nat) : (s.psnap f i v).lanes = s.lanes := rfl
@[simp] theorem Pkg.psnap_ports (f : Fld) (i v : Nat) : (s.psnap f i v).ports = s.ports := rfl
@[simp] theorem Pkg.psnap_cas (f : Fld) (i v : Nat) : (s.psnap f i v).cas = s.cas := rfl
@[simp] theorem Pkg.psnap_mbx (f : Fld) (i v : Nat) : (s.psnap f i v).mbx = s.mbx := rfl
@[simp] theorem Pkg.psnap_jobs (f : Fld) (i v : Nat) : (s.psnap f i v).jobs = s.jobs := rfl
@[simp] theorem Pkg.psnap_sends (f : Fld) (i v : Nat) : (s.psnap f i v).sends = s.sends := rfl
@[simp] theorem Pkg.psnap_recvs (f : Fld) (i v : Nat) : (s.psnap f i v).recvs = s.recvs := rfl
@[simp] theorem Pkg.psnap_sram (f : Fld) (i v : Nat) : (s.psnap f i v).sram = s.sram := rfl
@[simp] theorem Pkg.psnap_irq (f : Fld) (i v : Nat) : (s.psnap f i v).irq = s.irq := rfl
@[simp] theorem Pkg.psnap_sch (f : Fld) (i v : Nat) : (s.psnap f i v).sch = s.sch := rfl
@[simp] theorem Pkg.psnap_load (f : Fld) (i v : Nat) : (s.psnap f i v).load = s.load := rfl
@[simp] theorem Pkg.psnap_reloc (f : Fld) (i v : Nat) : (s.psnap f i v).reloc = s.reloc := rfl
@[simp] theorem Pkg.psnap_trn (f : Fld) (i v : Nat) : (s.psnap f i v).trn = s.trn := rfl
@[simp] theorem Pkg.psnap_slotA (f : Fld) (i v : Nat) : (s.psnap f i v).slotA = s.slotA := rfl
@[simp] theorem Pkg.psnap_slotB (f : Fld) (i v : Nat) : (s.psnap f i v).slotB = s.slotB := rfl
@[simp] theorem Pkg.psnap_notes (f : Fld) (i v : Nat) : (s.psnap f i v).notes = s.notes := rfl
@[simp] theorem Pkg.psnap_svc (f : Fld) (i v : Nat) : (s.psnap f i v).svc = s.svc := rfl
@[simp] theorem Pkg.psnap_tim (f : Fld) (i v : Nat) : (s.psnap f i v).tim = s.tim := rfl
@[simp] theorem Pkg.psnap_dbg (f : Fld) (i v : Nat) : (s.psnap f i v).dbg = s.dbg := rfl
@[simp] theorem Pkg.psnap_boot (f : Fld) (i v : Nat) : (s.psnap f i v).boot = s.boot := rfl
@[simp] theorem Pkg.psnap_host (f : Fld) (i v : Nat) : (s.psnap f i v).host = s.host := rfl

/-! ## `Pkg.snapFields` -/

@[simp] theorem Pkg.snapFields_part (l : List Fld) (i : Nat) : (s.snapFields l i).part = s.part := rfl
@[simp] theorem Pkg.snapFields_fresh (l : List Fld) (i : Nat) : (s.snapFields l i).fresh = s.fresh := rfl
@[simp] theorem Pkg.snapFields_flds (l : List Fld) (i : Nat) : (s.snapFields l i).flds = s.flds := rfl
@[simp] theorem Pkg.snapFields_pendw (l : List Fld) (i : Nat) : (s.snapFields l i).pendw = s.pendw := rfl
@[simp] theorem Pkg.snapFields_evts (l : List Fld) (i : Nat) : (s.snapFields l i).evts = s.evts := rfl
@[simp] theorem Pkg.snapFields_evtLost (l : List Fld) (i : Nat) : (s.snapFields l i).evtLost = s.evtLost := rfl
@[simp] theorem Pkg.snapFields_insts (l : List Fld) (i : Nat) : (s.snapFields l i).insts = s.insts := rfl
@[simp] theorem Pkg.snapFields_fab (l : List Fld) (i : Nat) : (s.snapFields l i).fab = s.fab := rfl
@[simp] theorem Pkg.snapFields_cav (l : List Fld) (i : Nat) : (s.snapFields l i).cav = s.cav := rfl
@[simp] theorem Pkg.snapFields_que (l : List Fld) (i : Nat) : (s.snapFields l i).que = s.que := rfl
@[simp] theorem Pkg.snapFields_pins (l : List Fld) (i : Nat) : (s.snapFields l i).pins = s.pins := rfl
@[simp] theorem Pkg.snapFields_trc (l : List Fld) (i : Nat) : (s.snapFields l i).trc = s.trc := rfl
@[simp] theorem Pkg.snapFields_lanes (l : List Fld) (i : Nat) : (s.snapFields l i).lanes = s.lanes := rfl
@[simp] theorem Pkg.snapFields_ports (l : List Fld) (i : Nat) : (s.snapFields l i).ports = s.ports := rfl
@[simp] theorem Pkg.snapFields_cas (l : List Fld) (i : Nat) : (s.snapFields l i).cas = s.cas := rfl
@[simp] theorem Pkg.snapFields_mbx (l : List Fld) (i : Nat) : (s.snapFields l i).mbx = s.mbx := rfl
@[simp] theorem Pkg.snapFields_jobs (l : List Fld) (i : Nat) : (s.snapFields l i).jobs = s.jobs := rfl
@[simp] theorem Pkg.snapFields_sends (l : List Fld) (i : Nat) : (s.snapFields l i).sends = s.sends := rfl
@[simp] theorem Pkg.snapFields_recvs (l : List Fld) (i : Nat) : (s.snapFields l i).recvs = s.recvs := rfl
@[simp] theorem Pkg.snapFields_sram (l : List Fld) (i : Nat) : (s.snapFields l i).sram = s.sram := rfl
@[simp] theorem Pkg.snapFields_irq (l : List Fld) (i : Nat) : (s.snapFields l i).irq = s.irq := rfl
@[simp] theorem Pkg.snapFields_sch (l : List Fld) (i : Nat) : (s.snapFields l i).sch = s.sch := rfl
@[simp] theorem Pkg.snapFields_load (l : List Fld) (i : Nat) : (s.snapFields l i).load = s.load := rfl
@[simp] theorem Pkg.snapFields_reloc (l : List Fld) (i : Nat) : (s.snapFields l i).reloc = s.reloc := rfl
@[simp] theorem Pkg.snapFields_trn (l : List Fld) (i : Nat) : (s.snapFields l i).trn = s.trn := rfl
@[simp] theorem Pkg.snapFields_slotA (l : List Fld) (i : Nat) : (s.snapFields l i).slotA = s.slotA := rfl
@[simp] theorem Pkg.snapFields_slotB (l : List Fld) (i : Nat) : (s.snapFields l i).slotB = s.slotB := rfl
@[simp] theorem Pkg.snapFields_notes (l : List Fld) (i : Nat) : (s.snapFields l i).notes = s.notes := rfl
@[simp] theorem Pkg.snapFields_svc (l : List Fld) (i : Nat) : (s.snapFields l i).svc = s.svc := rfl
@[simp] theorem Pkg.snapFields_tim (l : List Fld) (i : Nat) : (s.snapFields l i).tim = s.tim := rfl
@[simp] theorem Pkg.snapFields_dbg (l : List Fld) (i : Nat) : (s.snapFields l i).dbg = s.dbg := rfl
@[simp] theorem Pkg.snapFields_boot (l : List Fld) (i : Nat) : (s.snapFields l i).boot = s.boot := rfl
@[simp] theorem Pkg.snapFields_host (l : List Fld) (i : Nat) : (s.snapFields l i).host = s.host := rfl

/-! ## `Pkg.setInst` -/

@[simp] theorem Pkg.setInst_part (i : Nat) (x : Inst) : (s.setInst i x).part = s.part := rfl
@[simp] theorem Pkg.setInst_fresh (i : Nat) (x : Inst) : (s.setInst i x).fresh = s.fresh := rfl
@[simp] theorem Pkg.setInst_flds (i : Nat) (x : Inst) : (s.setInst i x).flds = s.flds := rfl
@[simp] theorem Pkg.setInst_snaps (i : Nat) (x : Inst) : (s.setInst i x).snaps = s.snaps := rfl
@[simp] theorem Pkg.setInst_pendw (i : Nat) (x : Inst) : (s.setInst i x).pendw = s.pendw := rfl
@[simp] theorem Pkg.setInst_evts (i : Nat) (x : Inst) : (s.setInst i x).evts = s.evts := rfl
@[simp] theorem Pkg.setInst_evtLost (i : Nat) (x : Inst) : (s.setInst i x).evtLost = s.evtLost := rfl
@[simp] theorem Pkg.setInst_fab (i : Nat) (x : Inst) : (s.setInst i x).fab = s.fab := rfl
@[simp] theorem Pkg.setInst_cav (i : Nat) (x : Inst) : (s.setInst i x).cav = s.cav := rfl
@[simp] theorem Pkg.setInst_que (i : Nat) (x : Inst) : (s.setInst i x).que = s.que := rfl
@[simp] theorem Pkg.setInst_pins (i : Nat) (x : Inst) : (s.setInst i x).pins = s.pins := rfl
@[simp] theorem Pkg.setInst_trc (i : Nat) (x : Inst) : (s.setInst i x).trc = s.trc := rfl
@[simp] theorem Pkg.setInst_lanes (i : Nat) (x : Inst) : (s.setInst i x).lanes = s.lanes := rfl
@[simp] theorem Pkg.setInst_ports (i : Nat) (x : Inst) : (s.setInst i x).ports = s.ports := rfl
@[simp] theorem Pkg.setInst_cas (i : Nat) (x : Inst) : (s.setInst i x).cas = s.cas := rfl
@[simp] theorem Pkg.setInst_mbx (i : Nat) (x : Inst) : (s.setInst i x).mbx = s.mbx := rfl
@[simp] theorem Pkg.setInst_jobs (i : Nat) (x : Inst) : (s.setInst i x).jobs = s.jobs := rfl
@[simp] theorem Pkg.setInst_sends (i : Nat) (x : Inst) : (s.setInst i x).sends = s.sends := rfl
@[simp] theorem Pkg.setInst_recvs (i : Nat) (x : Inst) : (s.setInst i x).recvs = s.recvs := rfl
@[simp] theorem Pkg.setInst_sram (i : Nat) (x : Inst) : (s.setInst i x).sram = s.sram := rfl
@[simp] theorem Pkg.setInst_irq (i : Nat) (x : Inst) : (s.setInst i x).irq = s.irq := rfl
@[simp] theorem Pkg.setInst_sch (i : Nat) (x : Inst) : (s.setInst i x).sch = s.sch := rfl
@[simp] theorem Pkg.setInst_load (i : Nat) (x : Inst) : (s.setInst i x).load = s.load := rfl
@[simp] theorem Pkg.setInst_reloc (i : Nat) (x : Inst) : (s.setInst i x).reloc = s.reloc := rfl
@[simp] theorem Pkg.setInst_trn (i : Nat) (x : Inst) : (s.setInst i x).trn = s.trn := rfl
@[simp] theorem Pkg.setInst_slotA (i : Nat) (x : Inst) : (s.setInst i x).slotA = s.slotA := rfl
@[simp] theorem Pkg.setInst_slotB (i : Nat) (x : Inst) : (s.setInst i x).slotB = s.slotB := rfl
@[simp] theorem Pkg.setInst_notes (i : Nat) (x : Inst) : (s.setInst i x).notes = s.notes := rfl
@[simp] theorem Pkg.setInst_svc (i : Nat) (x : Inst) : (s.setInst i x).svc = s.svc := rfl
@[simp] theorem Pkg.setInst_tim (i : Nat) (x : Inst) : (s.setInst i x).tim = s.tim := rfl
@[simp] theorem Pkg.setInst_dbg (i : Nat) (x : Inst) : (s.setInst i x).dbg = s.dbg := rfl
@[simp] theorem Pkg.setInst_boot (i : Nat) (x : Inst) : (s.setInst i x).boot = s.boot := rfl
@[simp] theorem Pkg.setInst_host (i : Nat) (x : Inst) : (s.setInst i x).host = s.host := rfl

/-! ## `Pkg.updInst` -/

@[simp] theorem Pkg.updInst_part (i : Nat) (f : Inst → Inst) : (s.updInst i f).part = s.part := rfl
@[simp] theorem Pkg.updInst_fresh (i : Nat) (f : Inst → Inst) : (s.updInst i f).fresh = s.fresh := rfl
@[simp] theorem Pkg.updInst_flds (i : Nat) (f : Inst → Inst) : (s.updInst i f).flds = s.flds := rfl
@[simp] theorem Pkg.updInst_snaps (i : Nat) (f : Inst → Inst) : (s.updInst i f).snaps = s.snaps := rfl
@[simp] theorem Pkg.updInst_pendw (i : Nat) (f : Inst → Inst) : (s.updInst i f).pendw = s.pendw := rfl
@[simp] theorem Pkg.updInst_evts (i : Nat) (f : Inst → Inst) : (s.updInst i f).evts = s.evts := rfl
@[simp] theorem Pkg.updInst_evtLost (i : Nat) (f : Inst → Inst) : (s.updInst i f).evtLost = s.evtLost := rfl
@[simp] theorem Pkg.updInst_fab (i : Nat) (f : Inst → Inst) : (s.updInst i f).fab = s.fab := rfl
@[simp] theorem Pkg.updInst_cav (i : Nat) (f : Inst → Inst) : (s.updInst i f).cav = s.cav := rfl
@[simp] theorem Pkg.updInst_que (i : Nat) (f : Inst → Inst) : (s.updInst i f).que = s.que := rfl
@[simp] theorem Pkg.updInst_pins (i : Nat) (f : Inst → Inst) : (s.updInst i f).pins = s.pins := rfl
@[simp] theorem Pkg.updInst_trc (i : Nat) (f : Inst → Inst) : (s.updInst i f).trc = s.trc := rfl
@[simp] theorem Pkg.updInst_lanes (i : Nat) (f : Inst → Inst) : (s.updInst i f).lanes = s.lanes := rfl
@[simp] theorem Pkg.updInst_ports (i : Nat) (f : Inst → Inst) : (s.updInst i f).ports = s.ports := rfl
@[simp] theorem Pkg.updInst_cas (i : Nat) (f : Inst → Inst) : (s.updInst i f).cas = s.cas := rfl
@[simp] theorem Pkg.updInst_mbx (i : Nat) (f : Inst → Inst) : (s.updInst i f).mbx = s.mbx := rfl
@[simp] theorem Pkg.updInst_jobs (i : Nat) (f : Inst → Inst) : (s.updInst i f).jobs = s.jobs := rfl
@[simp] theorem Pkg.updInst_sends (i : Nat) (f : Inst → Inst) : (s.updInst i f).sends = s.sends := rfl
@[simp] theorem Pkg.updInst_recvs (i : Nat) (f : Inst → Inst) : (s.updInst i f).recvs = s.recvs := rfl
@[simp] theorem Pkg.updInst_sram (i : Nat) (f : Inst → Inst) : (s.updInst i f).sram = s.sram := rfl
@[simp] theorem Pkg.updInst_irq (i : Nat) (f : Inst → Inst) : (s.updInst i f).irq = s.irq := rfl
@[simp] theorem Pkg.updInst_sch (i : Nat) (f : Inst → Inst) : (s.updInst i f).sch = s.sch := rfl
@[simp] theorem Pkg.updInst_load (i : Nat) (f : Inst → Inst) : (s.updInst i f).load = s.load := rfl
@[simp] theorem Pkg.updInst_reloc (i : Nat) (f : Inst → Inst) : (s.updInst i f).reloc = s.reloc := rfl
@[simp] theorem Pkg.updInst_trn (i : Nat) (f : Inst → Inst) : (s.updInst i f).trn = s.trn := rfl
@[simp] theorem Pkg.updInst_slotA (i : Nat) (f : Inst → Inst) : (s.updInst i f).slotA = s.slotA := rfl
@[simp] theorem Pkg.updInst_slotB (i : Nat) (f : Inst → Inst) : (s.updInst i f).slotB = s.slotB := rfl
@[simp] theorem Pkg.updInst_notes (i : Nat) (f : Inst → Inst) : (s.updInst i f).notes = s.notes := rfl
@[simp] theorem Pkg.updInst_svc (i : Nat) (f : Inst → Inst) : (s.updInst i f).svc = s.svc := rfl
@[simp] theorem Pkg.updInst_tim (i : Nat) (f : Inst → Inst) : (s.updInst i f).tim = s.tim := rfl
@[simp] theorem Pkg.updInst_dbg (i : Nat) (f : Inst → Inst) : (s.updInst i f).dbg = s.dbg := rfl
@[simp] theorem Pkg.updInst_boot (i : Nat) (f : Inst → Inst) : (s.updInst i f).boot = s.boot := rfl
@[simp] theorem Pkg.updInst_host (i : Nat) (f : Inst → Inst) : (s.updInst i f).host = s.host := rfl

/-! ## `Pkg.setPort` -/

@[simp] theorem Pkg.setPort_part (q : Nat) (x : LPort) : (s.setPort q x).part = s.part := rfl
@[simp] theorem Pkg.setPort_fresh (q : Nat) (x : LPort) : (s.setPort q x).fresh = s.fresh := rfl
@[simp] theorem Pkg.setPort_flds (q : Nat) (x : LPort) : (s.setPort q x).flds = s.flds := rfl
@[simp] theorem Pkg.setPort_snaps (q : Nat) (x : LPort) : (s.setPort q x).snaps = s.snaps := rfl
@[simp] theorem Pkg.setPort_pendw (q : Nat) (x : LPort) : (s.setPort q x).pendw = s.pendw := rfl
@[simp] theorem Pkg.setPort_evts (q : Nat) (x : LPort) : (s.setPort q x).evts = s.evts := rfl
@[simp] theorem Pkg.setPort_evtLost (q : Nat) (x : LPort) : (s.setPort q x).evtLost = s.evtLost := rfl
@[simp] theorem Pkg.setPort_insts (q : Nat) (x : LPort) : (s.setPort q x).insts = s.insts := rfl
@[simp] theorem Pkg.setPort_fab (q : Nat) (x : LPort) : (s.setPort q x).fab = s.fab := rfl
@[simp] theorem Pkg.setPort_cav (q : Nat) (x : LPort) : (s.setPort q x).cav = s.cav := rfl
@[simp] theorem Pkg.setPort_que (q : Nat) (x : LPort) : (s.setPort q x).que = s.que := rfl
@[simp] theorem Pkg.setPort_pins (q : Nat) (x : LPort) : (s.setPort q x).pins = s.pins := rfl
@[simp] theorem Pkg.setPort_trc (q : Nat) (x : LPort) : (s.setPort q x).trc = s.trc := rfl
@[simp] theorem Pkg.setPort_lanes (q : Nat) (x : LPort) : (s.setPort q x).lanes = s.lanes := rfl
@[simp] theorem Pkg.setPort_cas (q : Nat) (x : LPort) : (s.setPort q x).cas = s.cas := rfl
@[simp] theorem Pkg.setPort_mbx (q : Nat) (x : LPort) : (s.setPort q x).mbx = s.mbx := rfl
@[simp] theorem Pkg.setPort_jobs (q : Nat) (x : LPort) : (s.setPort q x).jobs = s.jobs := rfl
@[simp] theorem Pkg.setPort_sends (q : Nat) (x : LPort) : (s.setPort q x).sends = s.sends := rfl
@[simp] theorem Pkg.setPort_recvs (q : Nat) (x : LPort) : (s.setPort q x).recvs = s.recvs := rfl
@[simp] theorem Pkg.setPort_sram (q : Nat) (x : LPort) : (s.setPort q x).sram = s.sram := rfl
@[simp] theorem Pkg.setPort_irq (q : Nat) (x : LPort) : (s.setPort q x).irq = s.irq := rfl
@[simp] theorem Pkg.setPort_sch (q : Nat) (x : LPort) : (s.setPort q x).sch = s.sch := rfl
@[simp] theorem Pkg.setPort_load (q : Nat) (x : LPort) : (s.setPort q x).load = s.load := rfl
@[simp] theorem Pkg.setPort_reloc (q : Nat) (x : LPort) : (s.setPort q x).reloc = s.reloc := rfl
@[simp] theorem Pkg.setPort_trn (q : Nat) (x : LPort) : (s.setPort q x).trn = s.trn := rfl
@[simp] theorem Pkg.setPort_slotA (q : Nat) (x : LPort) : (s.setPort q x).slotA = s.slotA := rfl
@[simp] theorem Pkg.setPort_slotB (q : Nat) (x : LPort) : (s.setPort q x).slotB = s.slotB := rfl
@[simp] theorem Pkg.setPort_notes (q : Nat) (x : LPort) : (s.setPort q x).notes = s.notes := rfl
@[simp] theorem Pkg.setPort_svc (q : Nat) (x : LPort) : (s.setPort q x).svc = s.svc := rfl
@[simp] theorem Pkg.setPort_tim (q : Nat) (x : LPort) : (s.setPort q x).tim = s.tim := rfl
@[simp] theorem Pkg.setPort_dbg (q : Nat) (x : LPort) : (s.setPort q x).dbg = s.dbg := rfl
@[simp] theorem Pkg.setPort_boot (q : Nat) (x : LPort) : (s.setPort q x).boot = s.boot := rfl
@[simp] theorem Pkg.setPort_host (q : Nat) (x : LPort) : (s.setPort q x).host = s.host := rfl

/-! ## `Pkg.updPort` -/

@[simp] theorem Pkg.updPort_part (q : Nat) (f : LPort → LPort) : (s.updPort q f).part = s.part := rfl
@[simp] theorem Pkg.updPort_fresh (q : Nat) (f : LPort → LPort) : (s.updPort q f).fresh = s.fresh := rfl
@[simp] theorem Pkg.updPort_flds (q : Nat) (f : LPort → LPort) : (s.updPort q f).flds = s.flds := rfl
@[simp] theorem Pkg.updPort_snaps (q : Nat) (f : LPort → LPort) : (s.updPort q f).snaps = s.snaps := rfl
@[simp] theorem Pkg.updPort_pendw (q : Nat) (f : LPort → LPort) : (s.updPort q f).pendw = s.pendw := rfl
@[simp] theorem Pkg.updPort_evts (q : Nat) (f : LPort → LPort) : (s.updPort q f).evts = s.evts := rfl
@[simp] theorem Pkg.updPort_evtLost (q : Nat) (f : LPort → LPort) : (s.updPort q f).evtLost = s.evtLost := rfl
@[simp] theorem Pkg.updPort_insts (q : Nat) (f : LPort → LPort) : (s.updPort q f).insts = s.insts := rfl
@[simp] theorem Pkg.updPort_fab (q : Nat) (f : LPort → LPort) : (s.updPort q f).fab = s.fab := rfl
@[simp] theorem Pkg.updPort_cav (q : Nat) (f : LPort → LPort) : (s.updPort q f).cav = s.cav := rfl
@[simp] theorem Pkg.updPort_que (q : Nat) (f : LPort → LPort) : (s.updPort q f).que = s.que := rfl
@[simp] theorem Pkg.updPort_pins (q : Nat) (f : LPort → LPort) : (s.updPort q f).pins = s.pins := rfl
@[simp] theorem Pkg.updPort_trc (q : Nat) (f : LPort → LPort) : (s.updPort q f).trc = s.trc := rfl
@[simp] theorem Pkg.updPort_lanes (q : Nat) (f : LPort → LPort) : (s.updPort q f).lanes = s.lanes := rfl
@[simp] theorem Pkg.updPort_cas (q : Nat) (f : LPort → LPort) : (s.updPort q f).cas = s.cas := rfl
@[simp] theorem Pkg.updPort_mbx (q : Nat) (f : LPort → LPort) : (s.updPort q f).mbx = s.mbx := rfl
@[simp] theorem Pkg.updPort_jobs (q : Nat) (f : LPort → LPort) : (s.updPort q f).jobs = s.jobs := rfl
@[simp] theorem Pkg.updPort_sends (q : Nat) (f : LPort → LPort) : (s.updPort q f).sends = s.sends := rfl
@[simp] theorem Pkg.updPort_recvs (q : Nat) (f : LPort → LPort) : (s.updPort q f).recvs = s.recvs := rfl
@[simp] theorem Pkg.updPort_sram (q : Nat) (f : LPort → LPort) : (s.updPort q f).sram = s.sram := rfl
@[simp] theorem Pkg.updPort_irq (q : Nat) (f : LPort → LPort) : (s.updPort q f).irq = s.irq := rfl
@[simp] theorem Pkg.updPort_sch (q : Nat) (f : LPort → LPort) : (s.updPort q f).sch = s.sch := rfl
@[simp] theorem Pkg.updPort_load (q : Nat) (f : LPort → LPort) : (s.updPort q f).load = s.load := rfl
@[simp] theorem Pkg.updPort_reloc (q : Nat) (f : LPort → LPort) : (s.updPort q f).reloc = s.reloc := rfl
@[simp] theorem Pkg.updPort_trn (q : Nat) (f : LPort → LPort) : (s.updPort q f).trn = s.trn := rfl
@[simp] theorem Pkg.updPort_slotA (q : Nat) (f : LPort → LPort) : (s.updPort q f).slotA = s.slotA := rfl
@[simp] theorem Pkg.updPort_slotB (q : Nat) (f : LPort → LPort) : (s.updPort q f).slotB = s.slotB := rfl
@[simp] theorem Pkg.updPort_notes (q : Nat) (f : LPort → LPort) : (s.updPort q f).notes = s.notes := rfl
@[simp] theorem Pkg.updPort_svc (q : Nat) (f : LPort → LPort) : (s.updPort q f).svc = s.svc := rfl
@[simp] theorem Pkg.updPort_tim (q : Nat) (f : LPort → LPort) : (s.updPort q f).tim = s.tim := rfl
@[simp] theorem Pkg.updPort_dbg (q : Nat) (f : LPort → LPort) : (s.updPort q f).dbg = s.dbg := rfl
@[simp] theorem Pkg.updPort_boot (q : Nat) (f : LPort → LPort) : (s.updPort q f).boot = s.boot := rfl
@[simp] theorem Pkg.updPort_host (q : Nat) (f : LPort → LPort) : (s.updPort q f).host = s.host := rfl

/-! ## `Pkg.notify` -/

@[simp] theorem Pkg.notify_part (d : Nat) (n : Note) (a : Nat) : (s.notify d n a).part = s.part := rfl
@[simp] theorem Pkg.notify_fresh (d : Nat) (n : Note) (a : Nat) : (s.notify d n a).fresh = s.fresh := rfl
@[simp] theorem Pkg.notify_flds (d : Nat) (n : Note) (a : Nat) : (s.notify d n a).flds = s.flds := rfl
@[simp] theorem Pkg.notify_snaps (d : Nat) (n : Note) (a : Nat) : (s.notify d n a).snaps = s.snaps := rfl
@[simp] theorem Pkg.notify_pendw (d : Nat) (n : Note) (a : Nat) : (s.notify d n a).pendw = s.pendw := rfl
@[simp] theorem Pkg.notify_evts (d : Nat) (n : Note) (a : Nat) : (s.notify d n a).evts = s.evts := rfl
@[simp] theorem Pkg.notify_evtLost (d : Nat) (n : Note) (a : Nat) : (s.notify d n a).evtLost = s.evtLost := rfl
@[simp] theorem Pkg.notify_insts (d : Nat) (n : Note) (a : Nat) : (s.notify d n a).insts = s.insts := rfl
@[simp] theorem Pkg.notify_fab (d : Nat) (n : Note) (a : Nat) : (s.notify d n a).fab = s.fab := rfl
@[simp] theorem Pkg.notify_cav (d : Nat) (n : Note) (a : Nat) : (s.notify d n a).cav = s.cav := rfl
@[simp] theorem Pkg.notify_que (d : Nat) (n : Note) (a : Nat) : (s.notify d n a).que = s.que := rfl
@[simp] theorem Pkg.notify_pins (d : Nat) (n : Note) (a : Nat) : (s.notify d n a).pins = s.pins := rfl
@[simp] theorem Pkg.notify_trc (d : Nat) (n : Note) (a : Nat) : (s.notify d n a).trc = s.trc := rfl
@[simp] theorem Pkg.notify_lanes (d : Nat) (n : Note) (a : Nat) : (s.notify d n a).lanes = s.lanes := rfl
@[simp] theorem Pkg.notify_ports (d : Nat) (n : Note) (a : Nat) : (s.notify d n a).ports = s.ports := rfl
@[simp] theorem Pkg.notify_cas (d : Nat) (n : Note) (a : Nat) : (s.notify d n a).cas = s.cas := rfl
@[simp] theorem Pkg.notify_mbx (d : Nat) (n : Note) (a : Nat) : (s.notify d n a).mbx = s.mbx := rfl
@[simp] theorem Pkg.notify_jobs (d : Nat) (n : Note) (a : Nat) : (s.notify d n a).jobs = s.jobs := rfl
@[simp] theorem Pkg.notify_sends (d : Nat) (n : Note) (a : Nat) : (s.notify d n a).sends = s.sends := rfl
@[simp] theorem Pkg.notify_recvs (d : Nat) (n : Note) (a : Nat) : (s.notify d n a).recvs = s.recvs := rfl
@[simp] theorem Pkg.notify_sram (d : Nat) (n : Note) (a : Nat) : (s.notify d n a).sram = s.sram := rfl
@[simp] theorem Pkg.notify_irq (d : Nat) (n : Note) (a : Nat) : (s.notify d n a).irq = s.irq := rfl
@[simp] theorem Pkg.notify_sch (d : Nat) (n : Note) (a : Nat) : (s.notify d n a).sch = s.sch := rfl
@[simp] theorem Pkg.notify_load (d : Nat) (n : Note) (a : Nat) : (s.notify d n a).load = s.load := rfl
@[simp] theorem Pkg.notify_reloc (d : Nat) (n : Note) (a : Nat) : (s.notify d n a).reloc = s.reloc := rfl
@[simp] theorem Pkg.notify_trn (d : Nat) (n : Note) (a : Nat) : (s.notify d n a).trn = s.trn := rfl
@[simp] theorem Pkg.notify_slotA (d : Nat) (n : Note) (a : Nat) : (s.notify d n a).slotA = s.slotA := rfl
@[simp] theorem Pkg.notify_slotB (d : Nat) (n : Note) (a : Nat) : (s.notify d n a).slotB = s.slotB := rfl
@[simp] theorem Pkg.notify_svc (d : Nat) (n : Note) (a : Nat) : (s.notify d n a).svc = s.svc := rfl
@[simp] theorem Pkg.notify_tim (d : Nat) (n : Note) (a : Nat) : (s.notify d n a).tim = s.tim := rfl
@[simp] theorem Pkg.notify_dbg (d : Nat) (n : Note) (a : Nat) : (s.notify d n a).dbg = s.dbg := rfl
@[simp] theorem Pkg.notify_boot (d : Nat) (n : Note) (a : Nat) : (s.notify d n a).boot = s.boot := rfl
@[simp] theorem Pkg.notify_host (d : Nat) (n : Note) (a : Nat) : (s.notify d n a).host = s.host := rfl

/-! ## `Pkg.ps` and `Pkg.draw` -/

theorem Pkg.ps_frame (l : List (Fld × Nat × Nat)) : s.ps l = { s with flds := (s.ps l).flds } := by
  induction l generalizing s with
  | nil => rfl
  | cons e l ih => exact ih (s.p e.1 e.2.1 e.2.2)
@[simp] theorem Pkg.ps_part (l : List (Fld × Nat × Nat)) : (s.ps l).part = s.part := by rw [Pkg.ps_frame]
@[simp] theorem Pkg.ps_fresh (l : List (Fld × Nat × Nat)) : (s.ps l).fresh = s.fresh := by rw [Pkg.ps_frame]
@[simp] theorem Pkg.ps_snaps (l : List (Fld × Nat × Nat)) : (s.ps l).snaps = s.snaps := by rw [Pkg.ps_frame]
@[simp] theorem Pkg.ps_pendw (l : List (Fld × Nat × Nat)) : (s.ps l).pendw = s.pendw := by rw [Pkg.ps_frame]
@[simp] theorem Pkg.ps_evts (l : List (Fld × Nat × Nat)) : (s.ps l).evts = s.evts := by rw [Pkg.ps_frame]
@[simp] theorem Pkg.ps_evtLost (l : List (Fld × Nat × Nat)) : (s.ps l).evtLost = s.evtLost := by rw [Pkg.ps_frame]
@[simp] theorem Pkg.ps_insts (l : List (Fld × Nat × Nat)) : (s.ps l).insts = s.insts := by rw [Pkg.ps_frame]
@[simp] theorem Pkg.ps_fab (l : List (Fld × Nat × Nat)) : (s.ps l).fab = s.fab := by rw [Pkg.ps_frame]
@[simp] theorem Pkg.ps_cav (l : List (Fld × Nat × Nat)) : (s.ps l).cav = s.cav := by rw [Pkg.ps_frame]
@[simp] theorem Pkg.ps_que (l : List (Fld × Nat × Nat)) : (s.ps l).que = s.que := by rw [Pkg.ps_frame]
@[simp] theorem Pkg.ps_pins (l : List (Fld × Nat × Nat)) : (s.ps l).pins = s.pins := by rw [Pkg.ps_frame]
@[simp] theorem Pkg.ps_trc (l : List (Fld × Nat × Nat)) : (s.ps l).trc = s.trc := by rw [Pkg.ps_frame]
@[simp] theorem Pkg.ps_lanes (l : List (Fld × Nat × Nat)) : (s.ps l).lanes = s.lanes := by rw [Pkg.ps_frame]
@[simp] theorem Pkg.ps_ports (l : List (Fld × Nat × Nat)) : (s.ps l).ports = s.ports := by rw [Pkg.ps_frame]
@[simp] theorem Pkg.ps_cas (l : List (Fld × Nat × Nat)) : (s.ps l).cas = s.cas := by rw [Pkg.ps_frame]
@[simp] theorem Pkg.ps_mbx (l : List (Fld × Nat × Nat)) : (s.ps l).mbx = s.mbx := by rw [Pkg.ps_frame]
@[simp] theorem Pkg.ps_jobs (l : List (Fld × Nat × Nat)) : (s.ps l).jobs = s.jobs := by rw [Pkg.ps_frame]
@[simp] theorem Pkg.ps_sends (l : List (Fld × Nat × Nat)) : (s.ps l).sends = s.sends := by rw [Pkg.ps_frame]
@[simp] theorem Pkg.ps_recvs (l : List (Fld × Nat × Nat)) : (s.ps l).recvs = s.recvs := by rw [Pkg.ps_frame]
@[simp] theorem Pkg.ps_sram (l : List (Fld × Nat × Nat)) : (s.ps l).sram = s.sram := by rw [Pkg.ps_frame]
@[simp] theorem Pkg.ps_irq (l : List (Fld × Nat × Nat)) : (s.ps l).irq = s.irq := by rw [Pkg.ps_frame]
@[simp] theorem Pkg.ps_sch (l : List (Fld × Nat × Nat)) : (s.ps l).sch = s.sch := by rw [Pkg.ps_frame]
@[simp] theorem Pkg.ps_load (l : List (Fld × Nat × Nat)) : (s.ps l).load = s.load := by rw [Pkg.ps_frame]
@[simp] theorem Pkg.ps_reloc (l : List (Fld × Nat × Nat)) : (s.ps l).reloc = s.reloc := by rw [Pkg.ps_frame]
@[simp] theorem Pkg.ps_trn (l : List (Fld × Nat × Nat)) : (s.ps l).trn = s.trn := by rw [Pkg.ps_frame]
@[simp] theorem Pkg.ps_slotA (l : List (Fld × Nat × Nat)) : (s.ps l).slotA = s.slotA := by rw [Pkg.ps_frame]
@[simp] theorem Pkg.ps_slotB (l : List (Fld × Nat × Nat)) : (s.ps l).slotB = s.slotB := by rw [Pkg.ps_frame]
@[simp] theorem Pkg.ps_notes (l : List (Fld × Nat × Nat)) : (s.ps l).notes = s.notes := by rw [Pkg.ps_frame]
@[simp] theorem Pkg.ps_svc (l : List (Fld × Nat × Nat)) : (s.ps l).svc = s.svc := by rw [Pkg.ps_frame]
@[simp] theorem Pkg.ps_tim (l : List (Fld × Nat × Nat)) : (s.ps l).tim = s.tim := by rw [Pkg.ps_frame]
@[simp] theorem Pkg.ps_dbg (l : List (Fld × Nat × Nat)) : (s.ps l).dbg = s.dbg := by rw [Pkg.ps_frame]
@[simp] theorem Pkg.ps_boot (l : List (Fld × Nat × Nat)) : (s.ps l).boot = s.boot := by rw [Pkg.ps_frame]
@[simp] theorem Pkg.ps_host (l : List (Fld × Nat × Nat)) : (s.ps l).host = s.host := by rw [Pkg.ps_frame]

@[simp] theorem Pkg.draw_part (w : Nat) : (s.draw w).2.part = s.part := rfl
@[simp] theorem Pkg.draw_flds (w : Nat) : (s.draw w).2.flds = s.flds := rfl
@[simp] theorem Pkg.draw_snaps (w : Nat) : (s.draw w).2.snaps = s.snaps := rfl
@[simp] theorem Pkg.draw_pendw (w : Nat) : (s.draw w).2.pendw = s.pendw := rfl
@[simp] theorem Pkg.draw_evts (w : Nat) : (s.draw w).2.evts = s.evts := rfl
@[simp] theorem Pkg.draw_evtLost (w : Nat) : (s.draw w).2.evtLost = s.evtLost := rfl
@[simp] theorem Pkg.draw_insts (w : Nat) : (s.draw w).2.insts = s.insts := rfl
@[simp] theorem Pkg.draw_fab (w : Nat) : (s.draw w).2.fab = s.fab := rfl
@[simp] theorem Pkg.draw_cav (w : Nat) : (s.draw w).2.cav = s.cav := rfl
@[simp] theorem Pkg.draw_que (w : Nat) : (s.draw w).2.que = s.que := rfl
@[simp] theorem Pkg.draw_pins (w : Nat) : (s.draw w).2.pins = s.pins := rfl
@[simp] theorem Pkg.draw_trc (w : Nat) : (s.draw w).2.trc = s.trc := rfl
@[simp] theorem Pkg.draw_lanes (w : Nat) : (s.draw w).2.lanes = s.lanes := rfl
@[simp] theorem Pkg.draw_ports (w : Nat) : (s.draw w).2.ports = s.ports := rfl
@[simp] theorem Pkg.draw_cas (w : Nat) : (s.draw w).2.cas = s.cas := rfl
@[simp] theorem Pkg.draw_mbx (w : Nat) : (s.draw w).2.mbx = s.mbx := rfl
@[simp] theorem Pkg.draw_jobs (w : Nat) : (s.draw w).2.jobs = s.jobs := rfl
@[simp] theorem Pkg.draw_sends (w : Nat) : (s.draw w).2.sends = s.sends := rfl
@[simp] theorem Pkg.draw_recvs (w : Nat) : (s.draw w).2.recvs = s.recvs := rfl
@[simp] theorem Pkg.draw_sram (w : Nat) : (s.draw w).2.sram = s.sram := rfl
@[simp] theorem Pkg.draw_irq (w : Nat) : (s.draw w).2.irq = s.irq := rfl
@[simp] theorem Pkg.draw_sch (w : Nat) : (s.draw w).2.sch = s.sch := rfl
@[simp] theorem Pkg.draw_load (w : Nat) : (s.draw w).2.load = s.load := rfl
@[simp] theorem Pkg.draw_reloc (w : Nat) : (s.draw w).2.reloc = s.reloc := rfl
@[simp] theorem Pkg.draw_trn (w : Nat) : (s.draw w).2.trn = s.trn := rfl
@[simp] theorem Pkg.draw_slotA (w : Nat) : (s.draw w).2.slotA = s.slotA := rfl
@[simp] theorem Pkg.draw_slotB (w : Nat) : (s.draw w).2.slotB = s.slotB := rfl
@[simp] theorem Pkg.draw_notes (w : Nat) : (s.draw w).2.notes = s.notes := rfl
@[simp] theorem Pkg.draw_svc (w : Nat) : (s.draw w).2.svc = s.svc := rfl
@[simp] theorem Pkg.draw_tim (w : Nat) : (s.draw w).2.tim = s.tim := rfl
@[simp] theorem Pkg.draw_dbg (w : Nat) : (s.draw w).2.dbg = s.dbg := rfl
@[simp] theorem Pkg.draw_boot (w : Nat) : (s.draw w).2.boot = s.boot := rfl
@[simp] theorem Pkg.draw_host (w : Nat) : (s.draw w).2.host = s.host := rfl
@[simp] theorem Pkg.draw_fresh (w : Nat) : (s.draw w).2.fresh = s.fresh + 1 := rfl
theorem Pkg.draw_lt (w : Nat) : (s.draw w).1 < 2 ^ w := Nat.mod_lt _ (by positivity)

/-! ## Register fields under the other updates -/

@[simp] theorem Pkg.psnap_g (f : Fld) (i v : Nat) (y : Fld) (k : Nat) : (s.psnap f i v).g y k = s.g y k := rfl
@[simp] theorem Pkg.snapFields_g (l : List Fld) (i : Nat) (y : Fld) (k : Nat) : (s.snapFields l i).g y k = s.g y k := rfl
@[simp] theorem Pkg.setInst_g (i : Nat) (x : Inst) (y : Fld) (k : Nat) : (s.setInst i x).g y k = s.g y k := rfl
@[simp] theorem Pkg.updInst_g (i : Nat) (f : Inst → Inst) (y : Fld) (k : Nat) : (s.updInst i f).g y k = s.g y k := rfl
@[simp] theorem Pkg.setPort_g (q : Nat) (x : LPort) (y : Fld) (k : Nat) : (s.setPort q x).g y k = s.g y k := rfl
@[simp] theorem Pkg.updPort_g (q : Nat) (f : LPort → LPort) (y : Fld) (k : Nat) : (s.updPort q f).g y k = s.g y k := rfl
@[simp] theorem Pkg.notify_g (d : Nat) (n : Note) (a : Nat) (y : Fld) (k : Nat) : (s.notify d n a).g y k = s.g y k := rfl
@[simp] theorem Pkg.draw_g (w : Nat) (x : Fld) (k : Nat) : (s.draw w).2.g x k = s.g x k := rfl

/-! ## What an instance or a port reads after its update -/

@[simp] theorem Pkg.inst_setInst_same (i : Nat) (x : Inst) : (s.setInst i x).inst i = x := Store.get_set_same _ _ _ _
theorem Pkg.inst_setInst_other (i k : Nat) (x : Inst) (h : k ≠ i) : (s.setInst i x).inst k = s.inst k := Store.get_set_other _ _ _ _ _ h
@[simp] theorem Pkg.inst_updInst_same (i : Nat) (f : Inst → Inst) : (s.updInst i f).inst i = f (s.inst i) := Store.get_set_same _ _ _ _
theorem Pkg.inst_updInst_other (i k : Nat) (f : Inst → Inst) (h : k ≠ i) : (s.updInst i f).inst k = s.inst k :=
  Store.get_set_other _ _ _ _ _ h
@[simp] theorem Pkg.inst_p (f : Fld) (i v k : Nat) : (s.p f i v).inst k = s.inst k := rfl
@[simp] theorem Pkg.port_setPort_same (q : Nat) (x : LPort) : (s.setPort q x).port q = x := Store.get_set_same _ _ _ _
theorem Pkg.port_setPort_other (q k : Nat) (x : LPort) (h : k ≠ q) : (s.setPort q x).port k = s.port k := Store.get_set_other _ _ _ _ _ h
@[simp] theorem Pkg.port_updPort_same (q : Nat) (f : LPort → LPort) : (s.updPort q f).port q = f (s.port q) := Store.get_set_same _ _ _ _
theorem Pkg.port_updPort_other (q k : Nat) (f : LPort → LPort) (h : k ≠ q) : (s.updPort q f).port k = s.port k :=
  Store.get_set_other _ _ _ _ _ h

end Sys2Proof.Machine
end

