-- ==== Sys2Proof/Laws/Memory.lean ====
section
/-!
SUPPORT. Byte memories: what a byte reads after a write, and that every memory operation keeps the canonical form.
-/
namespace Sys2Proof.Machine

variable (m : List Host.Cell)

/-! ## Reads after writes -/

/-- A byte reads what was written to it, and every other byte as before. -/
theorem readByte_writeByte (a x : Nat) (v : Byte) : readByte (writeByte m a v) x = if x = a then v else readByte m x :=
  Store.get_set 0 m a x v

/-- Bytes written from `a` read back in order, and nothing else changes. -/
theorem written_writeBytes (a : Nat) (l : List Byte) : written m (writeBytes m a l) a l := by
  induction l generalizing m a with
  | nil => intro x; simp [writeBytes]
  | cons v l ih =>
    intro x
    rw [writeBytes, ih (writeByte m a v) (a + 1) x, readByte_writeByte]
    by_cases h1 : a + 1 ≤ x ∧ x < a + 1 + l.length
    · have h2 : a ≤ x ∧ x < a + (v :: l).length := by simp only [List.length_cons]; omega
      rw [if_pos h1, if_pos h2, show x - a = (x - (a + 1)) + 1 by omega, List.getD_cons_succ]
    · rw [if_neg h1]
      by_cases h2 : x = a
      · subst h2; simp
      · have h3 : ¬(a ≤ x ∧ x < a + (v :: l).length) := by simp only [List.length_cons]; omega
        rw [if_neg h2, if_neg h3]

/-- A write leaves a byte outside its span as it was. -/
theorem readByte_writeBytes_outside (a x : Nat) (l : List Byte) (h : x < a ∨ a + l.length ≤ x) :
    readByte (writeBytes m a l) x = readByte m x := by
  rw [written_writeBytes m a l x, if_neg (by omega)]

/-- Writes under byte enables leave a byte outside their span as it was. -/
theorem readByte_writeSome_outside (a x : Nat) (l : List (Option Byte)) (h : x < a ∨ a + l.length ≤ x) :
    readByte (writeSome m a l) x = readByte m x := by
  induction l generalizing m a with
  | nil => rfl
  | cons v l ih =>
    simp only [List.length_cons] at h
    cases v with
    | none => exact ih m (a + 1) (by omega)
    | some v => rw [writeSome, ih _ (a + 1) (by omega), readByte_writeByte, if_neg (by omega)]

/-! ## The canonical form -/

theorem Memory.wf_writeByte (a : Nat) (v : Byte) (h : Memory.wf m = true) : Memory.wf (writeByte m a v) = true := Store.wf_set 0 m a v h

theorem Memory.wf_writeBytes (a : Nat) (l : List Byte) (h : Memory.wf m = true) : Memory.wf (writeBytes m a l) = true := by
  induction l generalizing m a with
  | nil => exact h
  | cons v l ih => exact ih _ _ (Memory.wf_writeByte m a v h)

theorem Memory.wf_writeSome (a : Nat) (l : List (Option Byte)) (h : Memory.wf m = true) : Memory.wf (writeSome m a l) = true := by
  induction l generalizing m a with
  | nil => exact h
  | cons v l ih =>
    cases v with
    | none => exact ih _ _ h
    | some v => exact ih _ _ (Memory.wf_writeByte m a v h)

/-- Bytes dropped (a segment given back) read as unlisted ones, and the form stays. -/
theorem Memory.wf_drop (p : Nat → Bool) (h : Memory.wf m = true) : Memory.wf (Store.drop m p) = true := Store.wf_drop 0 m p h

/-- A write of slice bytes keeps the form of HBM. -/
theorem Pkg.wf_sliceWrite (s : Pkg) (i a : Nat) (l : List Byte) (h : Memory.wf s.que.hbm = true) :
    Memory.wf (s.sliceWrite i a l).que.hbm = true := by
  induction l generalizing s a with
  | nil => exact h
  | cons v l ih =>
    rw [Pkg.sliceWrite]
    refine ih _ _ ?_
    split
    · exact Memory.wf_writeByte _ _ _ h
    · exact h

/-- Every memory of the machine after reset is in canonical form. -/
theorem State.reset_memory_wf : Memory.wf State.reset.pkg.que.hbm = true ∧ Memory.wf State.reset.pkg.host = true ∧
    Memory.wf State.reset.pkg.sram = true ∧ Memory.wf State.reset.pkg.tim.buf = true := ⟨rfl, rfl, rfl, rfl⟩

end Sys2Proof.Machine
end

