-- ==== Sys2Proof/WellFormed.lean ====
section
/-!
DEFINITION. Which commands are well formed: each operand lies in the range that its field or its place in the part has. `exec` is total; on a command
that is not well formed it says nothing about the part.
-/
namespace Sys2Proof
open Machine

/-- `v` fits in `w` bits. -/
def fits (w v : Nat) : Bool := decide (v < 2 ^ w)

/-- Data of a write: 1 to 64 words, and a byte-enable mask that names no byte beyond them (R313). -/
def dataOk (data : List (BitVec 32)) (be : Option Nat) : Bool :=
  decide (1 ≤ data.length) && decide (data.length ≤ 64) && be.all fun n => fits (4 * data.length) n

/-- A record header's fields have their widths (R184). -/
def recOk (h : RecHdr) : Bool := fits 8 h.inst && fits 32 h.len && fits 64 h.addr && fits 8 h.rsv

/-- A chunk is its 32-byte header, LEN bytes of ciphertext and its 16-byte tag (R179). -/
def chunkOk (c : ChunkData) : Bool := c.head.length == 32 && c.data.length == c.hdr.len && c.tag.length == 16

/-- An instance descriptor's fields have their widths (Table 100). -/
def descOk (x : ImgDesc) : Bool :=
  fits 16 x.depth && fits 16 x.edgeLen && fits 8 x.vrows && fits 8 x.vcols && fits 8 x.flags && fits 16 x.hbmSegs && fits 32 x.ioBanks &&
  fits 32 x.ports && fits 16 x.flowBase && fits 16 x.flowCount && x.pin.length == 8 && x.pin.all (fits 8) && decide (x.pairs.length ≤ 28) &&
  (x.pairs.all fun e => fits 3 e.1 && fits 3 e.2.1 && fits 8 e.2.2) &&
  x.regions.all fun e => fits 3 e.1 && fits 6 e.2.1 && fits 32 e.2.2.1 && fits 16 e.2.2.2

/-- A request packet's fields have their widths (Table 192). -/
def ringOk (r : RingPkt) : Bool :=
  fits 7 r.init && fits 6 r.tag && (r.inst.all (fits 4)) && decide (r.cls ≤ 6) && fits 6 r.srcPkg && (r.dst.all (fits 6)) &&
  decide (1 ≤ r.len) && decide (r.len ≤ 64) && fits 4 r.fbe && fits 4 r.lbe && fits 40 r.addr && r.data.all (fits 32) &&
  r.data.length == (if r.write then r.len else 0) && decide (r.ecc ≤ 2) && decide (r.back ≤ 2) && fits 2 r.prio

/-- A received frame names a port of die 0 and a kind. -/
def ethOk (x : EthFrame) : Bool := fits 1 x.port && fits 2 x.kind && fits 2 x.transport && fits 8 x.domain

/-- What a fed instruction does stays within the registers of the processor and one access of at most 8 bytes (R418). -/
def feedOk : FeedOut → Bool
  | .err => true
  | .regs l => l.all fun e => decide (e.1 ≤ 33) && fits 64 e.2
  | .load reg addr n _ => decide (reg ≤ 33) && fits 40 addr && [1, 2, 4, 8].contains n
  | .store addr data => fits 40 addr && decide (1 ≤ data.length) && decide (data.length ≤ 2) && data.all (fits 32)

/-- What reset release finds names units of the part. -/
def bootOk (e : BootEnv) : Bool :=
  fits 6 e.pkgId && fits 32 e.compat && e.copyA.all (fits 32) && e.copyB.all (fits 32) && e.badStacks.all (fits 2) &&
  e.march.all fun m => fits 13 m.1 && m.2.all fun x => fits 14 x.1 && fits 16 x.2

/-- What a loss of power cuts short is in range. -/
def cutOk : CutWrite → Bool
  | .none => true
  | .bbKey m seq => fits 4 m && fits 16 seq
  | .efKey m seq key check => fits 4 m && fits 16 seq && fits 256 key && fits 32 check
  | .policy m seq set => fits 4 m && fits 16 seq && fits 3 set
  | .gen n => decide (n ≤ 64)

/-- Every operand of the command is in the range that its encoding or its place in the part has. Operands of a fixed width are in range by their
type. -/
def Instr.wellFormed : Instr → Bool
  | .arrayStep _ _ => true
  | .stallRelease _ => true
  | .majorCycleBoundary _ _ => true
  | .flowHoldRelease _ _ => true
  | .callTimeout _ => true
  | .start _ _ _ => true
  | .pause _ _ => true
  | .resume _ _ => true
  | .freeze _ _ => true
  | .snap _ _ => true
  | .dataStoreWrite _ _ _ _ data be => dataOk data be
  | .wuStateWrite _ _ _ _ data be => dataOk data be
  | .bridgeAlignmentLoss _ _ => true
  | .cavOwnWrite _ _ _ => true
  | .handoverComplete _ => true
  | .caveAtomAdd _ _ _ _ => true
  | .caveAtomSwap _ _ _ _ => true
  | .caveWindowWrite _ _ _ _ data be => dataOk data be
  | .marchStart _ _ _ _ => true
  | .marchDone _ _ => true
  | .heldRequestSend _ => true
  | .queueResultReturn _ _ _ _ => true
  | .patrolScrubRead _ _ _ => true
  | .segOwnWrite _ _ _ => true
  | .relocate _ _ _ => true
  | .relocationSwitch _ _ => true
  | .load _ _ => true
  | .streamHeader b => b.length == 560
  | .chunk c => chunkOk c
  | .sectionBegin h x => recOk h && descOk x
  | .patchBegin h => recOk h
  | .sectionEnd h _ _ => recOk h
  | .frames h l _ => recOk h && decide (1 ≤ l.length)
  | .cave h _ => recOk h
  | .portcfg h _ _ => recOk h
  | .qentry h _ => recOk h
  | .hbm h _ => recOk h
  | .edge h _ => recOk h
  | .gdl h _ => recOk h
  | .iocfg h _ _ _ => recOk h
  | .linkcfg h _ _ _ _ _ => recOk h
  | .tracecfg h _ => recOk h
  | .loadCheck _ _ => true
  | .commitTimeout => true
  | .slaveCommitTimeout => true
  | .commitAckTimeout => true
  | .streamStall => true
  | .cfgAbort _ => true
  | .errClr _ => true
  | .turnerFrameCheck _ _ _ _ _ _ => true
  | .bankSupplyFault _ => true
  | .bankSupplyRestored _ => true
  | .extest _ _ => true
  | .bscanIdcode => true
  | .samplePreload _ _ => true
  | .clamp => true
  | .highz => true
  | .bscanBypass ir => !([0, 1, 2, 4, 5].contains ir.toNat)
  | .laneEn _ _ _ => true
  | .laneTgtApply _ => true
  | .retrain _ _ => true
  | .laneFaultClr _ _ => true
  | .synthLock _ => true
  | .synthLockTimeout _ _ => true
  | .synthLockLoss _ => true
  | .cdrLockLoss _ => true
  | .trainingFrame _ _ => true
  | .pam4AttemptEnd _ _ => true
  | .trainingTimeout _ => true
  | .wakeToneDetect _ => true
  | .prbsCfgWrite _ _ _ => true
  | .injShot _ _ => true
  | .periodicInjection _ => true
  | .portBond _ _ _ => true
  | .flitSend _ => true
  | .idleFlit _ => true
  | .lack _ _ _ freed => freed.length == 4
  | .sched _ _ _ => true
  | .schsync _ _ _ _ => true
  | .memFlit _ _ _ => true
  | .svcFlit _ _ _ => true
  | .phaseFlit _ _ _ _ _ => true
  | .badFlit _ => true
  | .replayTimeout _ => true
  | .linkSilence _ => true
  | .linkDownTimeout _ => true
  | .portFaultClr _ _ => true
  | .portSnap _ _ => true
  | .portLpApply _ => true
  | .lowpwrEntry _ _ => true
  | .portRealign _ _ => true
  | .ready _ _ _ _ _ _ _ _ => true
  | .fail _ _ _ _ _ _ => true
  | .commit _ _ _ _ _ _ => true
  | .abort _ _ _ _ _ => true
  | .commitAck _ _ _ _ _ => true
  | .casStart _ _ _ _ _ _ _ _ _ => true
  | .startAck _ _ _ _ _ _ _ => true
  | .startCancel _ _ _ _ _ _ => true
  | .casStopAt _ _ _ _ _ _ _ _ => true
  | .freezeNow _ _ _ _ _ _ _ => true
  | .casEvent _ _ _ _ _ _ _ _ => true
  | .halt _ _ _ _ _ _ _ => true
  | .heartbeat _ _ _ _ _ => true
  | .flush _ _ _ _ _ _ _ => true
  | .lpReq _ _ _ _ _ _ _ => true
  | .faultNote _ _ _ _ _ _ => true
  | .heartbeatSend => true
  | .peerTimeout _ => true
  | .startAckDeadline => true
  | .cascadeStartCount _ _ => true
  | .whyArm _ => true
  | .whyStop _ => true
  | .whySnap _ => true
  | .deferredArm => true
  | .fifoDrain _ _ => true
  | .ringRptrWrite _ _ _ => true
  | .autoTriggerTimeout => true
  | .registerWrite _ _ _ data be => dataOk data be
  | .aliasWrite _ _ _ _ _ _ => true
  | .doorbell _ _ _ => true
  | .slotTake _ fetched => fetched.length == 64
  | .partialMessageTimeout _ => true
  | .completionWrite _ => true
  | .cplHeadWrite _ _ _ => true
  | .mailboxReset _ _ => true
  | .fetchRetry _ => true
  | .eventWrite => true
  | .deferredActionDone _ _ => true
  | .ping _ _ _ => true
  | .getInfo _ _ => true
  | .getFusemap _ _ _ => true
  | .getHealth _ _ _ => true
  | .loadAbort _ _ => true
  | .loadReport _ _ _ => true
  | .unload _ _ => true
  | .runCtlStart _ _ => true
  | .runCtlPause _ _ => true
  | .runCtlResume _ _ => true
  | .runCtlFreeze _ _ => true
  | .runCtlSetStopAt _ _ => true
  | .runCtlClearStopAt _ _ => true
  | .instReset _ _ => true
  | .resetDrainComplete _ _ => true
  | .resetOverrun _ _ => true
  | .caveOwn _ _ => true
  | .march _ _ _ => true
  | .memRead _ _ _ _ => true
  | .memWrite _ _ _ _ _ => true
  | .traceRead _ _ _ => true
  | .linkSend _ _ _ _ => true
  | .linkRecv _ _ _ => true
  | .keyEfProgram _ _ _ _ => true
  | .keyBbWrite _ _ _ => true
  | .keyBbZero _ _ => true
  | .fusePolicy _ _ _ _ => true
  | .mpRestart _ _ => true
  | .flowBind _ _ => true
  | .flowUnbind _ _ => true
  | .wdogKick _ _ => true
  | .wdogExpiry _ => true
  | .mpRebootDone _ => true
  | .mpFailed _ => true
  | .outboundEntryWriteDone _ _ => true
  | .callAnswer _ _ _ _ => true
  | .flowHostPointerWrite _ _ _ => true
  | .inboundFetchDone _ _ _ len words => words.length == len.toNat
  | .workItemDispatch _ _ => true
  | .dmaRetry _ => true
  | .schSnap _ => true
  | .engineReturn _ _ => true
  | .ringRequest r => ringOk r
  | .ringResponse _ _ _ => true
  | .ringMsg _ => true
  | .ringTimeout _ _ _ => true
  | .regionPowerOff _ _ => true
  | .regionDrained _ => true
  | .drainTimeout _ => true
  | .regionOff _ _ => true
  | .regionPowerOn _ _ => true
  | .regionOn _ _ => true
  | .autoPowerOff _ => true
  | .ptpFrameReceive x => ethOk x
  | .ptpFrameTransmit _ _ => true
  | .servoOffset _ _ _ => true
  | .masterLost => true
  | .timeAdjust _ _ => true
  | .launchPush _ => true
  | .launchFire _ _ _ => true
  | .launchCancel _ _ => true
  | .dbgAccess _ => true
  | .dbgPstat => true
  | .dbgXtrig _ => true
  | .dbgIdcode => true
  | .dbgBypass => true
  | .mpHalt _ _ => true
  | .mpResume _ _ => true
  | .mpStep _ _ => true
  | .mpBreakpoint _ => true
  | .mpRegWrite _ _ _ => true
  | .mpFeed _ _ _ o => feedOk o
  | .xtPulse _ _ => true
  | .xtrigIn => true
  | .debugFreeze _ _ => true
  | .debugRelease _ _ => true
  | .debugStep _ _ => true
  | .resetRelease env => bootOk env
  | .dieBootTimeout _ => true
  | .firmwareReady _ => true
  | .pcieLinkUp _ => true
  | .referenceInvalid _ => true
  | .referenceValid _ => true
  | .refCtrlWrite _ _ _ => true
  | .rootWrite _ _ => true
  | .rootLockLoss _ => true
  | .adcStart _ _ => true
  | .adcConversionEnd _ _ => true
  | .railDeparture _ _ _ => true
  | .tempWarn _ _ _ => true
  | .tempCrit _ _ _ => true
  | .thermalTrip _ _ => true
  | .tempClear _ _ _ _ => true
  | .powerLoss c => cutOk c
  | .bridgeRealignment _ _ => true
  | .pllRelock _ => true
  | .railReturn _ _ _ => true
  | .vbatLoss => true
  | .prbsCheckerReceive _ _ _ => true
  | .mpWatchpointMatch _ _ _ _ _ _ => true
  | .adcConversionBoundary _ => true
  | .ntMicrosecond _ => true
  | .hbmAccessWindow _ _ => true
  | .timedOutTagRelease _ _ => true

end Sys2Proof
end

