-- ==== Sys2Proof/Laws/PerInstr.lean ====
section
/-!
SUPPORT. The per-instruction family: every command has a well-formed form, which keeps every operand whose range its type gives. (No check of
well-formedness rules a row of the table out as a whole.)
-/
open Sys2Proof.Machine

namespace Sys2Proof.Laws.Shape

/-- Some well-formed command is of the same row as `i`. -/
def Statement (i : Instr) : Prop := ∃ j : Instr, j.ctorIdx = i.ctorIdx ∧ j.wellFormed = true

theorem arrayStep (i : Fin 16) (perr : List (Fin 32 × Fin 8 × BitVec 33) × List (BitVec 32 × List (Fin 4128))) : Statement (.arrayStep i perr) :=
  ⟨.arrayStep i perr, rfl, rfl⟩
theorem stallRelease (i : Fin 16) : Statement (.stallRelease i) :=
  ⟨.stallRelease i, rfl, rfl⟩
theorem majorCycleBoundary (i : Fin 16) (pads : List (Fin 1024 × Fin 3)) : Statement (.majorCycleBoundary i pads) :=
  ⟨.majorCycleBoundary i pads, rfl, rfl⟩
theorem flowHoldRelease (i : Fin 16) (pads : List (Fin 1024 × Fin 3)) : Statement (.flowHoldRelease i pads) :=
  ⟨.flowHoldRelease i pads, rfl, rfl⟩
theorem callTimeout (i : Fin 16) : Statement (.callTimeout i) :=
  ⟨.callTimeout i, rfl, rfl⟩
theorem start (i : Fin 16) (init : Fin 128) (pads : List (Fin 1024 × Fin 3)) : Statement (.start i init pads) :=
  ⟨.start i init pads, rfl, rfl⟩
theorem pause (i : Fin 16) (init : Fin 128) : Statement (.pause i init) :=
  ⟨.pause i init, rfl, rfl⟩
theorem resume (i : Fin 16) (init : Fin 128) : Statement (.resume i init) :=
  ⟨.resume i init, rfl, rfl⟩
theorem freeze (i : Fin 16) (init : Fin 128) : Statement (.freeze i init) :=
  ⟨.freeze i init, rfl, rfl⟩
theorem snap (i : Fin 16) (init : Fin 128) : Statement (.snap i init) :=
  ⟨.snap i init, rfl, rfl⟩
theorem dataStoreWrite (init : Fin 128) (inst : Option (Fin 16)) (d : Fin 8) (off : Fin 33554432) (data : List (BitVec 32)) (be : Option Nat) : Statement (.dataStoreWrite init inst d off data be) :=
  ⟨.dataStoreWrite init inst d off [0] none, rfl, rfl⟩
theorem wuStateWrite (init : Fin 128) (inst : Option (Fin 16)) (d : Fin 8) (off : Fin 8388608) (data : List (BitVec 32)) (be : Option Nat) : Statement (.wuStateWrite init inst d off data be) :=
  ⟨.wuStateWrite init inst d off [0] none, rfl, rfl⟩
theorem bridgeAlignmentLoss (d : Fin 8) (k : Fin 4) : Statement (.bridgeAlignmentLoss d k) :=
  ⟨.bridgeAlignmentLoss d k, rfl, rfl⟩
theorem cavOwnWrite (b : Fin 8192) (init : Fin 128) (w : BitVec 32) : Statement (.cavOwnWrite b init w) :=
  ⟨.cavOwnWrite b init w, rfl, rfl⟩
theorem handoverComplete (b : Fin 8192) : Statement (.handoverComplete b) :=
  ⟨.handoverComplete b, rfl, rfl⟩
theorem caveAtomAdd (b : Fin 8192) (init : Fin 128) (a : BitVec 14) (v : BitVec 16) : Statement (.caveAtomAdd b init a v) :=
  ⟨.caveAtomAdd b init a v, rfl, rfl⟩
theorem caveAtomSwap (b : Fin 8192) (init : Fin 128) (a : BitVec 14) (v : BitVec 16) : Statement (.caveAtomSwap b init a v) :=
  ⟨.caveAtomSwap b init a v, rfl, rfl⟩
theorem caveWindowWrite (init : Fin 128) (inst : Option (Fin 16)) (d : Fin 8) (off : Fin 33554432) (data : List (BitVec 32)) (be : Option Nat) : Statement (.caveWindowWrite init inst d off data be) :=
  ⟨.caveWindowWrite init inst d off [0] none, rfl, rfl⟩
theorem marchStart (p : Fin 512) (init : Fin 128) (mode : Fin 2) (set : BitVec 16) : Statement (.marchStart p init mode set) :=
  ⟨.marchStart p init mode set, rfl, rfl⟩
theorem marchDone (p : Fin 512) (fails : List (Fin 16 × List (BitVec 14 × BitVec 16))) : Statement (.marchDone p fails) :=
  ⟨.marchDone p fails, rfl, rfl⟩
theorem heldRequestSend (k : Fin 4096) : Statement (.heldRequestSend k) :=
  ⟨.heldRequestSend k, rfl, rfl⟩
theorem queueResultReturn (k : Fin 4096) (n : Fin 256) (lat : Nat) (e : Ecc) : Statement (.queueResultReturn k n lat e) :=
  ⟨.queueResultReturn k n lat e, rfl, rfl⟩
theorem patrolScrubRead (j : Fin 4) (a : BitVec 36) (e : Ecc) : Statement (.patrolScrubRead j a e) :=
  ⟨.patrolScrubRead j a e, rfl, rfl⟩
theorem segOwnWrite (k : Fin 576) (init : Fin 128) (w : BitVec 32) : Statement (.segOwnWrite k init w) :=
  ⟨.segOwnWrite k init w, rfl, rfl⟩
theorem relocate (m : Fin 16) (seq : BitVec 16) (expired : Bool) : Statement (.relocate m seq expired) :=
  ⟨.relocate m seq expired, rfl, rfl⟩
theorem relocationSwitch (i : Fin 16) (copyOk : Bool) : Statement (.relocationSwitch i copyOk) :=
  ⟨.relocationSwitch i copyOk, rfl, rfl⟩
theorem load (m : Fin 16) (seq : BitVec 16) : Statement (.load m seq) :=
  ⟨.load m seq, rfl, rfl⟩
theorem streamHeader (b : List (BitVec 8)) : Statement (.streamHeader b) :=
  ⟨.streamHeader (List.replicate 560 0), rfl, beq_iff_eq.mpr List.length_replicate⟩
theorem chunk (c : ChunkData) : Statement (.chunk c) :=
  ⟨.chunk ⟨List.replicate 32 0, [], List.replicate 16 0, none⟩, rfl, rfl⟩
theorem sectionBegin (h : RecHdr) (x : ImgDesc) : Statement (.sectionBegin h x) :=
  ⟨.sectionBegin ⟨0, 0, 0, 0⟩ ⟨0, 0, 0, 0, 0, 0, 0, 0, 0, 0, List.replicate 8 0, [], [], 0⟩, rfl, rfl⟩
theorem patchBegin (h : RecHdr) : Statement (.patchBegin h) :=
  ⟨.patchBegin ⟨0, 0, 0, 0⟩, rfl, rfl⟩
theorem sectionEnd (h : RecHdr) (frames : BitVec 64) (records : BitVec 64) : Statement (.sectionEnd h frames records) :=
  ⟨.sectionEnd ⟨0, 0, 0, 0⟩ frames records, rfl, rfl⟩
theorem frames (h : RecHdr) (l : List (BitVec 4096)) (verified : Bool) : Statement (.frames h l verified) :=
  ⟨.frames ⟨0, 0, 0, 0⟩ [0] verified, rfl, rfl⟩
theorem cave (h : RecHdr) (words : List (BitVec 16)) : Statement (.cave h words) :=
  ⟨.cave ⟨0, 0, 0, 0⟩ words, rfl, rfl⟩
theorem portcfg (h : RecHdr) (cfg : BitVec 8) (rsv : BitVec 56) : Statement (.portcfg h cfg rsv) :=
  ⟨.portcfg ⟨0, 0, 0, 0⟩ cfg rsv, rfl, rfl⟩
theorem qentry (h : RecHdr) (word : BitVec 64) : Statement (.qentry h word) :=
  ⟨.qentry ⟨0, 0, 0, 0⟩ word, rfl, rfl⟩
theorem hbm (h : RecHdr) (bytes : List (BitVec 8)) : Statement (.hbm h bytes) :=
  ⟨.hbm ⟨0, 0, 0, 0⟩ bytes, rfl, rfl⟩
theorem edge (h : RecHdr) (l : List (BitVec 64)) : Statement (.edge h l) :=
  ⟨.edge ⟨0, 0, 0, 0⟩ l, rfl, rfl⟩
theorem gdl (h : RecHdr) (l : List (BitVec 32)) : Statement (.gdl h l) :=
  ⟨.gdl ⟨0, 0, 0, 0⟩ l, rfl, rfl⟩
theorem iocfg (h : RecHdr) (vio : BitVec 8) (rsv : BitVec 56) (cells : List (BitVec 32)) : Statement (.iocfg h vio rsv cells) :=
  ⟨.iocfg ⟨0, 0, 0, 0⟩ vio rsv cells, rfl, rfl⟩
theorem linkcfg (h : RecHdr) (mode : BitVec 8) (roles : BitVec 8) (pkg : BitVec 8) (port : BitVec 8) (rsv : BitVec 96) : Statement (.linkcfg h mode roles pkg port rsv) :=
  ⟨.linkcfg ⟨0, 0, 0, 0⟩ mode roles pkg port rsv, rfl, rfl⟩
theorem tracecfg (h : RecHdr) (words : List (BitVec 32)) : Statement (.tracecfg h words) :=
  ⟨.tracecfg ⟨0, 0, 0, 0⟩ words, rfl, rfl⟩
theorem loadCheck (tierOk : Bool) (blow : Option (BitVec 7)) : Statement (.loadCheck tierOk blow) :=
  ⟨.loadCheck tierOk blow, rfl, rfl⟩
theorem commitTimeout : Statement (.commitTimeout) :=
  ⟨.commitTimeout, rfl, rfl⟩
theorem slaveCommitTimeout : Statement (.slaveCommitTimeout) :=
  ⟨.slaveCommitTimeout, rfl, rfl⟩
theorem commitAckTimeout : Statement (.commitAckTimeout) :=
  ⟨.commitAckTimeout, rfl, rfl⟩
theorem streamStall : Statement (.streamStall) :=
  ⟨.streamStall, rfl, rfl⟩
theorem cfgAbort (init : Fin 128) : Statement (.cfgAbort init) :=
  ⟨.cfgAbort init, rfl, rfl⟩
theorem errClr (init : Fin 128) : Statement (.errClr init) :=
  ⟨.errClr init, rfl, rfl⟩
theorem turnerFrameCheck (d : Fin 8) (g : Fin 64) (a : BitVec 32) (flips : List (Fin 4128)) (stuck : Bool) (us : BitVec 32) :
    Statement (.turnerFrameCheck d g a flips stuck us) :=
  ⟨.turnerFrameCheck d g a flips stuck us, rfl, rfl⟩
theorem bankSupplyFault (b : Fin 32) : Statement (.bankSupplyFault b) :=
  ⟨.bankSupplyFault b, rfl, rfl⟩
theorem bankSupplyRestored (b : Fin 32) : Statement (.bankSupplyRestored b) :=
  ⟨.bankSupplyRestored b, rfl, rfl⟩
theorem extest (upd : List (Fin 3072 × Fin 2)) (pads : List (Fin 1024 × Fin 3)) : Statement (.extest upd pads) :=
  ⟨.extest upd pads, rfl, rfl⟩
theorem bscanIdcode : Statement (.bscanIdcode) :=
  ⟨.bscanIdcode, rfl, rfl⟩
theorem samplePreload (upd : List (Fin 3072 × Fin 2)) (pads : List (Fin 1024 × Fin 3)) : Statement (.samplePreload upd pads) :=
  ⟨.samplePreload upd pads, rfl, rfl⟩
theorem clamp : Statement (.clamp) :=
  ⟨.clamp, rfl, rfl⟩
theorem highz : Statement (.highz) :=
  ⟨.highz, rfl, rfl⟩
theorem bscanBypass (ir : BitVec 8) : Statement (.bscanBypass ir) :=
  ⟨.bscanBypass 255, rfl, rfl⟩
theorem laneEn (l : Fin 128) (init : Fin 128) (on : Bool) : Statement (.laneEn l init on) :=
  ⟨.laneEn l init on, rfl, rfl⟩
theorem laneTgtApply (l : Fin 128) : Statement (.laneTgtApply l) :=
  ⟨.laneTgtApply l, rfl, rfl⟩
theorem retrain (l : Fin 128) (init : Fin 128) : Statement (.retrain l init) :=
  ⟨.retrain l init, rfl, rfl⟩
theorem laneFaultClr (l : Fin 128) (init : Fin 128) : Statement (.laneFaultClr l init) :=
  ⟨.laneFaultClr l init, rfl, rfl⟩
theorem synthLock (l : Fin 128) : Statement (.synthLock l) :=
  ⟨.synthLock l, rfl, rfl⟩
theorem synthLockTimeout (l : Fin 128) (noBand : Bool) : Statement (.synthLockTimeout l noBand) :=
  ⟨.synthLockTimeout l noBand, rfl, rfl⟩
theorem synthLockLoss (l : Fin 128) : Statement (.synthLockLoss l) :=
  ⟨.synthLockLoss l, rfl, rfl⟩
theorem cdrLockLoss (l : Fin 128) : Statement (.cdrLockLoss l) :=
  ⟨.cdrLockLoss l, rfl, rfl⟩
theorem trainingFrame (l : Fin 128) (f : BitVec 64 × BitVec 64 × Bool) : Statement (.trainingFrame l f) :=
  ⟨.trainingFrame l f, rfl, rfl⟩
theorem pam4AttemptEnd (l : Fin 128) (errs : BitVec 32) : Statement (.pam4AttemptEnd l errs) :=
  ⟨.pam4AttemptEnd l errs, rfl, rfl⟩
theorem trainingTimeout (l : Fin 128) : Statement (.trainingTimeout l) :=
  ⟨.trainingTimeout l, rfl, rfl⟩
theorem wakeToneDetect (l : Fin 128) : Statement (.wakeToneDetect l) :=
  ⟨.wakeToneDetect l, rfl, rfl⟩
theorem prbsCfgWrite (l : Fin 128) (init : Fin 128) (w : BitVec 32) : Statement (.prbsCfgWrite l init w) :=
  ⟨.prbsCfgWrite l init w, rfl, rfl⟩
theorem injShot (l : Fin 128) (init : Fin 128) : Statement (.injShot l init) :=
  ⟨.injShot l init, rfl, rfl⟩
theorem periodicInjection (l : Fin 128) : Statement (.periodicInjection l) :=
  ⟨.periodicInjection l, rfl, rfl⟩
theorem portBond (q : Fin 32) (ppb : Nat) (skewPs : Nat) : Statement (.portBond q ppb skewPs) :=
  ⟨.portBond q ppb skewPs, rfl, rfl⟩
theorem flitSend (q : Fin 32) : Statement (.flitSend q) :=
  ⟨.flitSend q, rfl, rfl⟩
theorem idleFlit (q : Fin 32) : Statement (.idleFlit q) :=
  ⟨.idleFlit q, rfl, rfl⟩
theorem lack (q : Fin 32) (ack : BitVec 12) (nak : Bool) (freed : List (BitVec 16)) : Statement (.lack q ack nak freed) :=
  ⟨.lack q ack nak (List.replicate 4 0), rfl, rfl⟩
theorem sched (q : Fin 32) (seq : BitVec 12) (payload : BitVec 256) : Statement (.sched q seq payload) :=
  ⟨.sched q seq payload, rfl, rfl⟩
theorem schsync (q : Fin 32) (seq : BitVec 12) (mcc : BitVec 64) (depth : BitVec 16) : Statement (.schsync q seq mcc depth) :=
  ⟨.schsync q seq mcc depth, rfl, rfl⟩
theorem memFlit (q : Fin 32) (seq : BitVec 12) (w : BitVec 256) : Statement (.memFlit q seq w) :=
  ⟨.memFlit q seq w, rfl, rfl⟩
theorem svcFlit (q : Fin 32) (seq : BitVec 12) (w : BitVec 256) : Statement (.svcFlit q seq w) :=
  ⟨.svcFlit q seq w, rfl, rfl⟩
theorem phaseFlit (q : Fin 32) (elapsed : Nat) (theirs : BitVec 64) (echo : BitVec 64) (at_ : BitVec 64) : Statement (.phaseFlit q elapsed theirs echo at_) :=
  ⟨.phaseFlit q elapsed theirs echo at_, rfl, rfl⟩
theorem badFlit (q : Fin 32 × BitVec 288) : Statement (.badFlit q) :=
  ⟨.badFlit q, rfl, rfl⟩
theorem replayTimeout (q : Fin 32) : Statement (.replayTimeout q) :=
  ⟨.replayTimeout q, rfl, rfl⟩
theorem linkSilence (q : Fin 32) : Statement (.linkSilence q) :=
  ⟨.linkSilence q, rfl, rfl⟩
theorem linkDownTimeout (q : Fin 32) : Statement (.linkDownTimeout q) :=
  ⟨.linkDownTimeout q, rfl, rfl⟩
theorem portFaultClr (q : Fin 32) (init : Fin 128) : Statement (.portFaultClr q init) :=
  ⟨.portFaultClr q init, rfl, rfl⟩
theorem portSnap (q : Fin 32) (init : Fin 128) : Statement (.portSnap q init) :=
  ⟨.portSnap q init, rfl, rfl⟩
theorem portLpApply (q : Fin 32) : Statement (.portLpApply q) :=
  ⟨.portLpApply q, rfl, rfl⟩
theorem lowpwrEntry (q : Fin 32) (partnerDone : Bool) : Statement (.lowpwrEntry q partnerDone) :=
  ⟨.lowpwrEntry q partnerDone, rfl, rfl⟩
theorem portRealign (q : Fin 32) (init : Fin 128) : Statement (.portRealign q init) :=
  ⟨.portRealign q init, rfl, rfl⟩
theorem ready (q : Fin 32) (seq : BitVec 12) (src : Fin 64) (dst : Fin 64) (bcast : Bool) (uid : BitVec 64) (mask : BitVec 16) (blow : Option (BitVec 7)) : Statement (.ready q seq src dst bcast uid mask blow) :=
  ⟨.ready q seq src dst bcast uid mask blow, rfl, rfl⟩
theorem fail (q : Fin 32) (seq : BitVec 12) (src : Fin 64) (dst : Fin 64) (bcast : Bool) (code : BitVec 4) : Statement (.fail q seq src dst bcast code) :=
  ⟨.fail q seq src dst bcast code, rfl, rfl⟩
theorem commit (q : Fin 32) (seq : BitVec 12) (src : Fin 64) (dst : Fin 64) (bcast : Bool) (blow : Option (BitVec 7)) : Statement (.commit q seq src dst bcast blow) :=
  ⟨.commit q seq src dst bcast blow, rfl, rfl⟩
theorem abort (q : Fin 32) (seq : BitVec 12) (src : Fin 64) (dst : Fin 64) (bcast : Bool) : Statement (.abort q seq src dst bcast) :=
  ⟨.abort q seq src dst bcast, rfl, rfl⟩
theorem commitAck (q : Fin 32) (seq : BitVec 12) (src : Fin 64) (dst : Fin 64) (bcast : Bool) : Statement (.commitAck q seq src dst bcast) :=
  ⟨.commitAck q seq src dst bcast, rfl, rfl⟩
theorem casStart (q : Fin 32) (seq : BitVec 12) (src : Fin 64) (dst : Fin 64) (bcast : Bool) (i : Fin 16) (count : BitVec 64) (resume : Bool) (told : BitVec 64) : Statement (.casStart q seq src dst bcast i count resume told) :=
  ⟨.casStart q seq src dst bcast i count resume told, rfl, rfl⟩
theorem startAck (q : Fin 32) (seq : BitVec 12) (src : Fin 64) (dst : Fin 64) (bcast : Bool) (i : Fin 16) (code : BitVec 4) : Statement (.startAck q seq src dst bcast i code) :=
  ⟨.startAck q seq src dst bcast i code, rfl, rfl⟩
theorem startCancel (q : Fin 32) (seq : BitVec 12) (src : Fin 64) (dst : Fin 64) (bcast : Bool) (i : Fin 16) : Statement (.startCancel q seq src dst bcast i) :=
  ⟨.startCancel q seq src dst bcast i, rfl, rfl⟩
theorem casStopAt (q : Fin 32) (seq : BitVec 12) (src : Fin 64) (dst : Fin 64) (bcast : Bool) (i : Fin 16) (cycle : BitVec 64) (cause : BitVec 4) : Statement (.casStopAt q seq src dst bcast i cycle cause) :=
  ⟨.casStopAt q seq src dst bcast i cycle cause, rfl, rfl⟩
theorem freezeNow (q : Fin 32) (seq : BitVec 12) (src : Fin 64) (dst : Fin 64) (bcast : Bool) (i : Fin 16) (cause : BitVec 4) : Statement (.freezeNow q seq src dst bcast i cause) :=
  ⟨.freezeNow q seq src dst bcast i cause, rfl, rfl⟩
theorem casEvent (q : Fin 32) (seq : BitVec 12) (src : Fin 64) (dst : Fin 64) (bcast : Bool) (i : Fin 16) (cause : BitVec 4) (mcc : BitVec 64) : Statement (.casEvent q seq src dst bcast i cause mcc) :=
  ⟨.casEvent q seq src dst bcast i cause mcc, rfl, rfl⟩
theorem halt (q : Fin 32) (seq : BitVec 12) (src : Fin 64) (dst : Fin 64) (bcast : Bool) (i : Fin 16) (pkg : Fin 64) : Statement (.halt q seq src dst bcast i pkg) :=
  ⟨.halt q seq src dst bcast i pkg, rfl, rfl⟩
theorem heartbeat (q : Fin 32) (seq : BitVec 12) (src : Fin 64) (dst : Fin 64) (bcast : Bool) : Statement (.heartbeat q seq src dst bcast) :=
  ⟨.heartbeat q seq src dst bcast, rfl, rfl⟩
theorem flush (q : Fin 32) (seq : BitVec 12) (src : Fin 64) (dst : Fin 64) (bcast : Bool) (i : Fin 16) (done : Bool) : Statement (.flush q seq src dst bcast i done) :=
  ⟨.flush q seq src dst bcast i done, rfl, rfl⟩
theorem lpReq (q : Fin 32) (seq : BitVec 12) (src : Fin 64) (dst : Fin 64) (bcast : Bool) (i : Fin 16) (lp : Fin 4) : Statement (.lpReq q seq src dst bcast i lp) :=
  ⟨.lpReq q seq src dst bcast i lp, rfl, rfl⟩
theorem faultNote (q : Fin 32) (seq : BitVec 12) (src : Fin 64) (dst : Fin 64) (bcast : Bool) (i : Fin 16) : Statement (.faultNote q seq src dst bcast i) :=
  ⟨.faultNote q seq src dst bcast i, rfl, rfl⟩
theorem heartbeatSend : Statement (.heartbeatSend) :=
  ⟨.heartbeatSend, rfl, rfl⟩
theorem peerTimeout (n : Fin 64) : Statement (.peerTimeout n) :=
  ⟨.peerTimeout n, rfl, rfl⟩
theorem startAckDeadline : Statement .startAckDeadline :=
  ⟨.startAckDeadline, rfl, rfl⟩
theorem cascadeStartCount (i : Fin 16) (pads : List (Fin 1024 × Fin 3)) : Statement (.cascadeStartCount i pads) :=
  ⟨.cascadeStartCount i pads, rfl, rfl⟩
theorem whyArm (init : Fin 128) : Statement (.whyArm init) :=
  ⟨.whyArm init, rfl, rfl⟩
theorem whyStop (init : Fin 128) : Statement (.whyStop init) :=
  ⟨.whyStop init, rfl, rfl⟩
theorem whySnap (init : Fin 128) : Statement (.whySnap init) :=
  ⟨.whySnap init, rfl, rfl⟩
theorem deferredArm : Statement (.deferredArm) :=
  ⟨.deferredArm, rfl, rfl⟩
theorem fifoDrain (d : Fin 8) (n : Nat) : Statement (.fifoDrain d n) :=
  ⟨.fifoDrain d n, rfl, rfl⟩
theorem ringRptrWrite (d : Fin 8) (init : Fin 128) (w : BitVec 64) : Statement (.ringRptrWrite d init w) :=
  ⟨.ringRptrWrite d init w, rfl, rfl⟩
theorem autoTriggerTimeout : Statement (.autoTriggerTimeout) :=
  ⟨.autoTriggerTimeout, rfl, rfl⟩
theorem registerWrite (init : Fin 128) (inst : Option (Fin 16)) (addr : BitVec 40) (data : List (BitVec 32)) (be : Option Nat) : Statement (.registerWrite init inst addr data be) :=
  ⟨.registerWrite init inst addr [0] none, rfl, rfl⟩
theorem aliasWrite (init : Fin 128) (inst : Option (Fin 16)) (d : Fin 8) (o : Fin 16777216) (n : Fin 32) (w : BitVec 32) : Statement (.aliasWrite init inst d o n w) :=
  ⟨.aliasWrite init inst d o n w, rfl, rfl⟩
theorem doorbell (m : Fin 16) (init : Fin 128) (tail : BitVec 16) : Statement (.doorbell m init tail) :=
  ⟨.doorbell m init tail, rfl, rfl⟩
theorem slotTake (m : Fin 16) (fetched : List (BitVec 8)) : Statement (.slotTake m fetched) :=
  ⟨.slotTake m (List.replicate 64 0), rfl, rfl⟩
theorem partialMessageTimeout (m : Fin 16) : Statement (.partialMessageTimeout m) :=
  ⟨.partialMessageTimeout m, rfl, rfl⟩
theorem completionWrite (m : Fin 16) : Statement (.completionWrite m) :=
  ⟨.completionWrite m, rfl, rfl⟩
theorem cplHeadWrite (m : Fin 16) (init : Fin 128) (head : BitVec 16) : Statement (.cplHeadWrite m init head) :=
  ⟨.cplHeadWrite m init head, rfl, rfl⟩
theorem mailboxReset (m : Fin 16) (init : Fin 128) : Statement (.mailboxReset m init) :=
  ⟨.mailboxReset m init, rfl, rfl⟩
theorem fetchRetry (m : Fin 16) : Statement (.fetchRetry m) :=
  ⟨.fetchRetry m, rfl, rfl⟩
theorem eventWrite : Statement (.eventWrite) :=
  ⟨.eventWrite, rfl, rfl⟩
theorem deferredActionDone (m : Fin 16) (seq : BitVec 16) : Statement (.deferredActionDone m seq) :=
  ⟨.deferredActionDone m seq, rfl, rfl⟩
theorem ping (m : Fin 16) (seq : BitVec 16) (ms : BitVec 64) : Statement (.ping m seq ms) :=
  ⟨.ping m seq ms, rfl, rfl⟩
theorem getInfo (m : Fin 16) (seq : BitVec 16) : Statement (.getInfo m seq) :=
  ⟨.getInfo m seq, rfl, rfl⟩
theorem getFusemap (m : Fin 16) (seq : BitVec 16) (fail : Option Nat) : Statement (.getFusemap m seq fail) :=
  ⟨.getFusemap m seq fail, rfl, rfl⟩
theorem getHealth (m : Fin 16) (seq : BitVec 16) (fail : Option Nat) : Statement (.getHealth m seq fail) :=
  ⟨.getHealth m seq fail, rfl, rfl⟩
theorem loadAbort (m : Fin 16) (seq : BitVec 16) : Statement (.loadAbort m seq) :=
  ⟨.loadAbort m seq, rfl, rfl⟩
theorem loadReport (m : Fin 16) (seq : BitVec 16) (fail : Option Nat) : Statement (.loadReport m seq fail) :=
  ⟨.loadReport m seq fail, rfl, rfl⟩
theorem unload (m : Fin 16) (seq : BitVec 16) : Statement (.unload m seq) :=
  ⟨.unload m seq, rfl, rfl⟩
theorem runCtlStart (m : Fin 16) (seq : BitVec 16) : Statement (.runCtlStart m seq) :=
  ⟨.runCtlStart m seq, rfl, rfl⟩
theorem runCtlPause (m : Fin 16) (seq : BitVec 16) : Statement (.runCtlPause m seq) :=
  ⟨.runCtlPause m seq, rfl, rfl⟩
theorem runCtlResume (m : Fin 16) (seq : BitVec 16) : Statement (.runCtlResume m seq) :=
  ⟨.runCtlResume m seq, rfl, rfl⟩
theorem runCtlFreeze (m : Fin 16) (seq : BitVec 16) : Statement (.runCtlFreeze m seq) :=
  ⟨.runCtlFreeze m seq, rfl, rfl⟩
theorem runCtlSetStopAt (m : Fin 16) (seq : BitVec 16) : Statement (.runCtlSetStopAt m seq) :=
  ⟨.runCtlSetStopAt m seq, rfl, rfl⟩
theorem runCtlClearStopAt (m : Fin 16) (seq : BitVec 16) : Statement (.runCtlClearStopAt m seq) :=
  ⟨.runCtlClearStopAt m seq, rfl, rfl⟩
theorem instReset (m : Fin 16) (seq : BitVec 16) : Statement (.instReset m seq) :=
  ⟨.instReset m seq, rfl, rfl⟩
theorem resetDrainComplete (i : Fin 16) (ns : Nat) : Statement (.resetDrainComplete i ns) :=
  ⟨.resetDrainComplete i ns, rfl, rfl⟩
theorem resetOverrun (i : Fin 16) (ns : Nat) : Statement (.resetOverrun i ns) :=
  ⟨.resetOverrun i ns, rfl, rfl⟩
theorem caveOwn (m : Fin 16) (seq : BitVec 16) : Statement (.caveOwn m seq) :=
  ⟨.caveOwn m seq, rfl, rfl⟩
theorem march (m : Fin 16) (seq : BitVec 16) (fails : List (Fin 1024 × List (BitVec 14 × BitVec 16))) : Statement (.march m seq fails) :=
  ⟨.march m seq fails, rfl, rfl⟩
theorem memRead (m : Fin 16) (seq : BitVec 16) (ue : Option Nat) (fail : Option Nat) : Statement (.memRead m seq ue fail) :=
  ⟨.memRead m seq ue fail, rfl, rfl⟩
theorem memWrite (m : Fin 16) (seq : BitVec 16) (bytes : List (BitVec 8)) (ue : Option Nat) (fail : Option Nat) : Statement (.memWrite m seq bytes ue fail) :=
  ⟨.memWrite m seq bytes ue fail, rfl, rfl⟩
theorem traceRead (m : Fin 16) (seq : BitVec 16) (fail : Option Nat) : Statement (.traceRead m seq fail) :=
  ⟨.traceRead m seq fail, rfl, rfl⟩
theorem linkSend (m : Fin 16) (seq : BitVec 16) (bytes : List (BitVec 8)) (fail : Option Nat) : Statement (.linkSend m seq bytes fail) :=
  ⟨.linkSend m seq bytes fail, rfl, rfl⟩
theorem linkRecv (m : Fin 16) (seq : BitVec 16) (fail : Option Nat) : Statement (.linkRecv m seq fail) :=
  ⟨.linkRecv m seq fail, rfl, rfl⟩
theorem keyEfProgram (m : Fin 16) (seq : BitVec 16) (steady : Bool) (reads : Bool) : Statement (.keyEfProgram m seq steady reads) :=
  ⟨.keyEfProgram m seq steady reads, rfl, rfl⟩
theorem keyBbWrite (m : Fin 16) (seq : BitVec 16) (reads : Bool) : Statement (.keyBbWrite m seq reads) :=
  ⟨.keyBbWrite m seq reads, rfl, rfl⟩
theorem keyBbZero (m : Fin 16) (seq : BitVec 16) : Statement (.keyBbZero m seq) :=
  ⟨.keyBbZero m seq, rfl, rfl⟩
theorem fusePolicy (m : Fin 16) (seq : BitVec 16) (steady : Bool) (stuck : BitVec 3) : Statement (.fusePolicy m seq steady stuck) :=
  ⟨.fusePolicy m seq steady stuck, rfl, rfl⟩
theorem mpRestart (m : Fin 16) (seq : BitVec 16) : Statement (.mpRestart m seq) :=
  ⟨.mpRestart m seq, rfl, rfl⟩
theorem flowBind (m : Fin 16) (seq : BitVec 16) : Statement (.flowBind m seq) :=
  ⟨.flowBind m seq, rfl, rfl⟩
theorem flowUnbind (m : Fin 16) (seq : BitVec 16) : Statement (.flowUnbind m seq) :=
  ⟨.flowUnbind m seq, rfl, rfl⟩
theorem wdogKick (d : Fin 8) (init : Fin 128) : Statement (.wdogKick d init) :=
  ⟨.wdogKick d init, rfl, rfl⟩
theorem wdogExpiry (d : Fin 8) : Statement (.wdogExpiry d) :=
  ⟨.wdogExpiry d, rfl, rfl⟩
theorem mpRebootDone (d : Fin 8) : Statement (.mpRebootDone d) :=
  ⟨.mpRebootDone d, rfl, rfl⟩
theorem mpFailed (d : Fin 8) : Statement (.mpFailed d) :=
  ⟨.mpFailed d, rfl, rfl⟩
theorem outboundEntryWriteDone (e : Fin 40) (ns : Nat) : Statement (.outboundEntryWriteDone e ns) :=
  ⟨.outboundEntryWriteDone e ns, rfl, rfl⟩
theorem callAnswer (f : Fin 4096) (init : Fin 128) (lo : Option (BitVec 32)) (hi : BitVec 32) : Statement (.callAnswer f init lo hi) :=
  ⟨.callAnswer f init lo hi, rfl, rfl⟩
theorem flowHostPointerWrite (f : Fin 4096) (init : Fin 128) (ptr : BitVec 16) : Statement (.flowHostPointerWrite f init ptr) :=
  ⟨.flowHostPointerWrite f init ptr, rfl, rfl⟩
theorem inboundFetchDone (e : Fin 40) (ns : Nat) (fseq : BitVec 32) (len : BitVec 16) (words : List (BitVec 16)) : Statement (.inboundFetchDone e ns fseq len words) :=
  ⟨.inboundFetchDone e ns fseq len (List.replicate len.toNat 0), rfl, by simp [Instr.wellFormed]⟩
theorem workItemDispatch (e : Fin 40) (ns : Nat) : Statement (.workItemDispatch e ns) :=
  ⟨.workItemDispatch e ns, rfl, rfl⟩
theorem dmaRetry (e : Fin 40) : Statement (.dmaRetry e) :=
  ⟨.dmaRetry e, rfl, rfl⟩
theorem schSnap (init : Fin 128) : Statement (.schSnap init) :=
  ⟨.schSnap init, rfl, rfl⟩
theorem engineReturn (e : Fin 40) (init : Fin 128) : Statement (.engineReturn e init) :=
  ⟨.engineReturn e init, rfl, rfl⟩
theorem ringRequest (r : RingPkt) : Statement (.ringRequest r) :=
  ⟨.ringRequest ⟨false, 0, 0, none, 0, 0, none, 1, 15, 15, 0, [], 0, 0, 0⟩, rfl, rfl⟩
theorem ringResponse (init : Fin 128) (tag : BitVec 6) (dep : Option (Fin 16 × BitVec 16)) : Statement (.ringResponse init tag dep) :=
  ⟨.ringResponse init tag dep, rfl, rfl⟩
theorem ringMsg (d : Fin 8) : Statement (.ringMsg d) :=
  ⟨.ringMsg d, rfl, rfl⟩
theorem ringTimeout (init : Fin 128) (tag : BitVec 6) (dep : Option (Fin 16 × BitVec 16)) : Statement (.ringTimeout init tag dep) :=
  ⟨.ringTimeout init tag dep, rfl, rfl⟩
theorem regionPowerOff (p : Fin 512) (init : Fin 128) : Statement (.regionPowerOff p init) :=
  ⟨.regionPowerOff p init, rfl, rfl⟩
theorem regionDrained (p : Fin 512) : Statement (.regionDrained p) :=
  ⟨.regionDrained p, rfl, rfl⟩
theorem drainTimeout (p : Fin 512) : Statement (.drainTimeout p) :=
  ⟨.drainTimeout p, rfl, rfl⟩
theorem regionOff (p : Fin 512) (us : BitVec 16) : Statement (.regionOff p us) :=
  ⟨.regionOff p us, rfl, rfl⟩
theorem regionPowerOn (p : Fin 512) (init : Fin 128) : Statement (.regionPowerOn p init) :=
  ⟨.regionPowerOn p init, rfl, rfl⟩
theorem regionOn (p : Fin 512) (us : BitVec 16) : Statement (.regionOn p us) :=
  ⟨.regionOn p us, rfl, rfl⟩
theorem autoPowerOff (p : Fin 512) : Statement (.autoPowerOff p) :=
  ⟨.autoPowerOff p, rfl, rfl⟩
theorem ptpFrameReceive (x : EthFrame) : Statement (.ptpFrameReceive x) :=
  ⟨.ptpFrameReceive ⟨0, 0, 0, 0, false⟩, rfl, rfl⟩
theorem ptpFrameTransmit (kind : Fin 5) (csum : Bool) : Statement (.ptpFrameTransmit kind csum) :=
  ⟨.ptpFrameTransmit kind csum, rfl, rfl⟩
theorem servoOffset (o : Int) (match_ : Int) (want : Int) : Statement (.servoOffset o match_ want) :=
  ⟨.servoOffset o match_ want, rfl, rfl⟩
theorem masterLost : Statement (.masterLost) :=
  ⟨.masterLost, rfl, rfl⟩
theorem timeAdjust (init : Fin 128) (w : BitVec 64) : Statement (.timeAdjust init w) :=
  ⟨.timeAdjust init w, rfl, rfl⟩
theorem launchPush (init : Fin 128) : Statement (.launchPush init) :=
  ⟨.launchPush init, rfl, rfl⟩
theorem launchFire (n : Nat) (held : Bool) (csum : Bool) : Statement (.launchFire n held csum) :=
  ⟨.launchFire n held csum, rfl, rfl⟩
theorem launchCancel (init : Fin 128) (id : BitVec 6) : Statement (.launchCancel init id) :=
  ⟨.launchCancel init id, rfl, rfl⟩
theorem dbgAccess (dr : BitVec 80) : Statement (.dbgAccess dr) :=
  ⟨.dbgAccess dr, rfl, rfl⟩
theorem dbgPstat : Statement (.dbgPstat) :=
  ⟨.dbgPstat, rfl, rfl⟩
theorem dbgXtrig (mask : BitVec 4) : Statement (.dbgXtrig mask) :=
  ⟨.dbgXtrig mask, rfl, rfl⟩
theorem dbgIdcode : Statement (.dbgIdcode) :=
  ⟨.dbgIdcode, rfl, rfl⟩
theorem dbgBypass : Statement (.dbgBypass) :=
  ⟨.dbgBypass, rfl, rfl⟩
theorem mpHalt (d : Fin 8) (init : Fin 128) : Statement (.mpHalt d init) :=
  ⟨.mpHalt d init, rfl, rfl⟩
theorem mpResume (d : Fin 8) (init : Fin 128) : Statement (.mpResume d init) :=
  ⟨.mpResume d init, rfl, rfl⟩
theorem mpStep (d : Fin 8) (init : Fin 128) : Statement (.mpStep d init) :=
  ⟨.mpStep d init, rfl, rfl⟩
theorem mpBreakpoint (d : Fin 8) : Statement (.mpBreakpoint d) :=
  ⟨.mpBreakpoint d, rfl, rfl⟩
theorem mpRegWrite (d : Fin 8) (init : Fin 128) (w : BitVec 64) : Statement (.mpRegWrite d init w) :=
  ⟨.mpRegWrite d init w, rfl, rfl⟩
theorem mpFeed (d : Fin 8) (init : Fin 128) (insn : BitVec 32) (o : FeedOut) : Statement (.mpFeed d init insn o) :=
  ⟨.mpFeed d init insn .err, rfl, rfl⟩
theorem xtPulse (init : Fin 128) (mask : BitVec 4) : Statement (.xtPulse init mask) :=
  ⟨.xtPulse init mask, rfl, rfl⟩
theorem xtrigIn : Statement (.xtrigIn) :=
  ⟨.xtrigIn, rfl, rfl⟩
theorem debugFreeze (i : Fin 16) (init : Fin 128) : Statement (.debugFreeze i init) :=
  ⟨.debugFreeze i init, rfl, rfl⟩
theorem debugRelease (i : Fin 16) (init : Fin 128) : Statement (.debugRelease i init) :=
  ⟨.debugRelease i init, rfl, rfl⟩
theorem debugStep (i : Fin 16) (init : Fin 128) : Statement (.debugStep i init) :=
  ⟨.debugStep i init, rfl, rfl⟩
theorem resetRelease (env : BootEnv) : Statement (.resetRelease env) :=
  ⟨.resetRelease ⟨0, true, 0, false, false, true, true, true, none, none, [], []⟩, rfl, rfl⟩
theorem dieBootTimeout (d : Fin 8) : Statement (.dieBootTimeout d) :=
  ⟨.dieBootTimeout d, rfl, rfl⟩
theorem firmwareReady (ms : BitVec 32) : Statement (.firmwareReady ms) :=
  ⟨.firmwareReady ms, rfl, rfl⟩
theorem pcieLinkUp (port : Fin 2) : Statement (.pcieLinkUp port) :=
  ⟨.pcieLinkUp port, rfl, rfl⟩
theorem referenceInvalid (k : Fin 3) : Statement (.referenceInvalid k) :=
  ⟨.referenceInvalid k, rfl, rfl⟩
theorem referenceValid (k : Fin 3) : Statement (.referenceValid k) :=
  ⟨.referenceValid k, rfl, rfl⟩
theorem refCtrlWrite (init : Fin 128) (w : BitVec 32) (far : Bool) : Statement (.refCtrlWrite init w far) :=
  ⟨.refCtrlWrite init w far, rfl, rfl⟩
theorem rootWrite (init : Fin 128) (root : Bool) : Statement (.rootWrite init root) :=
  ⟨.rootWrite init root, rfl, rfl⟩
theorem rootLockLoss (d : Fin 8) : Statement (.rootLockLoss d) :=
  ⟨.rootLockLoss d, rfl, rfl⟩
theorem adcStart (d : Fin 8) (init : Fin 128) : Statement (.adcStart d init) :=
  ⟨.adcStart d init, rfl, rfl⟩
theorem adcConversionEnd (d : Fin 8) (code : BitVec 12) : Statement (.adcConversionEnd d code) :=
  ⟨.adcConversionEnd d code, rfl, rfl⟩
theorem railDeparture (d : Fin 8) (r : Fin 5) (mv : BitVec 16) : Statement (.railDeparture d r mv) :=
  ⟨.railDeparture d r mv, rfl, rfl⟩
theorem tempWarn (d : Fin 8) (n : Fin 4) (v : Int) : Statement (.tempWarn d n v) :=
  ⟨.tempWarn d n v, rfl, rfl⟩
theorem tempCrit (d : Fin 8) (n : Fin 4) (v : Int) : Statement (.tempCrit d n v) :=
  ⟨.tempCrit d n v, rfl, rfl⟩
theorem thermalTrip (d : Fin 8) (n : Fin 4) : Statement (.thermalTrip d n) :=
  ⟨.thermalTrip d n, rfl, rfl⟩
theorem tempClear (d : Fin 8) (n : Fin 4) (crit : Bool) (v : Int) : Statement (.tempClear d n crit v) :=
  ⟨.tempClear d n crit v, rfl, rfl⟩
theorem powerLoss (c : CutWrite) : Statement (.powerLoss c) :=
  ⟨.powerLoss .none, rfl, rfl⟩
theorem bridgeRealignment (d : Fin 8) (k : Fin 4) : Statement (.bridgeRealignment d k) :=
  ⟨.bridgeRealignment d k, rfl, rfl⟩
theorem pllRelock (d : Fin 8) : Statement (.pllRelock d) :=
  ⟨.pllRelock d, rfl, rfl⟩
theorem railReturn (d : Fin 8) (r : Fin 5) (mv : BitVec 16) : Statement (.railReturn d r mv) :=
  ⟨.railReturn d r mv, rfl, rfl⟩
theorem vbatLoss : Statement (.vbatLoss) :=
  ⟨.vbatLoss, rfl, rfl⟩
theorem prbsCheckerReceive (l : Fin 128) (b : Bool) (more : List Bool) : Statement (.prbsCheckerReceive l b more) :=
  ⟨.prbsCheckerReceive l b more, rfl, rfl⟩
theorem mpWatchpointMatch (d : Fin 8) (fetch : Bool) (write : Bool) (addr : BitVec 64) (n : Fin 9) (data : List (BitVec 32)) : Statement (.mpWatchpointMatch d fetch write addr n data) :=
  ⟨.mpWatchpointMatch d fetch write addr n data, rfl, rfl⟩
theorem adcConversionBoundary (d : Fin 8) : Statement (.adcConversionBoundary d) :=
  ⟨.adcConversionBoundary d, rfl, rfl⟩
theorem ntMicrosecond (n : Nat) : Statement (.ntMicrosecond n) :=
  ⟨.ntMicrosecond n, rfl, rfl⟩
theorem hbmAccessWindow (j : Fin 4) (pc : Fin 32) : Statement (.hbmAccessWindow j pc) :=
  ⟨.hbmAccessWindow j pc, rfl, rfl⟩
theorem timedOutTagRelease (init : Fin 128) (tag : BitVec 6) : Statement (.timedOutTagRelease init tag) :=
  ⟨.timedOutTagRelease init tag, rfl, rfl⟩

end Sys2Proof.Laws.Shape
end

