-- ==== Sys2Proof/Laws/Registers.lean ====
section
/-!
SUPPORT. What a write of a register by its name comes to where no watchpoint is enabled: the rules of that register, or a recorded refusal.
-/
namespace Sys2Proof.Machine

variable {s : Pkg}

/-! ## Watchpoints stand aside -/

theorem Pkg.unwatched_en (h : s.unwatched = true) {n : Nat} (hn : n < 64) : s.b .DBG_WP_CTL_EN n = false := by
  simp only [Pkg.unwatched, List.all_eq_true, List.mem_range, beq_iff_eq] at h
  simp [Pkg.b, h n hn]

theorem Pkg.wpSee_unwatched (h : s.unwatched = true) {d : Nat} (hd : d < 8) (a : Access) : s.wpSee d a = s := by
  unfold Pkg.wpSee
  have : (List.range 8).filter (fun n => s.wpMatch d n a) = [] := by
    rw [List.filter_eq_nil_iff]
    intro n hn
    have hn' := List.mem_range.1 hn
    unfold Pkg.wpMatch
    simp [Pkg.unwatched_en h (show d * 8 + n < 64 by omega)]
  rw [this]

theorem diePath_lt {c a b : Nat} (hc : c = 2 ∨ c = 4) (ha : a < 8) (hb : b < 8) : ∀ e ∈ diePath c a b, e < 8 := by
  rcases hc with rfl | rfl <;> interval_cases a <;> interval_cases b <;> decide

theorem initDie_lt (init : Nat) : initDie init < 8 := by
  unfold initDie
  split
  · assumption
  · split
    · next h => unfold isDma at h; simp at h; omega
    · split
      · decide
      · split <;> omega

theorem Model.cols_cases (m : Model) : m.cols = 2 ∨ m.cols = 4 := by cases m <;> simp [Model.cols]
theorem Model.dies_le (m : Model) : m.dies ≤ 8 := by cases m <;> decide

/-- Where no watchpoint is enabled, a request passes the dies unseen. -/
theorem Pkg.see_unwatched (h : s.unwatched = true) (a : BusReq) : s.see a = s := by
  unfold Pkg.see
  have hd : (if s.part.model.dies ≤ a.die then 0 else a.die) < 8 := by
    split
    · omega
    · have := s.part.model.dies_le; omega
  have hp := diePath_lt s.part.model.cols_cases (initDie_lt a.init) hd
  refine Pkg.each_keeps s (fun t => t = s) _ _ ?_ rfl
  rintro t e he rfl
  exact Pkg.wpSee_unwatched h (hp e he) _

/-! ## Guards -/

@[simp] theorem Pkg.foreign_none (u : RUnit) : s.foreign none u = false := rfl

theorem Pkg.regGuard_inst (i : Nat) : s.regGuard none (.inst i) = none := rfl
theorem Pkg.regGuard_port (q : Nat) : s.regGuard none (.port q) = none := rfl
theorem Pkg.regGuard_iobank (b : Nat) : s.regGuard none (.iobank b) = none := rfl
theorem Pkg.regGuard_flow (f : Nat) : s.regGuard none (.flow f) = none := rfl
theorem Pkg.regGuard_other : s.regGuard none .other = none := rfl
theorem Pkg.regGuard_engine {e : Nat} (h : s.engPresent e = true) : s.regGuard none (.engine e) = none := by simp [Pkg.regGuard, h]
theorem Pkg.regGuard_region {p : Nat} (h : s.pdState p ≠ 1) : s.regGuard none (.region p) = none := by
  simp [Pkg.regGuard, RUnit.region?, h]
theorem Pkg.regGuard_bank {b : Nat} (h : s.pdState (b / 16) ≠ 1) : s.regGuard none (.bank b) = none := by
  simp [Pkg.regGuard, RUnit.region?, h]

/-! ## A write by name -/

/-- The die of a register of the slots that every die has. -/
theorem die_of_addr {d o : Nat} (hd : d < 8) (ho : o < 2 ^ 37) : bits (d * 2 ^ 37 + o) 37 3 = d := by
  unfold bits; omega

/-- What a 4-byte write of a register by its name comes to: its own rules decide, and a refusal is recorded on the die it addresses. -/
theorem Pkg.regCmd_eq {b : Blk} {n : Reg} {r : RegSpec} (hs : specOf b n = some r) (idx init w : Nat) (hu : s.unwatched = true)
    (hd : bits (r.addr idx) 37 3 < s.part.model.dies) (hg : s.regGuard none (r.unit idx) = none)
    (hw : r.fields.any FieldSpec.writable = true) (ht : r.reg ≠ .TIM_ADJ) :
    s.regCmd b n idx init w = match s.regAct init r idx (s.fullWord r idx w 0xFFFFFFFF) 0xFFFFFFFF with
      | .inl c => (s.refuse b (bits (r.addr idx) 37 3) c
          { write := true, init := init, addr := r.addr idx, len := 4, data := [w % 2 ^ 32] }).2
      | .inr t => t := by
  unfold Pkg.regCmd
  rw [hs]
  simp only [Pkg.regCmdBy, Pkg.see_unwatched hu, Pkg.regWrite, hg, hw, ht]
  simp only [BusReq.die, Nat.zero_ne_one, if_false, if_true, OfNat.zero_ne_ofNat, Nat.add_zero, Bool.not_true, Bool.false_eq_true]
  rw [if_neg (by omega)] <;> rfl

/-- A command of the package's state leaves the queue and the fuses alone. -/
theorem becomes_onPkg {cmd : Instr} {st : State} {f : Pkg → Pkg} {p : Pkg} (he : exec cmd st = st.onPkg f) (h : f st.pkg = p) :
    Becomes cmd st p := by subst h; exact he

theorem becomes_onPkgF {cmd : Instr} {st : State} {f : Fuses → Pkg → Pkg} {p : Pkg} (he : exec cmd st = st.onPkgF f)
    (h : f st.fuses st.pkg = p) : Becomes cmd st p := by subst h; exact he

theorem yields_onPkg {cmd : Instr} {st : State} {f : Pkg → Pkg} {P : Pkg → Prop} (he : exec cmd st = st.onPkg f) (h : P (f st.pkg)) :
    Yields cmd st P := ⟨_, he, h⟩

theorem yields_onPkgF {cmd : Instr} {st : State} {f : Fuses → Pkg → Pkg} {P : Pkg → Prop} (he : exec cmd st = st.onPkgF f)
    (h : P (f st.fuses st.pkg)) : Yields cmd st P := ⟨_, he, h⟩

end Sys2Proof.Machine
end

