-- ==== Sys2Proof/Machine/Figures.lean ====
section
/-!
DEFINITION. The figures that the spec derives from a part, a depth or a load: counts per part (R4), clocks (R5), capacity (R2), the depth of an
instance (R9), hop latencies (R15-R17), the times and levels of an I/O cell (R221, R227, R468-R470) and the lands (R458, R459, R476).
-/
namespace Sys2Proof.Machine

/-! ## Counts per part (Table 3) -/

/-- Resources of one die: regions, clusters, BPs, cave banks, queue ports, lanes, I/O cells. -/
structure PerDie where
  regions : Nat
  clusters : Nat
  bps : Nat
  banks : Nat
  queues : Nat
  lanes : Nat
  cells : Nat
deriving DecidableEq, Repr

/-- What `n` dies hold (R4, Table 7). -/
def perDies (n : Nat) : PerDie :=
  { regions := 64 * n, clusters := 2048 * n, bps := 131072 * n, banks := 1024 * n, queues := 512 * n, lanes := 16 * n, cells := 128 * n }

/-- Leard bridges of a part: each joins two dies. -/
def Model.bridges (m : Model) : Nat :=
  ((List.range m.dies).flatMap fun d => (List.range 4).filter fun k => (m.neighbour d k).isSome).length / 2

/-- Largest number of bridges between two dies. -/
def Model.longest (m : Model) : Nat :=
  (List.range m.dies).foldl (fun x a => (List.range m.dies).foldl (fun x b => max x (hops m.cols a b)) x) 0

/-! ## Clocks (Table 4) -/

/-- Root PLL frequency in MHz, as the root runs. -/
def Pkg.rootMHz (s : Pkg) : Nat := if s.rootSlow then 4800 else 6000
/-- Step clock, management-processor clock, ring clock, and clock of Whey and the time unit, MHz. -/
def Pkg.stepMHz (s : Pkg) : Nat := s.rootMHz / 3
@[inherit_doc Pkg.stepMHz] def Pkg.mpMHz (s : Pkg) : Nat := s.rootMHz / 4
@[inherit_doc Pkg.stepMHz] def Pkg.ringMHz (s : Pkg) : Nat := s.rootMHz / 6
@[inherit_doc Pkg.stepMHz] def Pkg.wheyMHz (s : Pkg) : Nat := s.rootMHz / 12

/-- What `n` steps last, in picoseconds: half a nanosecond each, or 0.625 ns with the slow root (R1). -/
def Pkg.stepsPs (s : Pkg) (n : Nat) : Nat := n * (if s.rootSlow then 625 else 500)

/-! ## Capacity and depth (R2, R9) -/

/-- Gate equivalents of `bps` processors at depth `d`: 3 for each LUT-step. -/
def gateEquivalents (bps d : Nat) : Nat := 3 * bps * d

/-- BPs that the portable target uses on a part: 63 regions a die (R8, Table 5). -/
def Model.portableBPs (m : Model) : Nat := m.dies * 63 * 2048

/-- Depth of an instance by its path depth, its slot demand per package and the BPs it has there; none where the design must be split (R9). -/
def instDepth (path slots bps : Nat) : Option Nat :=
  let need := max 80 (max path ((slots + bps - 1) / bps))
  let d := (need + 7) / 8 * 8
  if d ≤ 1024 then some d else none

/-! ## Hop latencies (R15-R17) -/

/-- Where a BP lies: die, region and cluster. -/
structure BPPlace where
  die : Nat
  region : Nat
  cluster : Nat
deriving DecidableEq, Repr

/-- Steps from a write at one BP to an operand at another of the same package (Table 9, R16). -/
def Model.latency (m : Model) (a b : BPPlace) : Nat :=
  if a.die ≠ b.die then 6 * hops m.cols a.die b.die
  else if a.region ≠ b.region then 4
  else if a.cluster ≠ b.cluster then 2
  else 1

/-- Steps of a package hop in link mode `mode`, from die `a` through a port on die `p` to a port on die `q` of another package and die `b` (R17,
Table 135). -/
def packageLatency (m n : Model) (mode a p q b : Nat) : Nat := 6 * hops m.cols a p + modeH mode + 6 * hops n.cols q b

/-! ## I/O cells (Tables 114, 115, 118 and 231) -/

/-- Output impedance by DRIVE, ohms. -/
def driveOhms (drive : Nat) : Nat := [60, 48, 40, 34].getD drive 34

/-- Output delays of a cell in picoseconds. -/
structure CellDelay where
  coMin : Int
  coMax : Int
  ozMin : Int
  ozMax : Int
deriving DecidableEq, Repr

/-- Delays by SLEW at 10 pF with DRIVE 2 or 3 (Table 115). -/
def slewDelay (slew : Nat) : CellDelay :=
  [⟨1400, 4000, 1400, 4400⟩, ⟨900, 2500, 900, 2800⟩, ⟨600, 1600, 600, 1800⟩, ⟨400, 1000, 400, 1200⟩].getD slew ⟨400, 1000, 400, 1200⟩

/-- Delays by SLEW, DRIVE and a lumped load in pF (R221, R469); none for a load that is not specified. -/
def cellDelay (slew drive load : Nat) : Option CellDelay :=
  if load < 2 ∨ 50 < load then none
  else
    let x := slewDelay slew
    let low := [300, 150, 0, 0].getD drive 0
    let heavy := ((load - 10) * [70, 55, 45, 40].getD drive 40 : Nat)
    let light := ((10 - load) * 15 : Nat)
    some { coMin := x.coMin - light, coMax := x.coMax + low + heavy, ozMin := x.ozMin - light, ozMax := x.ozMax + low + heavy }

/-- Setup and hold of the sampling window in picoseconds for an input edge of `e` ps (R225, R470); none for an edge that is not specified. -/
def sampleWindow (e : Nat) : Option (Nat × Nat) :=
  if 5000 < e then none else some (400 + (e - 1000) / 2, 200 + (e - 1000) / 2)

/-- Pad-to-pad bounds at depth `d`: a captured change to the output, a pad change to the output at the least and at the most (Table 118). -/
def Pkg.padBounds (s : Pkg) (d : Nat) (x : CellDelay) : Int × Int × Int :=
  let t := s.stepsPs (d - 2)
  (t + x.coMax, 400 + t + x.coMin, s.stepsPs d + 400 + t + x.coMax)

/-- DC levels of a cell at a bank's VIO code (Tables 116 and 231): nominal supply, VIL max, VIH min and hysteresis in mV, IOL in mA, VOL max in mV. -/
structure CellLevels where
  vio  : Nat
  vil  : Nat
  vih  : Nat
  hyst : Nat
  iol  : Nat
  vol  : Nat
deriving DecidableEq, Repr

@[inherit_doc CellLevels] def cellLevels : Nat → Option CellLevels
  | 1 => some ⟨1200, 420, 780, 60, 6, 250⟩
  | 2 => some ⟨1500, 525, 975, 75, 8, 330⟩
  | 3 => some ⟨1800, 630, 1170, 90, 8, 330⟩
  | 4 => some ⟨2500, 700, 1700, 120, 12, 500⟩
  | 5 => some ⟨3300, 800, 2000, 150, 12, 500⟩
  | _ => none

/-- Current in microamperes at which VOL holds, by DRIVE (R468). -/
def CellLevels.volCurrent (x : CellLevels) (drive : Nat) : Nat := x.iol * 1000 * 34 / driveOhms drive

/-! ## Lands (Tables 225 and 226) -/

/-- Columns and rows of the land array. -/
def Model.landArray : Model → Nat × Nat
  | .gl2 => (90, 62) | .gl4 => (90, 90) | .gl8 => (128, 128)

/-- Lands of a part. -/
def Model.lands (m : Model) : Nat := m.landArray.1 * m.landArray.2

/-- Lands of the groups other than signals and GND: so many a die and so many a stack. -/
def Model.railLands (m : Model) : Nat := m.dies * (512 + 128 + 8 + 24 + 12 + 32 + 4 + 4) + m.stacks * (64 + 48 + 8)

/-- Signal lands of a part, ball by ball (Table 227). -/
def Model.signalLands (m : Model) : Nat :=
  m.dies * (128 + 16 * 4 + 4) + 9 + 4 + 67 * (if m = .gl8 then 2 else 1) + 8 + 1 + 4 + 1 + 5 + 5 + 6 + 2 + 1

/-- GND lands: the rest. -/
def Model.gndLands (m : Model) : Nat := m.lands - m.signalLands - m.railLands

/-- Socket load in newtons: 0.25 N a land (R476). -/
def Model.socketLoad (m : Model) : Nat := m.lands / 4

end Sys2Proof.Machine
end

