-- ==== Sys2Proof/Machine/Energy.lean ====
section
/-!
DEFINITION. Energy and power (R392-R395, R463, R464, R474): what an operation draws, the power of a package and its rails, and the junction of a
die. Energies are in femtojoules, powers in microwatts, currents in microamperes.
-/
namespace Sys2Proof.Machine

/-! ## Operations (Table 196) -/

/-- Energy of a BP step by CLASS: NOP, SEND, or any other. -/
def bpEnergy (cls : Nat) : Nat := if cls = 0 then 40 else if cls = 5 then 240 else 360

/-- A word instruction multiplies or divides: MUL to MACU, CMUL to CMACJ, FTAP, DIV0, DIVS. -/
def wordHeavy (opc : Nat) : Bool := (decide (0x20 ≤ opc) && decide (opc ≤ 0x2F)) || (decide (0x38 ≤ opc) && decide (opc ≤ 0x3B))

/-- Energy of a word-unit step by opcode. -/
def wordEnergy (opc : Nat) : Nat := if opc = 0 then 200 else if wordHeavy opc then 6000 else 2500

/-- Energy of one transition of an output cell with a load of `pf` pF at `mv` mV. -/
def padEnergy (pf mv : Nat) : Nat := (pf + 4) * mv * mv / 2000

/-- Operations of one major cycle: BP steps but SEND and NOP, SEND, NOP; word-unit steps that multiply or divide, other ones, WNOP; cave accesses
taken; HBM bytes. -/
structure CycleOps where
  lut   : Nat
  send  : Nat
  nop   : Nat
  heavy : Nat
  word  : Nat
  wnop  : Nat
  caves : Nat
  bytes : Nat
deriving DecidableEq, Repr

/-- Energy of the BP steps, the word-unit steps, the cave accesses and the HBM bytes of a cycle. -/
def CycleOps.bp (x : CycleOps) : Nat := x.lut * bpEnergy 1 + x.send * bpEnergy 5 + x.nop * bpEnergy 0
@[inherit_doc CycleOps.bp] def CycleOps.unit (x : CycleOps) : Nat := x.heavy * 6000 + x.word * 2500 + x.wnop * 200
@[inherit_doc CycleOps.bp] def CycleOps.cave (x : CycleOps) : Nat := x.caves * 4000
@[inherit_doc CycleOps.bp] def CycleOps.hbm (x : CycleOps) : Nat := x.bytes * 30000

/-- The BP steps of a cycle of instance `i`, as its frames hold them: those but SEND and NOP, SEND, and NOP. -/
def Pkg.cycleSteps (s : Pkg) (i : Nat) : Nat × Nat × Nat :=
  let d := s.depth i
  let l := (List.range d).flatMap fun t => s.slotWords i t
  let send := (l.filter fun e => bpClass e.2 == 5).length
  let nop := (l.filter fun e => bpClass e.2 == 0).length
  (l.length - send - nop, send, (s.regionsOf i).length * 2048 * d - l.length + nop)

/-! ## Power (R393-R395) -/

/-- Power of an energy spent once in each stall-free cycle of depth `d`. -/
def Pkg.cyclePower (s : Pkg) (d e : Nat) : Nat := e * 1000 / s.stepsPs d

/-- Power of a lane by its state and rate; one that has not trained yet draws full power (R394). -/
def Pkg.lanePower (s : Pkg) (l : Nat) : Nat :=
  match s.laneSt l with
  | .active | .train | .test => if s.g .LNK_LANE_STAT_RATE l = 2 ∨ s.g .LNK_LANE_STAT_RATE l = 3 then 350000 else 500000
  | .cal => 300000
  | .idle => 200000
  | .cold => 10000
  | .off | .fault => 5000

/-- Static power of a die with all regions on, by case temperature in °C, linear between the rows; none where Table 196 gives no figure. -/
def staticAll (t : Nat) : Option Nat :=
  if t < 25 ∨ 85 < t then none
  else if t ≤ 50 then some (28000000 + (t - 25) * 5000000 / 25)
  else if t ≤ 70 then some (33000000 + (t - 50) * 7000000 / 20)
  else some (40000000 + (t - 70) * 6000000 / 15)

/-- Regions of a die that are switched on. -/
def Pkg.poweredRegions (s : Pkg) (d : Nat) : Nat := ((List.range 64).filter fun g => s.pdState (d * 64 + g) != 3).length

/-- Static power of a die with `n` regions on, of figure `f` with all on (R394). -/
def staticPower (f n : Nat) : Nat := f * (13 * 64 + 87 * n) / 6400

/-- Fixed power of a die; of a package. -/
def dieFixed : Nat := 5500000
@[inherit_doc dieFixed] def Model.fixedPower (m : Model) : Nat := if m = .gl8 then 12000000 else 8000000

/-- The array terms of an instance of depth `d`. -/
def Pkg.arrayPower (s : Pkg) (d : Nat) (x : CycleOps) : Nat :=
  s.cyclePower d x.bp + s.cyclePower d x.unit + s.cyclePower d x.cave + s.cyclePower d x.hbm

/-- What the package draws whatever it executes: stacks, lanes, static and fixed power, at case temperature `t`. -/
def Pkg.restPower (s : Pkg) (t : Nat) : Option Nat :=
  (staticAll t).map fun f => s.part.model.stacks * 8000000 + ((List.range (s.part.model.dies * 16)).map s.lanePower).sum +
    (s.dies.map fun d => staticPower f (s.poweredRegions d)).sum + s.part.model.dies * dieFixed + s.part.model.fixedPower

/-- Power of a package that runs one instance of depth `d` without stalls, its output cells drawing `io` (R395). -/
def Pkg.packagePower (s : Pkg) (t d io : Nat) (x : CycleOps) : Option Nat := (s.restPower t).map fun r => r + s.arrayPower d x + io

/-! ## Rails (Tables 228 and 229) -/

/-- Power on the rails of a die: VDD_CORE, VDD_TIER, VDD_AUX, VDD_SD, VDDA_SD. -/
structure DieRails where
  core : Nat
  tier : Nat
  aux  : Nat
  sd   : Nat
  sda  : Nat
deriving DecidableEq, Repr

/-- Power of a die on its rails (R464): `bp`, `ops` and `hbm` are its power of BP steps, of word units and caves, and of the HBM bytes it moves, `lane`
that of its lanes and `stat` its static power. -/
def Model.dieRails (m : Model) (d bp ops hbm lane stat : Nat) : DieRails :=
  let (sd, sda) := if d = 0 then (4900000, 1600000) else if m = .gl8 ∧ d = 4 then (3800000, 1200000) else (0, 0)
  let aux := if d = 0 then m.fixedPower - 6500000 - (if m = .gl8 then 5000000 else 0) else 0
  { core := bp * 7 / 10 + ops + hbm / 3 + stat * 8 / 10 + 2800000, tier := bp * 3 / 10 + stat * 2 / 10, aux := 2700000 + aux
    sd := lane * 7 / 10 + sd, sda := lane * 3 / 10 + sda }

/-- Power of a stack on HBM_VDD, HBM_VDDQL and HBM_VPP, of the power `hbm` of the bytes it moves. -/
def stackRails (hbm : Nat) : Nat × Nat × Nat := (hbm * 16 / 30 + 6600000, hbm * 4 / 30, 1400000)

/-- Power of a die that its junction follows. -/
def DieRails.total (x : DieRails) : Nat := x.core + x.tier + x.aux + x.sd + x.sda

/-- Current of a power at a rail's nominal millivolts. -/
def railCurrent (power mv : Nat) : Nat := power * 1000 / mv

/-- The currents of a die lie within Table 228 (R463). -/
def Model.withinRails (m : Model) (d : Nat) (x : DieRails) : Bool :=
  decide (railCurrent x.core 750 ≤ 215000000) && decide (railCurrent x.tier 700 ≤ 55000000) &&
  decide (railCurrent x.aux 1800 ≤ if d = 0 then 2500000 else 1500000) &&
  decide (railCurrent x.sd 750 ≤ if d = 0 then 14000000 else if m = .gl8 ∧ d = 4 then 12600000 else 7500000) &&
  decide (railCurrent x.sda 1200 ≤ if d = 0 then 3400000 else if m = .gl8 ∧ d = 4 then 3000000 else 2000000)

/-- Highest junction temperature of a die in thousandths of a degree, at case temperature `t` in the same unit (R474). -/
def junction (t power : Nat) : Nat := t + power * 60 / 1000000

/-- Maximum package power (Table 1). -/
def Model.maxPower : Model → Nat
  | .gl2 => 480000000 | .gl4 => 900000000 | .gl8 => 1750000000

end Sys2Proof.Machine
end

