-- ==== Sys2Proof/Tests/Slice0.lean ====
section
/-!
SUPPORT. Tests: each check of well-formedness refuses an ill-formed command; every statement's hypotheses are met by named states, clause by clause; small
steps agree with values worked out by hand from the rules.
-/
open Sys2Proof Sys2Proof.Machine

namespace Sys2Proof.Tests

/-- A package with some register fields set, and something changed beside them. -/
def pk (l : List (Fld × Nat × Nat)) (f : Pkg → Pkg := id) : Pkg := f (Pkg.ps {} l)
/-- A state with no command waiting and no fuse blown. -/
def st (p : Pkg) : State := { pkg := p }

namespace Machine
def c0 : Instr := .masterLost
def s0 : State := { pending := [c0] }
def s1 : State := {}
def f0 : Fuses := {}
def u0 : WordUnit := { w := [(3, 10)], acc0 := 25, dh0 := true }
def u1 : WordUnit := { acc1 := 25 }
/-- The hypotheses of `Obligations.StepPerformsTheFrontCommand` are met: a command waits, and none does. -/
theorem witness_StepPerformsTheFrontCommand : s0.pending = c0 :: [] ∧ s1.pending = [] := by decide
/-- The hypotheses of `Obligations.FusesNeverUnblow` are met: a step from fuses that have grown from nothing blown. -/
theorem witness_FusesNeverUnblow : f0.growsTo s0.fuses ∧ ∃ t, step s0 = .next t :=
  ⟨⟨Nat.le_refl _, id, id, id, fun h => ⟨h, rfl, rfl⟩⟩, _, rfl⟩
/-- The hypothesis of `Obligations.FewCommandsReachTheFuses` is met. -/
theorem witness_FewCommandsReachTheFuses : ∃ t, exec c0 s1 = .next t := ⟨_, rfl⟩
/-- The hypotheses of `Obligations.SyndromesNameSingleErrors` are met: a data bit, a check bit, two bits, an even number of bits. -/
theorem witness_SyndromesNameSingleErrors : 4095 < 4096 ∧ 31 < 32 ∧ (0 < 4128 ∧ 4127 < 4128 ∧ 0 ≠ 4127) ∧
    ((∀ x ∈ [0, 1, 4096, 4127], x < 4128) ∧ [0, 1, 4096, 4127].length % 2 = 0) := by decide
/-- The hypotheses of `Obligations.WordUnitDivides` are met, clause by clause: a divisor of zero, one that divides, the divide hold set and clear, an
accumulator write, a quotient that fits and one that does not. -/
theorem witness_WordUnitDivides : (0 < 2 ∧ 3 ≤ 15 ∧ u0.w.at 3 < 2 ^ 16) ∧ (1 < 2 ∧ u1.w.at 0 < 2 ^ 16) ∧ u1.w.at 0 = 0 ∧
    (u0.w.at 3 ≠ 0 ∧ bits (u0.acc 0) 16 16 < u0.w.at 3) ∧ u0.dh0 = true ∧ u1.dh1 = false ∧
    ((wIns (0x20 * 2 ^ 42)).opc ∈ [0x20] ∧ codesOk (wIns (0x20 * 2 ^ 42)) = true ∧ predHolds (wIns (0x20 * 2 ^ 42)) 0 0 = true) ∧
    u1.w.at 0 ≤ bits (u1.acc 1) 16 16 := by decide +kernel
end Machine

namespace Array

def run0 : Pkg := pk [(.ARY_RUN_STAT_STATE, 0, 3), (.ARY_CFG_INFO_DEPTH, 0, 80)] fun s => { s with fab.regOwn := [(0, 1)] }
def at0 (st : Nat) : Pkg := pk [(.ARY_RUN_STAT_STATE, 0, st), (.ARY_CFG_INFO_DEPTH, 0, 80)] fun s => { s with fab.regOwn := [(0, 1)] }
def words (l : List Nat) (s : Pkg) : Pkg := { s with fab.instr := l.zipIdx.map fun e => (slotKey 0 (s.inst 0).step + e.2, e.1) }
def waitQ : Pkg := words [6] { run0 with que.port := [(0, { st := [(0, 2)] })] }
def flow0 : Pkg := { run0.ps [(.SCH_FLOW_STAT_OWNED, 0, 1), (.SCH_FLOW_STAT_STATE, 0, 1), (.SCH_FLOW_CFG_CALL, 0, 1)] with
  insts := [(0, { desc := { flowCount := 1 } })], fab.wu := [(0, { w := [(0, 1)] })],
  sch.flows := [(0, { out := [{ fseq := 0, slot := 0, words := [], inst := 0, call := true, mcc := 0, taken := 0 }], calls := [(0, true)] })] }
def waitC : Pkg := words [6 + 2 ^ 63] flow0
def bnd : Pkg := run0.updInst 0 fun x => { x with row := 1, step := 0 }
def ups0 (f : Inst → Inst) (s : Pkg) : Pkg := s.updInst 0 f

namespace ArrayStepsExecuteOrWait
def s0 : State := st run0
def s1 : State := st (at0 2)
def s3 : State := st waitQ
/-- The hypotheses of `Obligations.ArrayStepsExecuteOrWait` are met, clause by clause: `arrayStep`. -/
theorem witness_ArrayStepsExecuteOrWait :
    (s0.pkg.runs 0 = true ∧ (s0.pkg.inst 0).row = 0 ∧ s0.pkg.b .ARY_RUN_STAT_STALLING 0 = false ∧
      ((s0.due 0 ([] : List (Fin 32 × Fin 8 × BitVec 33)) ([] : List (BitVec 32 × List (Fin 4128)))).late 0).none = true) ∧
    (s3.pkg.runs 0 = true ∧ (s3.pkg.inst 0).row = 0 ∧
      ((s3.due 0 ([] : List (Fin 32 × Fin 8 × BitVec 33)) ([] : List (BitVec 32 × List (Fin 4128)))).late 0).none = false) ∧
    (s1.pkg.runs 0 = false) := by
  refine ⟨?_, ?_, ?_⟩ <;> decide +kernel
end ArrayStepsExecuteOrWait

namespace BpWritesItsResult
def s0 : State := st run0
/-- The hypotheses of `Obligations.BpWritesItsResult` are met, clause by clause: `arrayStep`. -/
theorem witness_BpWritesItsResult :
    (s0.pkg.runs 0 = true ∧ (s0.pkg.inst 0).row = 0 ∧ s0.pkg.b .ARY_RUN_STAT_STALLING 0 = false ∧
      (((s0.due 0 ([] : List (Fin 32 × Fin 8 × BitVec 33)) ([] : List (BitVec 32 × List (Fin 4128)))).bridgeFlips 0 (wrongBlocks ([] : List (Fin 32 × Fin 8 × BitVec 33)))).late 0).none = true ∧
      0 ∈ s0.pkg.regionsOf 0 ∧ 0 < 2048 ∧ (s0.pkg.inst 0).step < 1024) := by decide +kernel
end BpWritesItsResult

namespace StallsEnd
def s1 : State := st (run0.p .ARY_RUN_STAT_STALLING 0 1)
def s3 : State := st (run0.updInst 0 fun x => {x with row := 4})
def s4 : State := st (waitC.p .ARY_RUN_STAT_STALLING 0 1)
def s5 : State := st (waitC.ps [(.ARY_RUN_STAT_STALLING, 0, 1), (.ARY_CALL_TMO, 0, 0)])
/-- The hypotheses of `Obligations.StallsEnd` are met, clause by clause: `stallRelease`, `flowHoldRelease`, `callTimeout`. -/
theorem witness_StallsEnd :
    (s1.pkg.runs 0 = true ∧ s1.pkg.b .ARY_RUN_STAT_STALLING 0 = true ∧ (s1.pkg.late 0).none = true) ∧
    (s3.pkg.runs 0 = true ∧ (s3.pkg.inst 0).row = 4 ∧ s3.pkg.lacking 0 = []) ∧
    (s4.pkg.runs 0 = true ∧ s4.pkg.b .ARY_RUN_STAT_STALLING 0 = true ∧ (s4.pkg.late 0).call = true ∧ s4.pkg.g .ARY_CALL_TMO 0 ≠ 0) ∧
    (s5.pkg.runs 0 = true ∧ s5.pkg.b .ARY_RUN_STAT_STALLING 0 = true ∧ (s5.pkg.late 0).call = true ∧ s5.pkg.g .ARY_CALL_TMO 0 = 0) := by
  refine ⟨?_, ?_, ?_, ?_⟩ <;> decide +kernel
end StallsEnd

namespace BoundaryCountsAndStops
def s1 : State := st bnd
/-- The hypotheses of `Obligations.BoundaryCountsAndStops` are met, clause by clause: `majorCycleBoundary`. -/
theorem witness_BoundaryCountsAndStops :
    (s1.pkg.runs 0 = true ∧ (s1.pkg.inst 0).row = 1 ∧ s1.pkg.traced ≠ some 0 ∧ s1.pkg.g .DBG_INST_STAT_STEPPING 0 = 0 ∧
      (s1.pkg.inst 0).stopNow = false ∧ (s1.pkg.inst 0).cascCause = none) := by decide +kernel
end BoundaryCountsAndStops

namespace StartAndResume
def s0 : State := st run0
def s1 : State := st (at0 2)
def s6 : State := st ((at0 5).p .ARY_RUN_STAT_MID_CYCLE 0 1)
def s7 : State := st (ups0 (fun x => {x with begun := true}) (at0 4))
def s8 : State := st ((ups0 (fun x => {x with begun := true, row := 3}) flow0).p .ARY_RUN_STAT_STATE 0 4)
def s9 : State := st (ups0 (fun x => {x with begun := true}) (at0 5))
def s10 : State := st ((at0 5).ps [(.ARY_RUN_STAT_STOP_CAUSE,0,6),(.TRN_INST_STAT_BAD, 0, 1)])
/-- The hypotheses of `Obligations.StartAndResume` are met, clause by clause: `start`, `resume`. -/
theorem witness_StartAndResume :
    (s1.pkg.unwatched = true ∧ s1.pkg.runState 0 = .loaded ∧ (s1.pkg.resetting 0 || s1.pkg.relocating 0 || s1.pkg.patching 0) = false ∧
      (s1.pkg.inst 0).desc.cascade = false) ∧
    (s0.pkg.unwatched = true ∧ (s0.pkg.runState 0 ≠ .loaded ∨ (s0.pkg.resetting 0 || s0.pkg.relocating 0 || s0.pkg.patching 0) = true ∨
      (s0.pkg.inst 0).desc.cascade = true ∧ s0.pkg.isMaster = false)) ∧
    (s6.pkg.unwatched = true ∧ s6.pkg.runState 0 = .frozen ∧ s6.pkg.b .ARY_RUN_STAT_MID_CYCLE 0 = true ∧ s6.pkg.causeCleared 0 = true ∧
      (s6.pkg.resetting 0 || s6.pkg.relocating 0 || s6.pkg.patching 0) = false ∧ (s6.pkg.inst 0).desc.cascade = false ∧
      s6.pkg.g .TRN_INST_STAT_BAD 0 = 0) ∧
    (s8.pkg.unwatched = true ∧ s8.pkg.runState 0 = .paused ∧ s8.pkg.b .ARY_RUN_STAT_MID_CYCLE 0 = false ∧ (s8.pkg.inst 0).begun = true ∧
      (s8.pkg.inst 0).row ≠ 0 ∧ s8.pkg.lacking 0 ≠ [] ∧ (s8.pkg.resetting 0 || s8.pkg.relocating 0 || s8.pkg.patching 0) = false ∧
      (s8.pkg.inst 0).desc.cascade = false ∧ s8.pkg.g .TRN_INST_STAT_BAD 0 = 0) ∧
    (s7.pkg.unwatched = true ∧ s7.pkg.runState 0 = .paused ∧ s7.pkg.b .ARY_RUN_STAT_MID_CYCLE 0 = false ∧ (s7.pkg.inst 0).begun = true ∧
      s7.pkg.lacking 0 = [] ∧ (s7.pkg.resetting 0 || s7.pkg.relocating 0 || s7.pkg.patching 0) = false ∧ (s7.pkg.inst 0).desc.cascade = false ∧
      s7.pkg.g .TRN_INST_STAT_BAD 0 = 0) ∧
    (s9.pkg.unwatched = true ∧ s9.pkg.runState 0 = .frozen ∧ s9.pkg.b .ARY_RUN_STAT_MID_CYCLE 0 = false ∧ (s9.pkg.inst 0).begun = true ∧
      (s9.pkg.inst 0).row = 0 ∧ s9.pkg.causeCleared 0 = true ∧ (s9.pkg.resetting 0 || s9.pkg.relocating 0 || s9.pkg.patching 0) = false ∧
      (s9.pkg.inst 0).desc.cascade = false ∧ s9.pkg.g .TRN_INST_STAT_BAD 0 = 0) ∧
    (s10.pkg.unwatched = true ∧ s10.pkg.runState 0 = .frozen ∧ s10.pkg.causeCleared 0 = false ∧
      (s10.pkg.resetting 0 || s10.pkg.relocating 0 || s10.pkg.patching 0) = false ∧ (s10.pkg.inst 0).desc.cascade = false) ∧
    (s0.pkg.unwatched = true ∧ (s0.pkg.runState 0 ≠ .paused ∧ s0.pkg.runState 0 ≠ .frozen ∨
      (s0.pkg.resetting 0 || s0.pkg.relocating 0 || s0.pkg.patching 0) = true ∨ (s0.pkg.inst 0).desc.cascade = true ∧ s0.pkg.isMaster = false)) := by
  refine ⟨?_, ?_, ?_, ?_, ?_, ?_, ?_, ?_⟩ <;> decide +kernel
end StartAndResume

namespace PauseFreezeSnap
def s0 : State := st run0
def s1 : State := st (at0 2)
/-- The hypotheses of `Obligations.PauseFreezeSnap` are met, clause by clause: `pause`, `freeze`, `snap`. -/
theorem witness_PauseFreezeSnap :
    (s0.pkg.unwatched = true ∧ s0.pkg.runs 0 = true ∧ (s0.pkg.inst 0).desc.cascade = false) ∧
    (s0.pkg.unwatched = true ∧ s0.pkg.runs 0 = true ∧ (s0.pkg.inst 0).desc.cascade = false) ∧
    (s1.pkg.unwatched = true ∧ (s1.pkg.runs 0 = false ∨ (s1.pkg.inst 0).desc.cascade = true ∧ s1.pkg.isMaster = false)) ∧
    (s1.pkg.unwatched = true ∧ (s1.pkg.runs 0 = false ∨ (s1.pkg.inst 0).desc.cascade = true ∧ s1.pkg.isMaster = false)) ∧
    (s0.pkg.unwatched = true) := by
  refine ⟨?_, ?_, ?_, ?_, ?_⟩ <;> decide +kernel
end PauseFreezeSnap

end Array

namespace Windows

def at0 (n : Nat) : Pkg := pk [(.ARY_RUN_STAT_STATE, 0, n), (.ARY_CFG_INFO_DEPTH, 0, 80)] fun s => { s with fab.regOwn := [(0, 1), (64, 1)] }
def bk0 (n : Nat) : Pkg := (at0 n).ps [(.CAV_OWN_KIND, 0, 0), (.CAV_OWN_INST, 0, 0)]
def ups0 (f : Inst → Inst) (s : Pkg) : Pkg := s.updInst 0 f
def hbm0 (s : Pkg) : Pkg := s.ps [(.QUE_SEG_MAP_VALID, 0, 1), (.QUE_SEG_MAP_SEGMENT, 0, 8), (.QUE_SEG_MAP_STACK, 0, 0), (.QUE_SEG_OWN_KIND, 8, 1)]
def q0 : QReq := { entry := 3, kind := 0, addr := 64, data := 5 }
def reqs : List QReq := [q0, { q0 with kind := 1 }, { q0 with kind := 2 }, { q0 with orphan := true }, {q0 with kind := 2, sink := true}]
def qst (r : QReq) (n : Nat) : State :=
  st { hbm0 (at0 n) with que.port := [(0, { st := [(3, 2)], fly := [{ q0 with addr := 128, entry := 2 }, r], held := [r] })], que.hbm := [(8 * segBytes + 64, 0xFF#8), (8 * segBytes + 65, 1#8)] }
def msg (op inst flags : Nat) (args : List Nat) : Msg :=
  { seq := 0, op := op, prio := 0, inst := inst, flags := flags, args := args, tag := 0, order := 0 }
def cmd (j : Msg) (s : Pkg) : Pkg := { s.p .MBX_MP_STAT_STATE 0 2 with mbx := [(0, { run := [j] })] }
def vm0 (s : Pkg) : Pkg := s.ps [(.ARY_VMAP_REG_VALID, 0, 1), (.ARY_VMAP_USE, 0, 1), (.ARY_VMAP_CL, 0, 3)]
def relj : Msg := msg 0x22 0 0 [0,0,0,0,0,0,0,0,1,0,0,0,0,0,0,0]
def rl : Reloc := { cmd := (0, 0), vdie := 0, moves := [(0, 0, 5)] }

namespace WindowWritesLandOrAreRefused
def o0 : Option Nat := none
def of0 : Option (Fin 16) := none
def s0 : State := st (bk0 2)
def s3 : State := st (bk0 3)
/-- The hypotheses of `Obligations.WindowWritesLandOrAreRefused` are met, clause by clause: `dataStoreWrite`, `wuStateWrite`, `caveWindowWrite`. -/
theorem witness_WindowWritesLandOrAreRefused :
    (s0.pkg.unwatched = true ∧ 0 < s0.pkg.part.model.dies ∧ (∀ (j : Fin 16), of0 = some j → ↑j = 0) ∧ (s0.pkg.runState 0 = .loaded ∨
      s0.pkg.runState 0 = .paused ∨ s0.pkg.runState 0 = .frozen) ∧ 0 % 4 = 0 ∧ s0.pkg.regionOwner (0 * 64 + 0 / 524288) = some 0 ∧
      s0.pkg.powerState 0 (0 / 524288) = 0 ∧ s0.pkg.fab.junk.at (0 * 64 + 0 / 524288) ≠ 1) ∧
    (s0.pkg.unwatched = true ∧ 0 < s0.pkg.part.model.dies ∧ (∀ (j : Fin 16), of0 = some j → ↑j = 0) ∧ (s0.pkg.runState 0 = .loaded ∨
      s0.pkg.runState 0 = .paused ∨ s0.pkg.runState 0 = .frozen) ∧ 0 % 4 = 0 ∧ s0.pkg.regionOwner (0 * 64 + 0 / 131072) = some 0 ∧
      s0.pkg.powerState 0 (0 / 131072) = 0 ∧ s0.pkg.fab.junk.at (0 * 64 + 0 / 131072) ≠ 1 ∧
      wuRefuse (s0.pkg.wunit (0 * 2048 + 0 / 4096)) (0 % 4096) (mergeWord (wuRead (s0.pkg.wunit (0 * 2048 + 0 / 4096)) (0 % 4096)) 0 (match o0 with | none => 15 | some e => bits e 0 4)) = none) ∧
    (s0.pkg.unwatched = true ∧ 0 < s0.pkg.part.model.dies ∧ (∀ (j : Fin 16), of0 = some j → ↑j = 0) ∧ (s0.pkg.runState 0 = .loaded ∨
      s0.pkg.runState 0 = .paused ∨ s0.pkg.runState 0 = .frozen) ∧ 0 % 4 = 0 ∧ s0.pkg.bankOwn (0 * 1024 + 0 / 32768) = .inst 0 ∧
      s0.pkg.powerState 0 (0 / 524288) = 0 ∧ (0 < 8 ∨ 0 = 48 ∨ 0 = 49 ∨ 0 = 56)) ∧
    (s3.pkg.unwatched = true ∧ 0 < s3.pkg.part.model.dies ∧ s3.pkg.runState 0 = .running ∧ 0 % 4 = 0 ∧
      s3.pkg.regionOwner (0 * 64 + 0 / 524288) = some 0) ∧
    (s3.pkg.unwatched = true ∧ 0 < s3.pkg.part.model.dies ∧ s3.pkg.runState 0 = .running ∧ 0 % 4 = 0 ∧
      s3.pkg.regionOwner (0 * 64 + 0 / 131072) = some 0) ∧
    (s3.pkg.unwatched = true ∧ 0 < s3.pkg.part.model.dies ∧ s3.pkg.runState 0 = .running ∧ 0 % 4 = 0 ∧
      s3.pkg.bankOwn (0 * 1024 + 0 / 32768) = .inst 0) := by
  refine ⟨?_, ?_, ?_, ?_, ?_, ?_⟩ <;> decide +kernel
end WindowWritesLandOrAreRefused

namespace BridgesAlign
def s0 : State := st ((bk0 3).ps [(.XBR_BRG_STAT_ALIGNED, 0, 15), (.XBR_BRG_STAT_ALIGNED, 1, 15), (.XBR_OWN_VALID, 1, 2), (.XBR_OWN_BRG, 9, 0),
  (.MBX_MP_STAT_STATE, 0, 2)])
def s1 : State := st ((bk0 3).ps [(.MBX_MP_STAT_STATE, 0, 2)])
/-- The hypotheses of `Obligations.BridgesAlign` are met, clause by clause: `bridgeAlignmentLoss`, `bridgeRealignment`. -/
theorem witness_BridgesAlign :
    (s0.pkg.part.model.neighbour 0 1 = some 1 ∧ bit (s0.pkg.g .XBR_BRG_STAT_ALIGNED 0) 1 = true) ∧
    (s1.pkg.part.model.neighbour 0 1 = some 1 ∧ (∀ (j : Fin 8), s1.pkg.brgOwner 0 1 ↑j = none ∧ s1.pkg.brgOwner 1 (oppSide 1) ↑j = none) ∧
      s1.pkg.mpActs 0 = true) := by
  refine ⟨?_, ?_⟩ <;> decide +kernel
end BridgesAlign

namespace BanksAreHandedOver
def s0 : State := st (bk0 2)
def s1 : State := st (bk0 3)
def s2 : State := {}
def s3 : State := st (({} : Pkg).ps [(.CAV_OWN_PEND, 0, 1), (.CAV_OWN_KIND, 0, 2)])
def s4 : State := st ((at0 3).ps [(.CAV_OWN_PEND, 0, 1), (.CAV_OWN_KIND, 0, 0)])
def s6 : State := st { (bk0 3).ps [(.CAV_OWN_PEND, 0, 1), (.CAV_OWN_KIND, 0, 0)] with cav.oldOwn := [(0, 64 + 16)] }
/-- The hypotheses of `Obligations.BanksAreHandedOver` are met, clause by clause: `cavOwnWrite`, `handoverComplete`. -/
theorem witness_BanksAreHandedOver :
    (s0.pkg.unwatched = true ∧ 0 / 1024 < s0.pkg.part.model.dies ∧ s0.pkg.pdState (0 / 16) ≠ 1 ∧ (0 = 0 / 1024 ∨ 0 = 0) ∧
      (bits 0 4 2 = 0 → s0.pkg.regionOwner (0 / 16) = some (bits 0 0 4)) ∧ s0.pkg.bankOwn 0 = .inst 0 ∧ s0.pkg.runs 0 = false) ∧
    (s6.pkg.unwatched = true ∧ 0 / 1024 < s6.pkg.part.model.dies ∧ s6.pkg.pdState (0 / 16) ≠ 1 ∧ (0 = 0 / 1024 ∨ 0 = 0) ∧
      (bits 0 4 2 = 0 → s6.pkg.regionOwner (0 / 16) = some (bits 0 0 4)) ∧ s6.pkg.bankOwn 0 = .firmware) ∧
    (s1.pkg.unwatched = true ∧ 0 / 1024 < s1.pkg.part.model.dies ∧ s1.pkg.pdState (0 / 16) ≠ 1 ∧ s1.pkg.bankOwn 0 = .inst 0 ∧ s1.pkg.runs 0 = true ∧
      (bits 0 4 2 = 0 → s1.pkg.regionOwner (0 / 16) = some (bits 0 0 4))) ∧
    (s2.pkg.unwatched = true ∧ 0 / 1024 < s2.pkg.part.model.dies ∧ s2.pkg.pdState (0 / 16) ≠ 1 ∧ (0 = 0 / 1024 ∨ 0 = 0) ∧ bits 0 4 2 = 0 ∧
      s2.pkg.regionOwner (0 / 16) ≠ some (bits 0 0 4)) ∧
    (s0.pkg.unwatched = true ∧ 0 / 1024 < s0.pkg.part.model.dies ∧ s0.pkg.pdState (0 / 16) ≠ 1 ∧ 1 ≠ 0 / 1024 ∧ 1 ≠ 0) ∧
    (s3.pkg.g .CAV_OWN_PEND 0 = 1 ∧ ¬(s3.pkg.g .CAV_OWN_KIND 0 = 0 ∧ (s3.pkg.runs (s3.pkg.g .CAV_OWN_INST 0) = true ∨
      bit (s3.pkg.cav.oldOwn.at 0) 8 = true ∧ s3.pkg.b .ARY_RUN_STAT_MID_CYCLE (s3.pkg.g .CAV_OWN_INST 0) = true))) ∧
    (s4.pkg.g .CAV_OWN_PEND 0 = 1 ∧ s4.pkg.g .CAV_OWN_KIND 0 = 0 ∧ (s4.pkg.runs (s4.pkg.g .CAV_OWN_INST 0) = true ∨
      bit (s4.pkg.cav.oldOwn.at 0) 8 = true ∧ s4.pkg.b .ARY_RUN_STAT_MID_CYCLE (s4.pkg.g .CAV_OWN_INST 0) = true)) ∧
    (s0.pkg.g .CAV_OWN_PEND 0 = 0) := by
  refine ⟨?_, ?_, ?_, ?_, ?_, ?_, ?_, ?_⟩ <;> decide +kernel
end BanksAreHandedOver

namespace CaveAtomicsAct
def s0 : State := {}
def s1 : State := st (bk0 2)
/-- The hypotheses of `Obligations.CaveAtomicsAct` are met, clause by clause: `caveAtomAdd`, `caveAtomSwap`. -/
theorem witness_CaveAtomicsAct :
    (s0.pkg.unwatched = true ∧ 0 / 1024 < s0.pkg.part.model.dies ∧ s0.pkg.powerState (0 / 1024) (0 / 16 % 64) = 0 ∧
      ownerIs (s0.pkg.bankOwn 0) (0 / 1024) 0 = true ∧ s0.pkg.cav.oldOwn.at 0 = 0) ∧
    (s0.pkg.unwatched = true ∧ 0 / 1024 < s0.pkg.part.model.dies ∧ s0.pkg.powerState (0 / 1024) (0 / 16 % 64) = 0 ∧
      ownerIs (s0.pkg.bankOwn 0) (0 / 1024) 0 = true ∧ s0.pkg.cav.oldOwn.at 0 = 0) ∧
    (s1.pkg.unwatched = true ∧ 0 / 1024 < s1.pkg.part.model.dies ∧ s1.pkg.powerState (0 / 1024) (0 / 16 % 64) = 0 ∧
      ownerIs (s1.pkg.bankOwn 0) (0 / 1024) 0 = false) ∧
    (s1.pkg.unwatched = true ∧ 0 / 1024 < s1.pkg.part.model.dies ∧ s1.pkg.powerState (0 / 1024) (0 / 16 % 64) = 0 ∧
      ownerIs (s1.pkg.bankOwn 0) (0 / 1024) 0 = false) := by
  refine ⟨?_, ?_, ?_, ?_⟩ <;> decide +kernel
end CaveAtomicsAct

namespace MarchesRun
def s0 : State := {}
def s1 : State := st (bk0 2)
def s2 : State := st { ({} : Pkg).ps [(.CAV_MARCH_STAT_BUSY, 0, 1)] with cav.march := [(0, 2 ^ 17 + 3)] }
/-- The hypotheses of `Obligations.MarchesRun` are met, clause by clause: `marchStart`, `marchDone`. -/
theorem witness_MarchesRun :
    (s0.pkg.unwatched = true ∧ 0 / 64 < s0.pkg.part.model.dies ∧ s0.pkg.powerState (0 / 64) (0 % 64) = 0 ∧ s0.pkg.g .CAV_MARCH_STAT_BUSY 0 = 0 ∧
      (∀ b ∈ banksIn 0 0, s0.pkg.bankOwn b = .firmware ∧ s0.pkg.g .CAV_OWN_PEND b = 0)) ∧
    (s1.pkg.unwatched = true ∧ 0 / 64 < s1.pkg.part.model.dies ∧ s1.pkg.powerState (0 / 64) (0 % 64) = 0 ∧ s1.pkg.g .CAV_MARCH_STAT_BUSY 0 = 0 ∧
      (∃ b ∈ banksIn 0 1, s1.pkg.bankOwn b ≠ .firmware)) ∧
    (s2.pkg.cav.march.at 0 ≠ 0) := by
  refine ⟨?_, ?_, ?_⟩ <;> decide +kernel
end MarchesRun

namespace QueuePortsAndWindows
def qrList : List QReq := reqs
def lqr0 : List QReq := []
def qr0 : QReq := qrList[0]'(by decide +kernel)
def s0 : State := qst q0 3
def s2 : State := st {part.model := .gl2}
/-- The hypotheses of `Obligations.QueuePortsAndWindows` are met, clause by clause: `heldRequestSend`, `hbmAccessWindow`. -/
theorem witness_QueuePortsAndWindows :
    ((s0.pkg.qport 0).held = qr0 :: lqr0 ∧ (s0.pkg.qport 0).fly.length < 128) ∧
    (((s0.pkg.qport 1).held = [] ∨ 128 ≤ (s0.pkg.qport 1).fly.length)) ∧
    (0 < s0.pkg.part.model.stacks) ∧
    (s2.pkg.part.model.stacks ≤ 1) := by
  refine ⟨?_, ?_, ?_, ?_⟩ <;> decide +kernel
end QueuePortsAndWindows

namespace QueueResultsReturn
def qrList : List QReq := reqs
def sList : List State := (reqs.map fun r => qst r 3) ++ [qst q0 4]
def qr0 : QReq := qrList[0]'(by decide +kernel)
def s0 : State := sList.getD 0 {}
/-- The hypotheses of `Obligations.QueueResultsReturn` are met, clause by clause: `queueResultReturn`. -/
theorem witness_QueueResultsReturn :
    ((s0.pkg.qport 0).fly[1]? = some qr0 ∧ (∀ x ∈ (s0.pkg.qport 0).fly ++ (s0.pkg.qport 0).held, ¬(x.num < qr0.num ∧ x.inst = qr0.inst ∧
      x.addr / 32 = qr0.addr / 32)) ∧ (∀ j < 8, s0.pkg.sliceAddr qr0.inst (qr0.addr + j) = some (8 * segBytes + 64 + j)) ∧ qr0.kind < 3 ∧
      qr0.data < 2 ^ 64 ∧ Ecc.clean ≠ Ecc.uncorrectable) ∧
    ((s0.pkg.qport 0).fly[1]? = some qr0 ∧ (∀ x ∈ (s0.pkg.qport 0).fly ++ (s0.pkg.qport 0).held, ¬(x.num < qr0.num ∧ x.inst = qr0.inst ∧
      x.addr / 32 = qr0.addr / 32)) ∧ (∀ j < 8, s0.pkg.sliceAddr qr0.inst (qr0.addr + j) = some (8 * segBytes + 64 + j)) ∧ qr0.kind < 3 ∧
      qr0.data < 2 ^ 64 ∧ qr0.orphan = false ∧ qr0.sink = false ∧ qr0.inst < 16) := by
  refine ⟨?_, ?_⟩ <;> decide +kernel
end QueueResultsReturn

namespace SegmentsAndScrubAct
def s0 : State := {}
def s1 : State := st {part.model := .gl2}
/-- The hypotheses of `Obligations.SegmentsAndScrubAct` are met, clause by clause: `segOwnWrite`, `patrolScrubRead`. -/
theorem witness_SegmentsAndScrubAct :
    (s0.pkg.unwatched = true ∧ 0 = 0 ∧ (8 ≤ 0 ∨ bits 69 4 3 = 4) ∧ 0 < s0.pkg.part.model.stacks * 144) ∧
    (s0.pkg.unwatched = true ∧ (0 ≠ 0 ∨ 0 < 8 ∧ bits 0 4 3 ≠ 4)) ∧
    (s1.pkg.unwatched = true ∧ 0 = 0 ∧ 8 ≤ 144 ∧ s1.pkg.part.model.stacks * 144 ≤ 144) ∧
    (0 < s0.pkg.part.model.stacks ∧ 0 / 32 * 32 < stackBytes) ∧
    (0 < s0.pkg.part.model.stacks ∧ 0 / 32 * 32 < stackBytes) ∧
    (0 < s0.pkg.part.model.stacks ∧ 0 / 32 * 32 < stackBytes) := by
  refine ⟨?_, ?_, ?_, ?_, ?_, ?_⟩ <;> decide +kernel
end SegmentsAndScrubAct

namespace RegionsRelocate
def j0 : Msg := relj
def l1 : List (Nat × Nat) := [(0, 1)]
def r0 : Reloc := rl
def s0 : State := st (cmd relj (vm0 (at0 3)))
def s1 : State := st (cmd relj (ups0 (fun x => {x with desc := {dies := [0]}}) (vm0 (at0 2))))
def s2 : State := st { vm0 (at0 2) with reloc := [(0, some rl)], mbx := [(0, { run := [{relj with started := true}] })] }
/-- The hypotheses of `Obligations.RegionsRelocate` are met, clause by clause: `relocate`, `relocationSwitch`. -/
theorem witness_RegionsRelocate :
    (s0.pkg.take 0 0 34 = some j0 ∧ s0.pkg.mpTakes 0 0 j0 = true ∧ j0.flags < 2 ∧ j0.arg 8 8 ≠ 0 ∧ j0.inst < 16 ∧ s0.pkg.resetting j0.inst = false ∧
      s0.pkg.relocatable j0.inst = false) ∧
    (s1.pkg.take 0 0 34 = some j0 ∧ s1.pkg.mpTakes 0 0 j0 = true ∧ j0.flags = 0 ∧ j0.arg 0 1 = 0 ∧ j0.arg 8 8 = 2 ^ 0 ∧ 0 < 64 ∧ j0.inst < 16 ∧
      s1.pkg.relocatable j0.inst = true ∧ s1.pkg.physRegion j0.inst 0 0 = some 0 ∧ s1.pkg.relocTargets j0.inst 0 [(0, 0)] false j0 = some l1 ∧
      (∀ n < 8, (s1.pkg.qport (0 * 8 + n)).fly = [] ∧ (s1.pkg.qport (0 * 8 + n)).held = [])) ∧
    (Store.get none s2.pkg.reloc 0 = some r0) ∧
    (Store.get none s2.pkg.reloc 0 = some r0 ∧
      (List.map (fun (x : ℕ × ℕ × ℕ) => x.2.1) r0.moves ++ List.map (fun (x : ℕ × ℕ × ℕ) => x.2.2) r0.moves).Nodup) := by
  refine ⟨?_, ?_, ?_, ?_⟩ <;> decide +kernel
end RegionsRelocate

end Windows

namespace Streams

def at0 (n : Nat) : Pkg := pk [(.ARY_RUN_STAT_STATE, 0, n), (.ARY_CFG_INFO_DEPTH, 0, 80), (.ARY_CFG_INFO_EDGE_LEN, 0,
  2)] fun s => { s with fab.regOwn := [(0, 1)] }
def msg (op inst flags : Nat) (args : List Nat) : Msg :=
  { seq := 0, op := op, prio := 0, inst := inst, flags := flags, args := args, tag := 0, order := 0 }
def cmd (j : Msg) (s : Pkg) : Pkg := { s.p .MBX_MP_STAT_STATE 0 2 with mbx := [(0, { run := [j] })] }
def hd : StreamHdr :=
  { magic := 0x59425453, version := 0x0200, keysrc := 2, gen := 1, nonce := 0, npkg := 1, master := 0, flags := 1, stream := 7, pkgs := [(0, 0, 1, 2)] }
def hd2 : StreamHdr := { hd with npkg := 2, pkgs := [(0, 0, 1, 2), (1, 0, 1, 2)] }
def ent (e : Nat × Nat × Nat × Nat) : List Nat := [e.1, e.2.1] ++ leVals e.2.2.1 2 ++ leVals e.2.2.2 4
def hdrRaw (h : StreamHdr) : List Nat := (leVals h.magic 4 ++ leVals h.version 2 ++ [h.keysrc, h.gen] ++ leVals h.nonce 8 ++ [h.npkg, h.master,
  h.flags] ++ leVals h.rsv 5 ++ leVals h.stream 8 ++ h.pkgs.flatMap ent ++ List.replicate (8 * (64 - h.pkgs.length)) 0)
def hdrB (key : Nat) (h : StreamHdr) : List (BitVec 8) :=
  let b := hdrRaw h; (b ++ gcmTag (roundKeys (keyBytes key)) (streamIv h.nonce 0xFF 0) b []).map (BitVec.ofNat 8)
def rec0 : List Nat := leVals 0x0002 2 ++ [0, 0] ++ leVals 16 4 ++ leVals 0 8 ++ leVals 1 8 ++ leVals 1 8
def chk (magic pkg die counter flags rsv : Nat) (plain : List Nat) (ulen : Nat) (content : Option (List (BitVec 8))) (bad : Bool) : ChunkData :=
  let hd := leVals magic 2 ++ [pkg, die] ++ leVals counter 4 ++ leVals plain.length 4 ++ leVals ulen 4 ++ [flags] ++ leVals rsv 15
  let rk := roundKeys (keyBytes 0)
  let iv := streamIv 0 pkg counter
  let d := gcmCrypt rk iv plain
  { head := hd.map (BitVec.ofNat 8), data := d.map (BitVec.ofNat 8), tag := (gcmTag rk iv (if bad then 1 :: hd else hd) d).map (BitVec.ofNat 8), content := content }
def ch := chk 0x4B43 0 255 1 0 0 rec0 32 none false
def ld (v : Nat) (secs : List Section) (s : Pkg) : Pkg :=
  { s with load := { active := true, hdr := some hd, sections := 1, chunks := 2, die := some v, secs := secs } }
def sec : Section := { inst := 0, patch := false, records := 1, depth := 80 }
def x0 : ImgDesc :=
  { depth := 80, edgeLen := 1, vrows := 1, vcols := 1, flags := 0, hbmSegs := 1, ioBanks := 1, ports := 1, flowBase := 0, flowCount := 1, pin := List.replicate 8 0xFF, pairs := [], regions := [(0, 0, 3, 0)] }
def rh : RecHdr := { inst := 0, len := 16 }
def mp0 (s : Pkg) : Pkg := s.p .MBX_MP_STAT_STATE 0 2
def vm0 (s : Pkg) : Pkg :=
  { s.ps [(.ARY_VMAP_REG_VALID, 0, 1), (.ARY_VMAP_USE, 0, 0xFFFFFFFF), (.ARY_VMAP_BANK, 0, 3), (.ARY_VMAP_CL, 0, 3),(.CAV_OWN_KIND,0,0)] with insts := [(0, {desc := {dies := [0]}})] }
def itr (fr : Nat) : Nat := ({ cls := .itr, die := 0, region := 0, cluster := 0, bp := 5, frame := fr : FAddr }).code
def frx (fr : Nat) : FAddr := { cls := .itr, die := 0, region := 0, cluster := 0, bp := 5, frame := fr }

namespace LoadsBegin
def j0 : Msg := msg 0x10 0 0 (List.replicate 16 0)
def j1 : Msg := msg 0x10 0 1 (List.replicate 16 0)
def s0 : State := st (cmd (msg 0x10 0 0 (List.replicate 16 0)) (at0 2))
def s1 : State := st (cmd (msg 0x10 0 1 (List.replicate 16 0)) {at0 2 with load := {active := true}})
def s2 : State := st (cmd (msg 0x10 0 0 (List.replicate 16 0)) {at0 2 with part.bscanCe := true})
/-- The hypotheses of `Obligations.LoadsBegin` are met, clause by clause: `load`. -/
theorem witness_LoadsBegin :
    (s0.pkg.take 0 0 16 = some j0 ∧ s0.pkg.mpTakes 0 0 j0 = true ∧ s0.pkg.load.active = false ∧ s0.pkg.part.bscanCe = false) ∧
    (s1.pkg.take 0 0 16 = some j1 ∧ s1.pkg.mpTakes 0 0 j1 = true ∧ s1.pkg.load.active = true) ∧
    (s2.pkg.take 0 0 16 = some j0 ∧ s2.pkg.mpTakes 0 0 j0 = true ∧ s2.pkg.load.active = false ∧ s2.pkg.part.bscanCe = true) := by
  refine ⟨?_, ?_, ?_⟩ <;> decide +kernel
end LoadsBegin

namespace HeadersAreChecked
def lbvList : List (List (BitVec 8)) :=
  (([hd, hd2, {hd with magic := 1}, {hd with version := 0x0100}, {hd with keysrc := 1}, {hd with keysrc := 0}, {hd with keysrc := 3}, {hd with npkg := 2}, {hd2 with master := 1}, {hd with rsv := 1}, {hd with gen := 0}].map fun h => hdrB (if h.keysrc = 2 then 5 else 0) h) ++ [hdrB 7 hd,
  hdrB 1 {hd with keysrc := 0}])
def lbv0 : List (BitVec 8) := lbvList[0]'(by decide +kernel)
def lbv2 : List (BitVec 8) := lbvList[2]'(by decide +kernel)
def lbv5 : List (BitVec 8) := lbvList[5]'(by decide +kernel)
def lbv7 : List (BitVec 8) := lbvList[7]'(by decide +kernel)
def lbv11 : List (BitVec 8) := lbvList[11]'(by decide +kernel)
def s0 : State := st (mp0 {load := {active := true}})
def s1 : State := {pkg := mp0 {load := {active := true}, slotA := {ok := true, key := 5, kcv := 5}}, fuses := {keyOk := true, gen := 1}}
def s2 : State := {pkg := mp0 {load := {active := true}}, fuses := {gen := 2}}
def s3 : State := {pkg := mp0 {load := {active := true}, part := {pkgId := 3, masterSel := false}}}
def s4 : State := st {load := {active := true}}
def v0 : Nat × Nat × Nat × Nat := (0, 0, 1, 2)
/-- The hypotheses of `Obligations.HeadersAreChecked` are met, clause by clause: `streamHeader`. -/
theorem witness_HeadersAreChecked :
    (s4.pkg.load.active = true ∧ s4.pkg.load.hdr = none ∧ s4.pkg.loadersAct = false) ∧
    (s1.pkg.load.active = true ∧ s1.pkg.load.hdr = none ∧ s1.pkg.loadersAct = true ∧
      (StreamHdr.ofBytes (List.map BitVec.toNat lbv0)).magic = 1497519187 ∧ ((StreamHdr.ofBytes (List.map BitVec.toNat lbv0)).version = 512 ∨
      (StreamHdr.ofBytes (List.map BitVec.toNat lbv0)).version = 256) ∧ (StreamHdr.ofBytes (List.map BitVec.toNat lbv0)).keysrc < 3 ∧
      s1.pkg.keyUsable s1.fuses (StreamHdr.ofBytes (List.map BitVec.toNat lbv0)).keysrc = true ∧
      headerTag (s1.pkg.keyOf s1.fuses (StreamHdr.ofBytes (List.map BitVec.toNat lbv0)).keysrc) (List.map BitVec.toNat lbv0) = true ∧
      s1.pkg.tableOk (StreamHdr.ofBytes (List.map BitVec.toNat lbv0)) = true ∧
      List.find? (fun (e : ℕ × ℕ × ℕ × ℕ) => e.1 == s1.pkg.part.pkgId) (StreamHdr.ofBytes (List.map BitVec.toNat lbv0)).pkgs = some v0 ∧
      s1.fuses.gen ≤ (StreamHdr.ofBytes (List.map BitVec.toNat lbv0)).gen) ∧
    (s3.pkg.load.active = true ∧ s3.pkg.load.hdr = none ∧ s3.pkg.loadersAct = true ∧
      (StreamHdr.ofBytes (List.map BitVec.toNat lbv5)).magic = 1497519187 ∧ ((StreamHdr.ofBytes (List.map BitVec.toNat lbv5)).version = 512 ∨
      (StreamHdr.ofBytes (List.map BitVec.toNat lbv5)).version = 256) ∧ (StreamHdr.ofBytes (List.map BitVec.toNat lbv5)).keysrc < 3 ∧
      s3.pkg.keyUsable s3.fuses (StreamHdr.ofBytes (List.map BitVec.toNat lbv5)).keysrc = true ∧
      headerTag (s3.pkg.keyOf s3.fuses (StreamHdr.ofBytes (List.map BitVec.toNat lbv5)).keysrc) (List.map BitVec.toNat lbv5) = true ∧
      s3.pkg.tableOk (StreamHdr.ofBytes (List.map BitVec.toNat lbv5)) = true ∧
      List.find? (fun (e : ℕ × ℕ × ℕ × ℕ) => e.1 == s3.pkg.part.pkgId) (StreamHdr.ofBytes (List.map BitVec.toNat lbv5)).pkgs = none) ∧
    (s0.pkg.load.active = true ∧ s0.pkg.load.hdr = none ∧ s0.pkg.loadersAct = true ∧
      ¬((StreamHdr.ofBytes (List.map BitVec.toNat lbv2)).magic = 1497519187 ∧ ((StreamHdr.ofBytes (List.map BitVec.toNat lbv2)).version = 512 ∨
      (StreamHdr.ofBytes (List.map BitVec.toNat lbv2)).version = 256) ∧ (StreamHdr.ofBytes (List.map BitVec.toNat lbv2)).keysrc < 3)) ∧
    (s0.pkg.load.active = true ∧ s0.pkg.load.hdr = none ∧ s0.pkg.loadersAct = true ∧
      (StreamHdr.ofBytes (List.map BitVec.toNat lbv0)).magic = 1497519187 ∧ ((StreamHdr.ofBytes (List.map BitVec.toNat lbv0)).version = 512 ∨
      (StreamHdr.ofBytes (List.map BitVec.toNat lbv0)).version = 256) ∧ (StreamHdr.ofBytes (List.map BitVec.toNat lbv0)).keysrc < 3 ∧
      ¬s0.pkg.keyUsable s0.fuses (StreamHdr.ofBytes (List.map BitVec.toNat lbv0)).keysrc = true) ∧
    (s1.pkg.load.active = true ∧ s1.pkg.load.hdr = none ∧ s1.pkg.loadersAct = true ∧
      (StreamHdr.ofBytes (List.map BitVec.toNat lbv11)).magic = 1497519187 ∧ ((StreamHdr.ofBytes (List.map BitVec.toNat lbv11)).version = 512 ∨
      (StreamHdr.ofBytes (List.map BitVec.toNat lbv11)).version = 256) ∧ (StreamHdr.ofBytes (List.map BitVec.toNat lbv11)).keysrc < 3 ∧
      s1.pkg.keyUsable s1.fuses (StreamHdr.ofBytes (List.map BitVec.toNat lbv11)).keysrc = true ∧
      headerTag (s1.pkg.keyOf s1.fuses (StreamHdr.ofBytes (List.map BitVec.toNat lbv11)).keysrc) (List.map BitVec.toNat lbv11) = false) ∧
    (s1.pkg.load.active = true ∧ s1.pkg.load.hdr = none ∧ s1.pkg.loadersAct = true ∧
      (StreamHdr.ofBytes (List.map BitVec.toNat lbv7)).magic = 1497519187 ∧ ((StreamHdr.ofBytes (List.map BitVec.toNat lbv7)).version = 512 ∨
      (StreamHdr.ofBytes (List.map BitVec.toNat lbv7)).version = 256) ∧ (StreamHdr.ofBytes (List.map BitVec.toNat lbv7)).keysrc < 3 ∧
      s1.pkg.keyUsable s1.fuses (StreamHdr.ofBytes (List.map BitVec.toNat lbv7)).keysrc = true ∧
      headerTag (s1.pkg.keyOf s1.fuses (StreamHdr.ofBytes (List.map BitVec.toNat lbv7)).keysrc) (List.map BitVec.toNat lbv7) = true ∧
      s1.pkg.tableOk (StreamHdr.ofBytes (List.map BitVec.toNat lbv7)) = false) ∧
    (s2.pkg.load.active = true ∧ s2.pkg.load.hdr = none ∧ s2.pkg.loadersAct = true ∧
      (StreamHdr.ofBytes (List.map BitVec.toNat lbv5)).magic = 1497519187 ∧ ((StreamHdr.ofBytes (List.map BitVec.toNat lbv5)).version = 512 ∨
      (StreamHdr.ofBytes (List.map BitVec.toNat lbv5)).version = 256) ∧ (StreamHdr.ofBytes (List.map BitVec.toNat lbv5)).keysrc < 3 ∧
      s2.pkg.keyUsable s2.fuses (StreamHdr.ofBytes (List.map BitVec.toNat lbv5)).keysrc = true ∧
      headerTag (s2.pkg.keyOf s2.fuses (StreamHdr.ofBytes (List.map BitVec.toNat lbv5)).keysrc) (List.map BitVec.toNat lbv5) = true ∧
      s2.pkg.tableOk (StreamHdr.ofBytes (List.map BitVec.toNat lbv5)) = true ∧
      List.find? (fun (e : ℕ × ℕ × ℕ × ℕ) => e.1 == s2.pkg.part.pkgId) (StreamHdr.ofBytes (List.map BitVec.toNat lbv5)).pkgs = some v0 ∧
      (StreamHdr.ofBytes (List.map BitVec.toNat lbv5)).gen < s2.fuses.gen) := by
  refine ⟨?_, ?_, ?_, ?_, ?_, ?_, ?_, ?_⟩ <;> decide +kernel
end HeadersAreChecked

namespace ChunksAreTaken
def cd0 : ChunkData := ch
def cd2 : ChunkData := chk 0x4B43 1 255 1 0 0 rec0 32 none false
def s0 : State := st (mp0 (ld 8 [] (at0 2)))
def s1 : State := st (mp0 { ld 8 [] (at0 2) with load.next := 2 })
def s2 : State := st (ld 8 [] (at0 2))
def sh0 : StreamHdr := hd
/-- The hypotheses of `Obligations.ChunksAreTaken` are met, clause by clause: `chunk`. -/
theorem witness_ChunksAreTaken :
    (s2.pkg.load.active = true ∧ s2.pkg.load.hdr = some sh0 ∧ cd0.hdr.magic = 19267 ∧ cd0.hdr.pkg < 64 ∧ s2.pkg.loadersAct = false) ∧
    (s0.pkg.load.active = true ∧ s0.pkg.load.hdr = some sh0 ∧ cd0.hdr.magic = 19267 ∧ cd0.hdr.pkg < 64 ∧ s0.pkg.loadersAct = true ∧
      cd0.hdr.pkg = s0.pkg.part.pkgId ∧ s0.pkg.chunkCheck sh0.nonce cd0 = 0) ∧
    (s0.pkg.load.active = true ∧ s0.pkg.load.hdr = some sh0 ∧ cd2.hdr.magic = 19267 ∧ cd2.hdr.pkg < 64 ∧ s0.pkg.loadersAct = true ∧
      cd2.hdr.pkg ≠ s0.pkg.part.pkgId) ∧
    (s1.pkg.load.active = true ∧ s1.pkg.load.hdr = some sh0 ∧ cd0.hdr.magic = 19267 ∧ cd0.hdr.pkg < 64 ∧ s1.pkg.loadersAct = true ∧
      cd0.hdr.pkg = s1.pkg.part.pkgId ∧ s1.pkg.chunkCheck sh0.nonce cd0 ≠ 0) := by
  refine ⟨?_, ?_, ?_, ?_⟩ <;> decide +kernel
end ChunksAreTaken

namespace SectionsOpenAndClose
def sList : List State := ([st (ld 8 [] {}), st (ld 8 [] {boot := {bad := [0]}}), st (ld 8 [] (at0 2)), st (ld 255 [] (at0 4)),
  st (ld 8 [sec] (at0 1)), st (ld 8 [{sec with frames := 2}] (at0 1))].map fun s => { s with pkg := mp0 s.pkg })
def placedList : List Placed := ([x0, {x0 with pin := [7, 0xFF, 0xFF, 0xFF, 0xFF, 0xFF, 0xFF, 0xFF]},
  {x0 with vrows := 2, vcols := 4, regions := [(0,0,3,0),(7,5,0,0)], pairs := [(0,1,1)]}].filterMap fun x => (({} : Pkg).place x))
def pList : List Pkg := ([x0, {x0 with pin := [7, 0xFF, 0xFF, 0xFF, 0xFF, 0xFF, 0xFF, 0xFF]},
  {x0 with vrows := 2, vcols := 4, regions := [(0,0,3,0),(7,5,0,0)], pairs := [(0,1,1)]}].filterMap fun x => let s := mp0 (ld 8 [] {}); let u := ((s.clearInst 0).p .ARY_RUN_STAT_STOP_CAUSE 0 0).setRun 0 .loading; (u.place x).bind fun pl => u.claim 0 x pl)
def id0 : ImgDesc := x0
def id4 : ImgDesc := {x0 with vcols := 2, pin := List.replicate 8 3}
def p0 : Pkg := pList[0]'(by decide +kernel)
def placed0 : Placed := placedList[0]'(by decide +kernel)
def rh0 : RecHdr := rh
def rh2 : RecHdr := {rh with len := 0}
def s0 : State := sList.getD 0 {}
def s2 : State := sList.getD 2 {}
def s4 : State := sList.getD 4 {}
def sec0 : Section := sec
/-- The hypotheses of `Obligations.SectionsOpenAndClose` are met, clause by clause: `sectionBegin`, `patchBegin`, `sectionEnd`. -/
theorem witness_SectionsOpenAndClose :
    (s0.pkg.load.active = true ∧ s0.pkg.loadersAct = true ∧ s0.pkg.load.die = some 8 ∧ 8 ≤ 8 ∧ rh0.inst < 16 ∧ rh0.rsv = 0 ∧ rh0.len % 8 = 0 ∧
      rh0.addr = 0 ∧ s0.pkg.secBad rh0.inst false = false ∧
      descBad id0 ((Option.map (fun (x : StreamHdr) => x.version) s0.pkg.load.hdr).getD 512) = false ∧ s0.pkg.runState rh0.inst = .unloaded ∧
      (((s0.pkg.clearInst rh0.inst).p .ARY_RUN_STAT_STOP_CAUSE rh0.inst 0).setRun rh0.inst .loading).place id0 = some placed0 ∧
      (((s0.pkg.clearInst rh0.inst).p .ARY_RUN_STAT_STOP_CAUSE rh0.inst 0).setRun rh0.inst .loading).absentDie id0 = false ∧
      (((s0.pkg.clearInst rh0.inst).p .ARY_RUN_STAT_STOP_CAUSE rh0.inst 0).setRun rh0.inst .loading).taken id0 = false ∧
      (((s0.pkg.clearInst rh0.inst).p .ARY_RUN_STAT_STOP_CAUSE rh0.inst 0).setRun rh0.inst .loading).claim rh0.inst id0 placed0 = some p0) ∧
    (s0.pkg.load.active = true ∧ s0.pkg.loadersAct = true ∧ s0.pkg.load.die = some 8 ∧ 8 ≤ 8 ∧ rh0.inst < 16 ∧ rh0.rsv = 0 ∧ rh0.len % 8 = 0 ∧
      rh0.addr = 0 ∧ s0.pkg.secBad rh0.inst false = false ∧
      descBad id4 ((Option.map (fun (x : StreamHdr) => x.version) s0.pkg.load.hdr).getD 512) = false ∧ s0.pkg.runState rh0.inst = .unloaded ∧
      (((s0.pkg.clearInst rh0.inst).p .ARY_RUN_STAT_STOP_CAUSE rh0.inst 0).setRun rh0.inst .loading).place id4 = none) ∧
    (s2.pkg.load.active = true ∧ s2.pkg.loadersAct = true ∧ s2.pkg.load.die = some 8 ∧ 8 ≤ 8 ∧ rh2.inst < 16 ∧ rh2.rsv = 0 ∧ rh2.len = 0 ∧
      rh2.addr < 2 ∧ s2.pkg.secBad rh2.inst true = false ∧ (s2.pkg.runState rh2.inst = .loaded ∨ s2.pkg.runState rh2.inst = .paused ∨
      s2.pkg.runState rh2.inst = .frozen) ∧ s2.pkg.relocating rh2.inst = false ∧ s2.pkg.resetting rh2.inst = false ∧
      (s2.pkg.inst rh2.inst).startAt = none) ∧
    (s4.pkg.load.active = true ∧ s4.pkg.loadersAct = true ∧ s4.pkg.loadersAct = true ∧ s4.pkg.load.active = true ∧ s4.pkg.load.die = some 8 ∧
      rh0.inst < 16 ∧ rh0.rsv = 0 ∧ List.find? (fun (y : Section) => y.inst == rh0.inst) s4.pkg.load.secs = some sec0 ∧ sec0.closed = false ∧ 8 ≤ 8 ∧
      rh0.len = 16 ∧ rh0.addr = 0 ∧ 0 = sec0.frames ∧ 1 = sec0.records) ∧
    (s4.pkg.load.active = true ∧ s4.pkg.loadersAct = true ∧ s4.pkg.loadersAct = true ∧ s4.pkg.load.active = true ∧ s4.pkg.load.die = some 8 ∧
      rh0.inst < 16 ∧ rh0.rsv = 0 ∧ List.find? (fun (y : Section) => y.inst == rh0.inst) s4.pkg.load.secs = some sec0 ∧ sec0.closed = false ∧ 8 ≤ 8 ∧
      rh0.len = 16 ∧ (0 ≠ sec0.frames ∨ 0 ≠ sec0.records)) := by
  refine ⟨?_, ?_, ?_, ?_, ?_⟩ <;> decide +kernel
end SectionsOpenAndClose

namespace FramesAndCavesLand
def fa0 : FAddr := frx 0
def fa2 : FAddr := {frx 0 with cluster := 3}
def lbv0 : List (BitVec 16) := [1, 2, 3, 65535]
def rh0 : RecHdr := {rh with len := 8}
def rh1 : RecHdr := {rh with addr := itr 0, len := 512}
def s0 : State := st (mp0 (ld 0 [sec] (vm0 (at0 1))))
def sec0 : Section := sec
/-- The hypotheses of `Obligations.FramesAndCavesLand` are met, clause by clause: `frames`, `cave`. -/
theorem witness_FramesAndCavesLand :
    (s0.pkg.loadersAct = true ∧ s0.pkg.load.active = true ∧ s0.pkg.load.die = some 0 ∧ rh1.inst < 16 ∧ rh1.rsv = 0 ∧
      List.find? (fun (y : Section) => y.inst == rh1.inst) s0.pkg.load.secs = some sec0 ∧ sec0.closed = false ∧ sec0.patch = false ∧ 0 < 8 ∧
      rh1.len = 512 ∧ faddr rh1.addr = some fa0 ∧ fa0.cls = .itr ∧ fa0.die = 0 ∧ sec0.compat = false ∧
      s0.pkg.frameTarget rh1.inst rh1.addr false = some fa2) ∧
    (s0.pkg.loadersAct = true ∧ s0.pkg.load.active = true ∧ s0.pkg.load.die = some 0 ∧ rh1.inst < 16 ∧ rh1.rsv = 0 ∧
      List.find? (fun (y : Section) => y.inst == rh1.inst) s0.pkg.load.secs = some sec0 ∧ sec0.closed = false ∧ sec0.patch = false ∧ 0 < 8 ∧
      rh1.len = 512 ∧ faddr rh1.addr = some fa0 ∧ fa0.cls = .itr ∧ fa0.die = 0 ∧ sec0.compat = false ∧
      s0.pkg.frameTarget rh1.inst rh1.addr false = some fa2) ∧
    (s0.pkg.loadersAct = true ∧ s0.pkg.load.active = true ∧ s0.pkg.load.die = some 0 ∧ rh0.inst < 16 ∧ rh0.rsv = 0 ∧
      List.find? (fun (y : Section) => y.inst == rh0.inst) s0.pkg.load.secs = some sec0 ∧ sec0.closed = false ∧ sec0.patch = false ∧ 0 < 8 ∧
      rh0.len = 2 * lbv0.length ∧ s0.pkg.bankTarget rh0.inst 0 (bits rh0.addr 0 6) (bits rh0.addr 6 4) = some 0 ∧ rh0.addr < 2 ^ 24 ∧
      lbv0.length % 4 = 0 ∧ bits rh0.addr 10 14 + lbv0.length ≤ 16384) := by
  refine ⟨?_, ?_, ?_⟩ <;> decide +kernel
end FramesAndCavesLand

end Streams

namespace Records

def at0 (n : Nat) : Pkg := pk [(.ARY_RUN_STAT_STATE, 0, n), (.ARY_CFG_INFO_DEPTH, 0, 80), (.ARY_CFG_INFO_EDGE_LEN, 0,
  2)] fun s => { s with fab.regOwn := [(0, 1)] }
def hd : StreamHdr :=
  { magic := 0x59425453, version := 0x0200, keysrc := 2, gen := 1, nonce := 0, npkg := 1, master := 0, flags := 1, stream := 7, pkgs := [(0, 0, 1, 2)] }
def ld (v : Nat) (secs : List Section) (s : Pkg) : Pkg :=
  { s with load := { active := true, hdr := some hd, sections := 1, chunks := 2, die := some v, secs := secs } }
def sec : Section := { inst := 0, patch := false, records := 1, depth := 80 }
def rh : RecHdr := { inst := 0, len := 16 }
def mp0 (s : Pkg) : Pkg := s.p .MBX_MP_STAT_STATE 0 2
def vm0 (s : Pkg) : Pkg :=
  { s.ps [(.ARY_VMAP_REG_VALID, 0, 1), (.ARY_VMAP_USE, 0, 0xFFFFFFFF), (.ARY_VMAP_BANK, 0, 3), (.ARY_VMAP_CL, 0, 3),(.CAV_OWN_KIND,0,0)] with insts := [(0, {desc := {dies := [0]}})] }
def vmc (s : Pkg) : Pkg := (List.range 32).foldl (fun s n => s.p .ARY_VMAP_CL n n) (vm0 s)
def own (s : Pkg) : Pkg := s.ps [(.IOC_BANK_CFG_OWNED, 0, 1), (.IOC_BANK_CFG_OWNER, 0, 0), (.LNK_PORT_STAT_OWNED, 0, 1), (.LNK_PORT_STAT_OWNER, 0, 0),
  (.QUE_SEG_MAP_VALID, 0, 1), (.QUE_SEG_MAP_SEGMENT, 0, 8), (.ARY_CFG_INFO_EDGE_LEN, 0, 2), (.QUE_INST_CFG, 0, 1)]
def base (v : Nat) : Pkg := mp0 (own (ld v [sec] (vmc (at0 1))))

namespace RecordsLand
def rhList : List RecHdr :=
  ([(8,0),(8,1),(8,0x40),(8,8),(16,0),(16,2),(16,8),(136,0),(136,1),(64,0),(0,0),(4096,1),(128,3),(3592,4)].map fun e => {rh with addr := e.2, len := e.1})
def lbv1 : List (BitVec 8) := [1,2,3,4,5,6,7,8]
def lbvt0 : List (BitVec 64) := [1, 2^63]
def lbvt1 : List (BitVec 64) := [1]
def lbvtz0 : List (BitVec 32) := List.replicate 16 1
def lbvtz1 : List (BitVec 32) := List.replicate 32 0x00000F01
def lbvtz2 : List (BitVec 32) := List.replicate 32 0
def lbvtz3 : List (BitVec 32) := List.replicate 1024 0
def lbvtz5 : List (BitVec 32) := List.replicate 898 0
def rh0 : RecHdr := rhList[0]'(by decide +kernel)
def rh4 : RecHdr := rhList[4]'(by decide +kernel)
def rh5 : RecHdr := rhList[5]'(by decide +kernel)
def rh7 : RecHdr := rhList[7]'(by decide +kernel)
def rh8 : RecHdr := rhList[8]'(by decide +kernel)
def rh9 : RecHdr := rhList[9]'(by decide +kernel)
def rh11 : RecHdr := rhList[11]'(by decide +kernel)
def rh12 : RecHdr := rhList[12]'(by decide +kernel)
def rh13 : RecHdr := rhList[13]'(by decide +kernel)
def s0 : State := st (base 0)
def s2 : State := st (base 8)
def sec0 : Section := sec
/-- The hypotheses of `Obligations.RecordsLand` are met, clause by clause: `portcfg`, `qentry`, `hbm`, `edge`, `gdl`, `iocfg`, `linkcfg`, `tracecfg`. -/
theorem witness_RecordsLand :
    (s0.pkg.loadersAct = true ∧ s0.pkg.load.active = true ∧ s0.pkg.load.die = some 0 ∧ rh0.inst < 16 ∧ rh0.rsv = 0 ∧
      List.find? (fun (y : Section) => y.inst == rh0.inst) s0.pkg.load.secs = some sec0 ∧ sec0.closed = false ∧ sec0.patch = false ∧ rh0.len = 8 ∧
      0 < 8 ∧ s0.pkg.bankTarget rh0.inst 0 (bits rh0.addr 0 6) (bits rh0.addr 6 4) = some 0 ∧ rh0.addr < 2 ^ 10 ∧ bits 0 0 3 ≤ 4 ∧ bits 0 4 3 ≤ 4) ∧
    (s0.pkg.loadersAct = true ∧ s0.pkg.load.active = true ∧ s0.pkg.load.die = some 0 ∧ rh0.inst < 16 ∧ rh0.rsv = 0 ∧
      List.find? (fun (y : Section) => y.inst == rh0.inst) s0.pkg.load.secs = some sec0 ∧ sec0.closed = false ∧ sec0.patch = false ∧ rh0.len = 8 ∧
      0 < 8 ∧ s0.pkg.physRegion rh0.inst 0 (bits rh0.addr 0 6) = some 0 ∧ rh0.addr < 2 ^ 15) ∧
    (s0.pkg.loadersAct = true ∧ s0.pkg.load.active = true ∧ s0.pkg.load.die = some 0 ∧ rh4.inst < 16 ∧ rh4.rsv = 0 ∧
      List.find? (fun (y : Section) => y.inst == rh4.inst) s0.pkg.load.secs = some sec0 ∧ sec0.closed = false ∧ sec0.patch = false ∧ rh4.len ≠ 8) ∧
    (s2.pkg.loadersAct = true ∧ s2.pkg.load.active = true ∧ s2.pkg.load.die = some 8 ∧ rh0.inst < 16 ∧ rh0.rsv = 0 ∧
      List.find? (fun (y : Section) => y.inst == rh0.inst) s2.pkg.load.secs = some sec0 ∧ sec0.closed = false ∧ sec0.patch = false ∧
      rh0.len = lbv1.length ∧ 8 ≤ 8 ∧ rh0.addr % 8 = 0 ∧ lbv1.length % 8 = 0 ∧ rh0.addr + lbv1.length ≤ s2.pkg.sliceBytes rh0.inst ∧
      (∀ n < lbv1.length, s2.pkg.sliceAddr rh0.inst (rh0.addr + n) = some (8 * segBytes + n))) ∧
    (s2.pkg.loadersAct = true ∧ s2.pkg.load.active = true ∧ s2.pkg.load.die = some 8 ∧ rh4.inst < 16 ∧ rh4.rsv = 0 ∧
      List.find? (fun (y : Section) => y.inst == rh4.inst) s2.pkg.load.secs = some sec0 ∧ sec0.closed = false ∧ sec0.patch = false ∧
      rh4.len = 8 * lbvt0.length ∧ 8 ≤ 8 ∧ rh4.addr = 0 ∧ lbvt0.length = s2.pkg.g .ARY_CFG_INFO_EDGE_LEN rh4.inst) ∧
    (s2.pkg.loadersAct = true ∧ s2.pkg.load.active = true ∧ s2.pkg.load.die = some 8 ∧ rh0.inst < 16 ∧ rh0.rsv = 0 ∧
      List.find? (fun (y : Section) => y.inst == rh0.inst) s2.pkg.load.secs = some sec0 ∧ sec0.closed = false ∧ sec0.patch = false ∧
      rh0.len = 8 * lbvt1.length ∧ 8 ≤ 8 ∧ rh0.addr = 0 ∧ lbvt1.length ≠ s2.pkg.g .ARY_CFG_INFO_EDGE_LEN rh0.inst) ∧
    (s2.pkg.loadersAct = true ∧ s2.pkg.load.active = true ∧ s2.pkg.load.die = some 8 ∧ rh9.inst < 16 ∧ rh9.rsv = 0 ∧
      List.find? (fun (y : Section) => y.inst == rh9.inst) s2.pkg.load.secs = some sec0 ∧ sec0.closed = false ∧ sec0.patch = false ∧ rh9.len = 64 ∧
      8 ≤ 8 ∧ rh9.addr = 0 ∧ lbvtz0.length = 16 ∧ (lbvtz0.all fun w => decide (bits w.toNat 0 2 < 2)) = true) ∧
    (s2.pkg.loadersAct = true ∧ s2.pkg.load.active = true ∧ s2.pkg.load.die = some 8 ∧ rh7.inst < 16 ∧ rh7.rsv = 0 ∧
      List.find? (fun (y : Section) => y.inst == rh7.inst) s2.pkg.load.secs = some sec0 ∧ sec0.closed = false ∧ sec0.patch = false ∧ 8 ≤ 8 ∧
      rh7.len = 136 ∧ rh7.addr < 32 ∧ s2.pkg.bankOwner (rh7.addr % 8 * 4 + rh7.addr / 8) = some rh7.inst ∧ 1 ≤ 1 ∧ 1 < 6 ∧ lbvtz2.length = 32 ∧
      (lbvtz2.all fun w => decide (cellCfgOk w.toNat = true)) = true) ∧
    (s2.pkg.loadersAct = true ∧ s2.pkg.load.active = true ∧ s2.pkg.load.die = some 8 ∧ rh8.inst < 16 ∧ rh8.rsv = 0 ∧
      List.find? (fun (y : Section) => y.inst == rh8.inst) s2.pkg.load.secs = some sec0 ∧ sec0.closed = false ∧ sec0.patch = false ∧ 8 ≤ 8 ∧
      rh8.len = 136 ∧ rh8.addr < 32 ∧ s2.pkg.bankOwner (rh8.addr % 8 * 4 + rh8.addr / 8) ≠ some rh8.inst) ∧
    (s2.pkg.loadersAct = true ∧ s2.pkg.load.active = true ∧ s2.pkg.load.die = some 8 ∧ rh4.inst < 16 ∧ rh4.rsv = 0 ∧
      List.find? (fun (y : Section) => y.inst == rh4.inst) s2.pkg.load.secs = some sec0 ∧ sec0.closed = false ∧ sec0.patch = false ∧ 8 ≤ 8 ∧
      rh4.len = 16 ∧ rh4.addr < 32 ∧ s2.pkg.portOwner rh4.addr = some rh4.inst ∧ 0 < 8 ∧ 0 < 4 ∧ s2.pkg.strapped rh4.addr = (0 == 3) ∧ 0 < 64 ∧
      0 < 32 ∧ bit 0 1 = false) ∧
    (s2.pkg.loadersAct = true ∧ s2.pkg.load.active = true ∧ s2.pkg.load.die = some 8 ∧ rh5.inst < 16 ∧ rh5.rsv = 0 ∧
      List.find? (fun (y : Section) => y.inst == rh5.inst) s2.pkg.load.secs = some sec0 ∧ sec0.closed = false ∧ sec0.patch = false ∧ 8 ≤ 8 ∧
      rh5.len = 16 ∧ rh5.addr < 32 ∧ s2.pkg.portOwner rh5.addr ≠ some rh5.inst) ∧
    (s2.pkg.loadersAct = true ∧ s2.pkg.load.active = true ∧ s2.pkg.load.die = some 8 ∧ rh4.inst < 16 ∧ rh4.rsv = 0 ∧
      List.find? (fun (y : Section) => y.inst == rh4.inst) s2.pkg.load.secs = some sec0 ∧ sec0.closed = false ∧ sec0.patch = false ∧ 8 ≤ 8 ∧
      s2.pkg.traced = none ∧ (∀ y ∈ s2.pkg.load.secs, y.traced = true → y.inst = rh4.inst) ∧ rh4.addr = 0 ∧ rh4.len = 16 ∧ 0 < 2 ^ 19) := by
  refine ⟨?_, ?_, ?_, ?_, ?_, ?_, ?_, ?_, ?_, ?_, ?_, ?_⟩ <;> decide +kernel
theorem witness_RecordsLand_2 :
    (s2.pkg.loadersAct = true ∧ s2.pkg.load.active = true ∧ s2.pkg.load.die = some 8 ∧ rh5.inst < 16 ∧ rh5.rsv = 0 ∧
      List.find? (fun (y : Section) => y.inst == rh5.inst) s2.pkg.load.secs = some sec0 ∧ sec0.closed = false ∧ sec0.patch = false ∧ 8 ≤ 8 ∧
      s2.pkg.traced = none ∧ (∀ y ∈ s2.pkg.load.secs, y.traced = true → y.inst = rh5.inst) ∧ rh5.addr = 2 + 16 * 0 ∧ 0 < 8 ∧ rh5.len = 16 ∧
      s2.pkg.physDie rh5.inst 0 = some 0 ∧ s2.pkg.wheyDie rh5.inst 0 = true ∧ bits 0 0 2 < 3 ∧ bits 0 2 2 < 3 ∧ bits 0 9 7 = 0 ∧ bit 0 31 = false ∧
      bits 0 16 8 ≤ 144 ∧ bits 0 24 7 ≤ 64 ∧ (bits 0 0 2 ≠ 0 → s2.pkg.portOwner (bits 0 4 5) = some rh5.inst)) ∧
    (s2.pkg.loadersAct = true ∧ s2.pkg.load.active = true ∧ s2.pkg.load.die = some 8 ∧ rh11.inst < 16 ∧ rh11.rsv = 0 ∧
      List.find? (fun (y : Section) => y.inst == rh11.inst) s2.pkg.load.secs = some sec0 ∧ sec0.closed = false ∧ sec0.patch = false ∧ 8 ≤ 8 ∧
      s2.pkg.traced = none ∧ (∀ y ∈ s2.pkg.load.secs, y.traced = true → y.inst = rh11.inst) ∧ rh11.addr = 1 + 16 * 0 + 128 * 0 ∧ 0 < 8 ∧ 0 < 64 ∧
      rh11.len = 4096 ∧ s2.pkg.physRegion rh11.inst 0 0 = some 0 ∧ lbvtz3.length = 1024 ∧
      (lbvtz3.all fun e => decide (slotOk e.toNat = true)) = true ∧
      (List.range 32).map (s2.pkg.physCluster rh11.inst 0 0) = (List.range 32).map some) ∧
    (s2.pkg.loadersAct = true ∧ s2.pkg.load.active = true ∧ s2.pkg.load.die = some 8 ∧ rh12.inst < 16 ∧ rh12.rsv = 0 ∧
      List.find? (fun (y : Section) => y.inst == rh12.inst) s2.pkg.load.secs = some sec0 ∧ sec0.closed = false ∧ sec0.patch = false ∧ 8 ≤ 8 ∧
      s2.pkg.traced = none ∧ (∀ y ∈ s2.pkg.load.secs, y.traced = true → y.inst = rh12.inst) ∧ rh12.addr = 3 + 16 * 0 ∧ 0 < 8 ∧ rh12.len = 128 ∧
      lbvtz1.length = 32 ∧ s2.pkg.wheyDie rh12.inst 0 = true ∧
      (lbvtz1.all fun w => (List.range 4).all fun k => decide (bits w.toNat (8 * k) 8 < 16)) = true) ∧
    (s2.pkg.loadersAct = true ∧ s2.pkg.load.active = true ∧ s2.pkg.load.die = some 8 ∧ rh13.inst < 16 ∧ rh13.rsv = 0 ∧
      List.find? (fun (y : Section) => y.inst == rh13.inst) s2.pkg.load.secs = some sec0 ∧ sec0.closed = false ∧ sec0.patch = false ∧ 8 ≤ 8 ∧
      s2.pkg.traced = none ∧ (∀ y ∈ s2.pkg.load.secs, y.traced = true → y.inst = rh13.inst) ∧ rh13.addr = 4 ∧ rh13.len = 3592 ∧ lbvtz5.length = 898 ∧
      (lbvtz5.all fun w => decide (w = 0)) = true ∧ s2.pkg.physDie rh13.inst 0 = some 0 ∧ s2.pkg.regionsOn rh13.inst 0 ≠ []) := by
  refine ⟨?_, ?_, ?_, ?_⟩ <;> decide +kernel
end RecordsLand

end Records

namespace RecordsMore

def at0 (n : Nat) : Pkg := pk [(.ARY_RUN_STAT_STATE, 0, n), (.ARY_CFG_INFO_DEPTH, 0, 80), (.ARY_CFG_INFO_EDGE_LEN, 0,
  2)] fun s => { s with fab.regOwn := [(0, 1)] }
def hd : StreamHdr :=
  { magic := 0x59425453, version := 0x0200, keysrc := 2, gen := 1, nonce := 0, npkg := 1, master := 0, flags := 1, stream := 7, pkgs := [(0, 0, 1, 2)] }
def ld (v : Nat) (secs : List Section) (s : Pkg) : Pkg :=
  { s with load := { active := true, hdr := some hd, sections := 1, chunks := 2, die := some v, secs := secs } }
def sec : Section := { inst := 0, patch := false, records := 1, depth := 80 }
def rh : RecHdr := { inst := 0, len := 16 }
def mp0 (s : Pkg) : Pkg := s.p .MBX_MP_STAT_STATE 0 2
def vm0 (s : Pkg) : Pkg :=
  { s.ps [(.ARY_VMAP_REG_VALID, 0, 1), (.ARY_VMAP_USE, 0, 0xFFFFFFFF), (.ARY_VMAP_BANK, 0, 3), (.ARY_VMAP_CL, 0, 3),(.CAV_OWN_KIND,0,0)] with insts := [(0, {desc := {dies := [0]}})] }
def vmc (s : Pkg) : Pkg := (List.range 32).foldl (fun s n => s.p .ARY_VMAP_CL n n) (vm0 s)
def own (s : Pkg) : Pkg := s.ps [(.IOC_BANK_CFG_OWNED, 0, 1), (.IOC_BANK_CFG_OWNER, 0, 0), (.LNK_PORT_STAT_OWNED, 0, 1), (.LNK_PORT_STAT_OWNER, 0, 0),
  (.QUE_SEG_MAP_VALID, 0, 1), (.QUE_SEG_MAP_SEGMENT, 0, 8), (.ARY_CFG_INFO_EDGE_LEN, 0, 2), (.QUE_INST_CFG, 0, 1)]
def base (v : Nat) : Pkg := mp0 (own (ld v [sec] (vmc (at0 1))))

namespace RecordsLand
def lbv0 : List (BitVec 32) := List.replicate 16 1
def rh2 : RecHdr := {rh with len := 64}
def s1 : State := st ((base 8).ps [(.WHY_CAP_STAT_OWNED,0,1)])
def sec0 : Section := sec
/-- The hypotheses of `Obligations.RecordsLand` are met, clause by clause: `tracecfg`. -/
theorem witness_RecordsLand_recordsmore :
    (s1.pkg.loadersAct = true ∧ s1.pkg.load.active = true ∧ s1.pkg.load.die = some 8 ∧ rh2.inst < 16 ∧ rh2.rsv = 0 ∧
      List.find? (fun (y : Section) => y.inst == rh2.inst) s1.pkg.load.secs = some sec0 ∧ sec0.closed = false ∧ sec0.patch = false ∧ 8 ≤ 8 ∧
      rh2.len = 4 * lbv0.length ∧ lbv0.length % 2 = 0 ∧ s1.pkg.traced ≠ none) := by decide +kernel
end RecordsLand

end RecordsMore

namespace Commits

def at0 (n : Nat) : Pkg := pk [(.ARY_RUN_STAT_STATE, 0, n), (.ARY_CFG_INFO_DEPTH, 0, 80), (.ARY_CFG_INFO_EDGE_LEN, 0,
  2)] fun s => { s with fab.regOwn := [(0, 1)] }
def hd : StreamHdr :=
  { magic := 0x59425453, version := 0x0200, keysrc := 2, gen := 1, nonce := 0, npkg := 1, master := 0, flags := 1, stream := 7, pkgs := [(0, 0, 1, 2)] }
def hd2 : StreamHdr := { hd with npkg := 2, pkgs := [(0, 0, 1, 2), (1, 0, 1, 2)] }
def ld (v : Nat) (secs : List Section) (s : Pkg) : Pkg :=
  { s with load := { active := true, hdr := some hd, sections := 1, chunks := 2, die := some v, secs := secs } }
def sec : Section := { inst := 0, patch := false, records := 1, depth := 80 }
def mp0 (s : Pkg) : Pkg := s.p .MBX_MP_STAT_STATE 0 2

namespace CheckedLoadsCommit
def sList : List State :=
  (([st { ld 255 [{sec with closed := true}] (at0 1) with load.last := true }, st { ld 255 [{sec with closed := false}] (at0 1) with load.last := true }, st { ld 255 [] (at0 1) with load.last := true }, st { ld 255 [{sec with closed := true}] (at0 1) with load.last := true, load.hdr := some hd2, part.masterSel := false }, { pkg := ({ ld 255 [{sec with closed := true}] (at0 1) with load.last := true }).ps ((List.range 8).map fun d => (.ADC_MON_RAIL_IN, d, 31)) }] ).flatMap fun s => [s,
  { s with pkg := mp0 s.pkg }])
def s0 : State := sList.getD 0 {}
def s1 : State := sList.getD 1 {}
def s3 : State := sList.getD 3 {}
def s7 : State := sList.getD 7 {}
def sh0 : StreamHdr := hd
def sh1 : StreamHdr := hd2
/-- The hypotheses of `Obligations.CheckedLoadsCommit` are met, clause by clause: `loadCheck`. -/
theorem witness_CheckedLoadsCommit :
    (s0.pkg.load.active = true ∧ s0.pkg.load.last = true ∧ s0.pkg.g .CFG_LOAD_STAT_PHASE 0 < 4 ∧ s0.pkg.load.hdr = some sh0 ∧
      s0.pkg.loadersAct = false) ∧
    (s1.pkg.load.active = true ∧ s1.pkg.load.last = true ∧ s1.pkg.g .CFG_LOAD_STAT_PHASE 0 < 4 ∧ s1.pkg.load.hdr = some sh0 ∧
      s1.pkg.loadersAct = true ∧ s1.pkg.load.secs.length = s1.pkg.load.sections ∧ ∀ x ∈ s1.pkg.load.secs, x.closed = true ∧
      ((s1.pkg.p .CFG_LOAD_STAT_PHASE 0 4).checkAll s1.pkg.load.secs).2 = none ∧ sh0.npkg = 1 ∧ (∀ x ∈ s1.pkg.load.secs, x.patch = false)) ∧
    (s7.pkg.load.active = true ∧ s7.pkg.load.last = true ∧ s7.pkg.g .CFG_LOAD_STAT_PHASE 0 < 4 ∧ s7.pkg.load.hdr = some sh1 ∧
      s7.pkg.loadersAct = true ∧ s7.pkg.load.secs.length = s7.pkg.load.sections ∧ ∀ x ∈ s7.pkg.load.secs, x.closed = true ∧
      ((s7.pkg.p .CFG_LOAD_STAT_PHASE 0 4).checkAll s7.pkg.load.secs).2 = none ∧ 1 < sh1.npkg ∧ s7.pkg.isMaster = false) ∧
    (s3.pkg.load.active = true ∧ s3.pkg.load.last = true ∧ s3.pkg.g .CFG_LOAD_STAT_PHASE 0 < 4 ∧ s3.pkg.load.hdr = some sh0 ∧
      s3.pkg.loadersAct = true ∧ ¬(s3.pkg.load.secs.length = s3.pkg.load.sections ∧ ∀ x ∈ s3.pkg.load.secs, x.closed = true)) ∧
    (s1.pkg.load.active = true ∧ s1.pkg.load.last = true ∧ s1.pkg.g .CFG_LOAD_STAT_PHASE 0 < 4 ∧ s1.pkg.load.hdr = some sh0 ∧
      s1.pkg.loadersAct = true ∧ s1.pkg.load.secs.length = s1.pkg.load.sections ∧ ∀ x ∈ s1.pkg.load.secs, x.closed = true) := by
  refine ⟨?_, ?_, ?_, ?_, ?_⟩ <;> decide +kernel
end CheckedLoadsCommit

end Commits

namespace Turner

def at0 (n : Nat) : Pkg := pk [(.ARY_RUN_STAT_STATE, 0, n), (.ARY_CFG_INFO_DEPTH, 0, 80), (.ARY_CFG_INFO_EDGE_LEN, 0,
  2)] fun s => { s with fab.regOwn := [(0, 1)] }
def vm0 (s : Pkg) : Pkg :=
  { s.ps [(.ARY_VMAP_REG_VALID, 0, 1), (.ARY_VMAP_USE, 0, 0xFFFFFFFF), (.ARY_VMAP_BANK, 0, 3), (.ARY_VMAP_CL, 0, 3),(.CAV_OWN_KIND,0,0)] with insts := [(0, {desc := {dies := [0]}})] }
def frx (fr : Nat) : FAddr := { cls := .itr, die := 0, region := 0, cluster := 0, bp := 5, frame := fr }
def nx (d g : Nat) (s : Pkg) : Pkg := s.p .TRN_CTRL_EN (d * 64 + g) 1
def lastF : FAddr := (((nx 0 0 (vm0 (at0 3))).scanList 0 0).getLast?).getD (frx 0)

namespace LoadTimersAndTurnerAct
def faList : List FAddr := ([{vm0 (at0 3) with trn.pos := []},
  {vm0 (at0 3) with trn.pos := [(0, 10 ^ 9)]}].filterMap fun s => (nx 0 0 s).nextFrame 0 0) ++ [lastF]
def fa0 : FAddr := faList[0]'(by decide +kernel)
def s0 : State := st {}
def s1 : State := st {load := {active := true}}
def s2 : State := st (({load := {active := true}} : Pkg).p .CFG_LOAD_STAT_PHASE 0 5)
def s3 : State := st (({load := {active := true}, part.masterSel := false} : Pkg).p .CFG_LOAD_STAT_PHASE 0 5)
def s4 : State := st {cas := {await := [1,2]}}
def s7 : State := st (nx 0 0 (vm0 (at0 3)))
/-- The hypotheses of `Obligations.LoadTimersAndTurnerAct` are met, clause by clause: `commitTimeout`, `slaveCommitTimeout`, `commitAckTimeout`,
`streamStall`, `cfgAbort`, `errClr`, `turnerFrameCheck`. -/
theorem witness_LoadTimersAndTurnerAct :
    (s2.pkg.waiting = true ∧ s2.pkg.isMaster = true) ∧
    (s0.pkg.waiting = false) ∧
    (s0.pkg.waiting = false) ∧
    (s3.pkg.waiting = true ∧ s3.pkg.isMaster = false) ∧
    (s4.pkg.isMaster = true ∧ s4.pkg.cas.await ≠ []) ∧
    (s1.pkg.load.active = true ∧ s1.pkg.load.last = false) ∧
    (s0.pkg.load.active = false) ∧
    (s1.pkg.unwatched = true ∧ s1.pkg.load.active = true) ∧
    (s0.pkg.unwatched = true ∧ s0.pkg.load.active = false) ∧
    (s0.pkg.unwatched = true) ∧
    ((s0.pkg.g .TRN_CTRL_EN (0 * 64 + 0) = 0 ∨ s0.pkg.nextFrame 0 0 = none)) ∧
    (s7.pkg.nextFrame 0 0 = some fa0 ∧ fa0.code % 2 ^ 32 ≠ 0) := by
  refine ⟨?_, ?_, ?_, ?_, ?_, ?_, ?_, ?_, ?_, ?_, ?_, ?_⟩ <;> decide +kernel
theorem witness_LoadTimersAndTurnerAct_2 :
    (s7.pkg.g .TRN_CTRL_EN (0 * 64 + 0) = 1 ∧ s7.pkg.nextFrame 0 0 = some fa0 ∧ Store.get [] s7.pkg.trn.errs fa0.code = []) ∧
    (s7.pkg.g .TRN_CTRL_EN (0 * 64 + 0) = 1 ∧ s7.pkg.nextFrame 0 0 = some fa0 ∧ Store.get [] s7.pkg.trn.errs fa0.code = []) ∧
    (s7.pkg.g .TRN_CTRL_EN (0 * 64 + 0) = 1 ∧ s7.pkg.nextFrame 0 0 = some fa0 ∧ Store.get [] s7.pkg.trn.errs fa0.code = [] ∧ 0 ≠ 4095 ∧
      (∀ e ∈ s7.pkg.trn.bad, e.1 ≠ fa0.code)) ∧
    (s7.pkg.g .TRN_CTRL_EN (0 * 64 + 0) = 1 ∧ s7.pkg.nextFrame 0 0 = some fa0 ∧ Store.get [] s7.pkg.trn.errs fa0.code = [] ∧ 0 ≠ 4095 ∧
      (∀ e ∈ s7.pkg.trn.bad, e.1 ≠ fa0.code)) := by
  refine ⟨?_, ?_, ?_, ?_⟩ <;> decide +kernel
end LoadTimersAndTurnerAct

end Turner

namespace Pins

def ln (l st ph : Nat) (s : Pkg) : Pkg := s.ps [(.LNK_LANE_STAT_STATE, l, st), (.LNK_LANE_STAT_PHASE, l, ph), (.LNK_LANE_CTRL_EN, l, 1)]
def up (s : Pkg) : Pkg := ((List.range 4).foldl (fun s l => ln l 3 0 s) s).ps [(.LNK_PORT_STAT_STATE, 0, 4), (.LNK_PORT_STAT_OWNED, 0, 1)]
def tgt (v : Nat) (s : Pkg) : Pkg := { s with pendw := [{ fld := .LNK_LANE_CTRL_TGT, idx := 0, val := v, wait := 0 }] }
def fr (ph : Nat) (c p : Bool) : BitVec 64 :=
  BitVec.ofNat 64 ({ lane := 1, port := 2, die := 3, pkg := 4, compat := c, pam4Cap := p, phase := ph, rxReady := true, seen := true : TrainFrame }.word)
def lx (f : Lane → Lane) (s : Pkg) : Pkg := s.updLane 0 f
def z : Pkg := {}
def bank (run : Nat) : Pkg := pk [(.IOC_BANK_CFG_OWNED, 0, 1), (.IOC_BANK_CFG_VIO, 0, 3), (.ARY_RUN_STAT_STATE, 0, run), (.IOC_BANK_STAT_VOK, 0,
  if run = 4 then 1 else 0), (.IOC_BANK_STAT_ENABLED, 0, if run = 4 then 1 else 0)]

namespace SuppliesGateBanks
def s0 : State := {}
def s1 : State := st (bank 2)
def s3 : State := st (bank 4)
/-- The hypotheses of `Obligations.SuppliesGateBanks` are met, clause by clause: `bankSupplyFault`, `bankSupplyRestored`. -/
theorem witness_SuppliesGateBanks :
    (s3.pkg.g .IOC_BANK_STAT_VOK 0 = 1) ∧
    (s0.pkg.g .IOC_BANK_STAT_VOK 0 = 0) ∧
    (s1.pkg.bankOwner 0 = some 0 ∧ s1.pkg.g .IOC_BANK_CFG_VIO 0 ≠ 0) := by
  refine ⟨?_, ?_, ?_⟩ <;> decide +kernel
end SuppliesGateBanks

namespace ScanDrivesCells
/-- The hypotheses of `Obligations.ScanDrivesCells` are met, clause by clause: `bscanBypass`. -/
theorem witness_ScanDrivesCells :
    (5 ≠ 0 ∧ 5 ≠ 1 ∧ 5 ≠ 4) := by decide +kernel
end ScanDrivesCells

namespace LanesMoveAndTrain
def sList : List State := ([z, ln 0 1 0 z, ln 0 2 1 z, ln 0 2 2 z, ln 0 2 4 z, ln 0 2 5 z, ln 0 3 0 z, ln 0 4 0 z, ln 0 5 0 z, ln 0 7 0 z, ln 0 6 0 z,
  up z, z.p .LNK_LANE_CTRL_TGT 0 2, tgt 2 (up z), tgt 1 (up z), tgt 2 (ln 0 6 0 z), (up z).p .ADC_REF_STAT_REC_VALID 0 1,
  { z with pins.thermN := false }, z.p .ADC_BOOT_STAT_DIE_FAIL 0 1, (ln 0 1 0 z).p .LNK_PRBS_CFG_GEN_EN 0 1,
  lx (fun x => {x with lost := true}) ((ln 0 1 0 z).p .LNK_PRBS_CFG_GEN_EN 0 1), lx (fun x => {x with frames := 63}) (ln 0 2 1 z),
  lx (fun x => {x with zero := 3}) (ln 0 2 1 z), lx (fun x => {x with zero := 3}) (up z), lx (fun x => {x with mism := true}) (ln 0 2 2 z),
  lx (fun x => {x with tries := 3}) (ln 0 2 4 z), lx (fun x => {x with pReady := true}) (ln 0 2 4 z)].map st)
def pw0 : PendW := { fld := .LNK_LANE_CTRL_TGT, idx := 0, val := 1, wait := 0 }
def pw1 : PendW := { fld := .LNK_LANE_CTRL_TGT, idx := 0, val := 2, wait := 0 }
def s0 : State := sList.getD 0 {}
def s1 : State := sList.getD 1 {}
def s2 : State := sList.getD 2 {}
def s4 : State := sList.getD 4 {}
def s6 : State := sList.getD 6 {}
def s8 : State := sList.getD 8 {}
def s10 : State := sList.getD 10 {}
def s12 : State := sList.getD 12 {}
def s13 : State := sList.getD 13 {}
def s14 : State := sList.getD 14 {}
def s17 : State := sList.getD 17 {}
def s19 : State := sList.getD 19 {}
def s20 : State := sList.getD 20 {}
def s22 : State := sList.getD 22 {}
def s24 : State := sList.getD 24 {}
def s25 : State := sList.getD 25 {}
def s26 : State := sList.getD 26 {}
/-- The hypotheses of `Obligations.LanesMoveAndTrain` are met, clause by clause: `laneEn`, `laneTgtApply`, `retrain`, `laneFaultClr`, `wakeToneDetect`,
`synthLock`, `synthLockTimeout`, `synthLockLoss`, `cdrLockLoss`, `trainingFrame`, `pam4AttemptEnd`, `trainingTimeout`. -/
theorem witness_LanesMoveAndTrain :
    (s6.pkg.unwatched = true ∧ 0 / 16 < s6.pkg.part.model.dies ∧ s6.pkg.laneSt 0 = .active ∧ 0 = s6.pkg.recLane) ∧
    (s0.pkg.unwatched = true ∧ 0 / 16 < s0.pkg.part.model.dies ∧
      (lanePort 0 = s0.pkg.g .ADC_REF_CTRL_REC_PORT 0 → s0.pkg.g .ADC_REF_STAT_REC_VALID 0 = 0) ∧ s0.pkg.laneSt 0 = .off ∧ s0.pkg.tripped = false ∧
      s0.pkg.dieOk (0 / 16) = true ∧ s0.pkg.g .LNK_LANE_CTRL_TGT 0 ≠ 2) ∧
    (s12.pkg.unwatched = true ∧ 0 / 16 < s12.pkg.part.model.dies ∧
      (lanePort 0 = s12.pkg.g .ADC_REF_CTRL_REC_PORT 0 → s12.pkg.g .ADC_REF_STAT_REC_VALID 0 = 0) ∧ s12.pkg.laneSt 0 = .off ∧
      s12.pkg.tripped = false ∧ s12.pkg.dieOk (0 / 16) = true ∧ s12.pkg.g .LNK_LANE_CTRL_TGT 0 = 2) ∧
    (s17.pkg.unwatched = true ∧ 0 / 16 < s17.pkg.part.model.dies ∧
      (lanePort 0 = s17.pkg.g .ADC_REF_CTRL_REC_PORT 0 → s17.pkg.g .ADC_REF_STAT_REC_VALID 0 = 0) ∧ s17.pkg.laneSt 0 = .off ∧
      (s17.pkg.tripped = true ∨ s17.pkg.dieOk (0 / 16) = false)) ∧
    (s1.pkg.unwatched = true ∧ 0 / 16 < s1.pkg.part.model.dies ∧
      (lanePort 0 = s1.pkg.g .ADC_REF_CTRL_REC_PORT 0 → s1.pkg.g .ADC_REF_STAT_REC_VALID 0 = 0) ∧ s1.pkg.laneSt 0 ≠ .off) ∧
    (s13.pkg.unwatched = true ∧ 0 / 16 < s13.pkg.part.model.dies ∧
      (lanePort 0 = s13.pkg.g .ADC_REF_CTRL_REC_PORT 0 → s13.pkg.g .ADC_REF_STAT_REC_VALID 0 = 0) ∧
      List.find? (fun (w : PendW) => w.fld == .LNK_LANE_CTRL_TGT && w.idx == 0) s13.pkg.pendw = some pw1 ∧ s13.pkg.laneSt 0 = .active ∧ pw1.val = 2) ∧
    (s14.pkg.unwatched = true ∧ 0 / 16 < s14.pkg.part.model.dies ∧
      (lanePort 0 = s14.pkg.g .ADC_REF_CTRL_REC_PORT 0 → s14.pkg.g .ADC_REF_STAT_REC_VALID 0 = 0) ∧
      List.find? (fun (w : PendW) => w.fld == .LNK_LANE_CTRL_TGT && w.idx == 0) s14.pkg.pendw = some pw0 ∧ s14.pkg.laneSt 0 = .active ∧ pw0.val = 1) ∧
    (s0.pkg.unwatched = true ∧ 0 / 16 < s0.pkg.part.model.dies ∧
      (lanePort 0 = s0.pkg.g .ADC_REF_CTRL_REC_PORT 0 → s0.pkg.g .ADC_REF_STAT_REC_VALID 0 = 0) ∧
      (List.find? (fun (w : PendW) => w.fld == .LNK_LANE_CTRL_TGT && w.idx == 0) s0.pkg.pendw = none ∨ s0.pkg.laneSt 0 = .fault)) ∧
    (s2.pkg.unwatched = true ∧ 0 / 16 < s2.pkg.part.model.dies ∧
      (lanePort 0 = s2.pkg.g .ADC_REF_CTRL_REC_PORT 0 → s2.pkg.g .ADC_REF_STAT_REC_VALID 0 = 0) ∧ s2.pkg.g .LNK_LANE_CTRL_EN 0 = 1 ∧
      (s2.pkg.laneSt 0 = .train ∨ s2.pkg.laneSt 0 = .active ∨ s2.pkg.laneSt 0 = .idle)) ∧
    (s8.pkg.unwatched = true ∧ 0 / 16 < s8.pkg.part.model.dies ∧
      (lanePort 0 = s8.pkg.g .ADC_REF_CTRL_REC_PORT 0 → s8.pkg.g .ADC_REF_STAT_REC_VALID 0 = 0) ∧ s8.pkg.g .LNK_LANE_CTRL_EN 0 = 1 ∧
      s8.pkg.laneSt 0 = .cold) ∧
    (s10.pkg.unwatched = true ∧ 0 / 16 < s10.pkg.part.model.dies ∧
      (lanePort 0 = s10.pkg.g .ADC_REF_CTRL_REC_PORT 0 → s10.pkg.g .ADC_REF_STAT_REC_VALID 0 = 0) ∧ s10.pkg.g .LNK_LANE_CTRL_EN 0 = 1 ∧
      s10.pkg.laneSt 0 = .fault ∧ List.find? (fun (w : PendW) => w.fld == .LNK_LANE_CTRL_TGT && w.idx == 0) s10.pkg.pendw = none) ∧
    (s8.pkg.unwatched = true ∧ 0 / 16 < s8.pkg.part.model.dies ∧
      (lanePort 0 = s8.pkg.g .ADC_REF_CTRL_REC_PORT 0 → s8.pkg.g .ADC_REF_STAT_REC_VALID 0 = 0) ∧ s8.pkg.laneSt 0 = .cold) := by
  refine ⟨?_, ?_, ?_, ?_, ?_, ?_, ?_, ?_, ?_, ?_, ?_, ?_⟩ <;> decide +kernel
theorem witness_LanesMoveAndTrain_2 :
    (s0.pkg.unwatched = true ∧ 0 / 16 < s0.pkg.part.model.dies ∧
      (lanePort 0 = s0.pkg.g .ADC_REF_CTRL_REC_PORT 0 → s0.pkg.g .ADC_REF_STAT_REC_VALID 0 = 0) ∧ s0.pkg.laneSt 0 ≠ .cold) ∧
    (s1.pkg.laneSt 0 = .cal ∧ s1.pkg.prbsOn 0 = false) ∧
    (s19.pkg.laneSt 0 = .cal ∧ s19.pkg.prbsOn 0 = true ∧ (s19.pkg.lane 0).lost = false) ∧
    (s20.pkg.laneSt 0 = .cal ∧ (s20.pkg.lane 0).lost = true) ∧
    (s0.pkg.laneSt 0 ≠ .cal) ∧
    (s1.pkg.laneSt 0 = .cal) ∧
    (((s2.pkg.laneSt 0 = .train ∨ s2.pkg.laneSt 0 = .active ∨ s2.pkg.laneSt 0 = .idle) ∨ s2.pkg.laneSt 0 = .test)) ∧
    ((s6.pkg.laneSt 0 = .active ∨ s6.pkg.laneSt 0 = .idle)) ∧
    ((s2.pkg.laneSt 0 = .train ∨ s2.pkg.laneSt 0 = .active ∨ s2.pkg.laneSt 0 = .idle) ∧ trainWordOk (fr 1 false false).toNat = true ∧
      (TrainFrame.ofWord (fr 1 false false).toNat).phase ≠ 0) ∧
    ((s22.pkg.laneSt 0 = .train ∨ s22.pkg.laneSt 0 = .active ∨ s22.pkg.laneSt 0 = .idle) ∧ trainWordOk (fr 0 false false).toNat = true ∧
      (TrainFrame.ofWord (fr 0 false false).toNat).phase = 0 ∧ 3 ≤ (s22.pkg.lane 0).zero) ∧
    ((s2.pkg.laneSt 0 = .train ∨ s2.pkg.laneSt 0 = .active ∨ s2.pkg.laneSt 0 = .idle) ∧ ((fr 1 false false).toNat ≠ trainMarker ∨
      trainWordOk (fr 1 false false).toNat = false)) ∧
    (s26.pkg.laneSt 0 = .train ∧ s26.pkg.g .LNK_LANE_STAT_PHASE 0 = 4 ∧ 0 < 16 ∧ (s26.pkg.lane 0).pReady = true ∧ s26.pkg.g .LNK_LANE_CTRL_TGT 0 = 0 ∧
      s26.pkg.portEnables (lanePort 0) = false) := by
  refine ⟨?_, ?_, ?_, ?_, ?_, ?_, ?_, ?_, ?_, ?_, ?_, ?_⟩ <;> decide +kernel
theorem witness_LanesMoveAndTrain_3 :
    (s4.pkg.laneSt 0 = .train ∧ s4.pkg.g .LNK_LANE_STAT_PHASE 0 = 4 ∧ 16 ≤ 16 ∧ (s4.pkg.lane 0).tries < 3) ∧
    (s25.pkg.laneSt 0 = .train ∧ s25.pkg.g .LNK_LANE_STAT_PHASE 0 = 4 ∧ 16 ≤ 16 ∧ 3 ≤ (s25.pkg.lane 0).tries) ∧
    (s24.pkg.laneSt 0 = .train ∧ (s24.pkg.lane 0).mism = true) ∧
    (s2.pkg.laneSt 0 = .train ∧ s2.pkg.g .LNK_LANE_STAT_PHASE 0 ≠ 5 ∧ (s2.pkg.lane 0).mism = false) := by
  refine ⟨?_, ?_, ?_, ?_⟩ <;> decide +kernel
end LanesMoveAndTrain

namespace PrbsRuns
def s0 : State := st (ln 0 2 5 z)
def s1 : State := st (up z)
def s4 : State := st (ln 0 6 0 z)
def s6 : State := st ((ln 0 7 0 z).ps [(.LNK_PRBS_CFG_GEN_EN, 0, 1), (.LNK_PRBS_CFG_INJ_MODE, 0, 1)])
def s7 : State := st ((ln 0 7 0 z).ps [(.LNK_PRBS_CFG_GEN_EN, 0, 1), (.LNK_PRBS_CFG_INJ_MODE, 0, 2)])
def s8 : State := st ((ln 0 7 0 z).ps [(.LNK_PRBS_CFG_CHK_EN, 0, 1)])
def s9 : State := st (lx (fun x => {x with run := 63, chk := 0x55}) ((ln 0 7 0 z).ps [(.LNK_PRBS_CFG_CHK_EN, 0, 1)]))
def s10 : State :=
  st (lx (fun x => {x with run := 63, chk := 0x55}) ((ln 0 7 0 z).ps [(.LNK_PRBS_CFG_CHK_EN, 0, 1), (.LNK_PRBS_STAT_CHK_LOCK, 0, 1)]))
/-- The hypotheses of `Obligations.PrbsRuns` are met, clause by clause: `prbsCfgWrite`, `injShot`, `periodicInjection`, `prbsCheckerReceive`. -/
theorem witness_PrbsRuns :
    (0 / 16 < s0.pkg.part.model.dies ∧ s0.pkg.unwatched = true ∧ bits 64 0 3 ≠ 7 ∧ bits 64 3 3 ≠ 7 ∧ bits 64 10 2 ≠ 3 ∧
      s0.pkg.g .LNK_PORT_STAT_OWNED (lanePort 0) = 0 ∧ s0.pkg.commitOn (lanePort 0) = false ∧ (bit 64 6 = true ∨ bit 64 7 = true) ∧
      bit 64 12 = false ∧ (s0.pkg.laneSt 0 = .train ∨ s0.pkg.laneSt 0 = .active ∨ s0.pkg.laneSt 0 = .idle)) ∧
    (0 / 16 < s4.pkg.part.model.dies ∧ s4.pkg.unwatched = true ∧ bits 64 0 3 ≠ 7 ∧ bits 64 3 3 ≠ 7 ∧ bits 64 10 2 ≠ 3 ∧
      s4.pkg.g .LNK_PORT_STAT_OWNED (lanePort 0) = 0 ∧ s4.pkg.commitOn (lanePort 0) = false ∧ (bit 64 6 = true ∨ bit 64 7 = true) ∧
      bit 64 12 = false ∧ s4.pkg.laneSt 0 = .fault) ∧
    (0 / 16 < s1.pkg.part.model.dies ∧ s1.pkg.unwatched = true ∧ bits 64 0 3 ≠ 7 ∧ bits 64 3 3 ≠ 7 ∧ bits 64 10 2 ≠ 3 ∧ (bit 64 6 = true ∨
      bit 64 7 = true) ∧ s1.pkg.g .LNK_PORT_STAT_OWNED (lanePort 0) = 1) ∧
    (0 / 16 < s0.pkg.part.model.dies ∧ s0.pkg.unwatched = true ∧ ¬(bits 71 0 3 ≠ 7 ∧ bits 71 3 3 ≠ 7 ∧ bits 71 10 2 ≠ 3)) ∧
    (0 / 16 < s6.pkg.part.model.dies ∧ s6.pkg.unwatched = true ∧ s6.pkg.g .LNK_PRBS_CFG_GEN_EN 0 = 1 ∧ s6.pkg.g .LNK_PRBS_CFG_LOOPBACK 0 = 0 ∧
      s6.pkg.laneSt 0 = .test ∧ s6.pkg.g .LNK_PORT_STAT_OWNED (lanePort 0) = 0 ∧ s6.pkg.commitOn (lanePort 0) = false ∧
      s6.pkg.g .LNK_PRBS_CFG_INJ_MODE 0 = 1 ∧ s6.pkg.g .LNK_PRBS_CFG_GEN_PAT 0 ≠ 7 ∧ s6.pkg.g .LNK_PRBS_CFG_CHK_PAT 0 ≠ 7) ∧
    (0 / 16 < s7.pkg.part.model.dies ∧ s7.pkg.g .LNK_PRBS_CFG_GEN_EN 0 = 1 ∧ s7.pkg.g .LNK_PRBS_CFG_LOOPBACK 0 = 0 ∧ s7.pkg.laneSt 0 = .test ∧
      s7.pkg.g .LNK_PRBS_CFG_INJ_MODE 0 = 2) ∧
    (0 / 16 < s9.pkg.part.model.dies ∧ s9.pkg.laneSt 0 = .test ∧ s9.pkg.g .LNK_PRBS_CFG_CHK_EN 0 = 1 ∧ s9.pkg.g .LNK_PRBS_CFG_LOOPBACK 0 = 0 ∧
      s9.pkg.g .LNK_PRBS_STAT_CHK_LOCK 0 = 0 ∧ 63 ≤ (s9.pkg.lane 0).run ∧ true = prbsNext (s9.pkg.g .LNK_PRBS_CFG_CHK_PAT 0) (s9.pkg.lane 0).chk ∧
      regInPattern (s9.pkg.g .LNK_PRBS_CFG_CHK_PAT 0) (s9.pkg.g .LNK_PRBS_USER 0) (prbsShift (s9.pkg.lane 0).chk true) = true) ∧
    (0 / 16 < s8.pkg.part.model.dies ∧ s8.pkg.laneSt 0 = .test ∧ s8.pkg.g .LNK_PRBS_CFG_CHK_EN 0 = 1 ∧ s8.pkg.g .LNK_PRBS_CFG_LOOPBACK 0 = 0 ∧
      s8.pkg.g .LNK_PRBS_STAT_CHK_LOCK 0 = 0 ∧ (s8.pkg.lane 0).run < 63) ∧
    (0 / 16 < s10.pkg.part.model.dies ∧ s10.pkg.laneSt 0 = .test ∧ s10.pkg.g .LNK_PRBS_CFG_CHK_EN 0 = 1 ∧ s10.pkg.g .LNK_PRBS_CFG_LOOPBACK 0 = 0 ∧
      s10.pkg.g .LNK_PRBS_STAT_CHK_LOCK 0 = 1) := by
  refine ⟨?_, ?_, ?_, ?_, ?_, ?_, ?_, ?_, ?_⟩ <;> decide +kernel
end PrbsRuns

end Pins

namespace Ports

def ln (l st ph : Nat) (s : Pkg) : Pkg := s.ps [(.LNK_LANE_STAT_STATE, l, st), (.LNK_LANE_STAT_PHASE, l, ph), (.LNK_LANE_CTRL_EN, l, 1)]
def port (st : Nat) (s : Pkg) : Pkg := s.ps [(.LNK_PORT_STAT_STATE, 0, st), (.LNK_PORT_STAT_OWNED, 0, 1), (.ARY_CFG_INFO_DEPTH, 0, 80),
  (.ARY_RUN_STAT_STATE, 0, 3)]
def lanes (st ph rate pid : Nat) (s : Pkg) : Pkg := (List.range 4).foldl (fun s l => (ln l st ph s).ps [(.LNK_LANE_STAT_RATE, l, rate),
  (.LNK_LANE_PARTNER_VALID, l, 1), (.LNK_LANE_PARTNER_ID, l, pid + l)]) s
def px (f : LPort → LPort) (s : Pkg) : Pkg := s.updPort 0 f
def z : Pkg := {}
def bnd (st rate pid : Nat) : Pkg := px (fun x => {x with peerPkg := 1, peerPort := 2}) (lanes 2 5 rate pid (port st z))
def up : Pkg := lanes 3 0 1 0 (port 4 z)
def aln : Pkg := lanes 3 0 1 0 (port 3 z)
def slave (s : Pkg) : Pkg := { s with part.masterSel := false }
def lpw (v : Nat) (s : Pkg) : Pkg := { s with pendw := [{ fld := .LNK_PORT_CTRL_LP, idx := 0, val := v, wait := 0 }] }

namespace PortsBondAndAlign
def s0 : State := st (bnd 1 1 0x88)
def s3 : State := st aln
def s4 : State := st (px (fun x => {x with ctlUp := true, phases := 4094}) (slave aln))
def s7 : State := st up
def s8 : State := st (lanes 5 0 1 0 (port 7 z))
/-- The hypotheses of `Obligations.PortsBondAndAlign` are met, clause by clause: `portBond`, `phaseFlit`, `portRealign`. -/
theorem witness_PortsBondAndAlign :
    ((s0.pkg.portSt 0 = .wait ∨ s0.pkg.portSt 0 = .bond ∨ s0.pkg.portSt 0 = .recover) ∧ s0.pkg.lanesT5 0 = true) ∧
    (s3.pkg.portSt 0 = .align ∧ (s3.pkg.port 0).ctlUp = false ∧ (s3.pkg.port 0).realign = false) ∧
    (s4.pkg.portSt 0 = .align ∧ (s4.pkg.port 0).ctlUp = true ∧ s4.pkg.isMaster = false ∧ ((s4.pkg.port 0).realign = true ∨
      ¬(-4 ≤ phaseOffset (s4.pkg.plus .LNK_STEP_CNT 0 0) 0 0 0 ∧ phaseOffset (s4.pkg.plus .LNK_STEP_CNT 0 0) 0 0 0 ≤ 4) ∨
      s4.pkg.g .LNK_CAS_STAT_ALIGNED 0 = 0)) ∧
    (s8.pkg.portSt 0 = .lowpwr ∧ ((s8.pkg.port 0).exiting = true ∨ s8.pkg.lanesActive 0 = false) ∧ (∀ l ∈ portLanes 0, s8.pkg.laneSt l = .cold ∨
      s8.pkg.laneSt l = .train)) ∧
    (s7.pkg.portSt 0 = .up) ∧
    (s0.pkg.unwatched = true ∧ 0 / 4 < s0.pkg.part.model.dies) := by
  refine ⟨?_, ?_, ?_, ?_, ?_, ?_⟩ <;> decide +kernel
end PortsBondAndAlign

namespace PortsGoDownAndSleep
def pw0 : PendW := { fld := .LNK_PORT_CTRL_LP, idx := 0, val := 1, wait := 0 }
def s0 : State := st up
def s1 : State := st (px (fun x => {x with silent := true, replay := [⟨3, .idle⟩]}) up)
def s2 : State := st (px (fun x => {x with silent := true, closing := true}) up)
def s3 : State := st (bnd 5 1 0)
def s5 : State := st ((port 6 z).p .ARY_RUN_STAT_STATE 0 2)
def s6 : State := st (lpw 1 up)
def s9 : State := st (px (fun x => {x with lpPeer := 1}) (up.p .LNK_PORT_CTRL_LP 0 2))
def s11 : State := st (px (fun x => {x with lpPeer := 1, sched := true}) (up.p .LNK_PORT_CTRL_LP 0 2))
/-- The hypotheses of `Obligations.PortsGoDownAndSleep` are met, clause by clause: `linkSilence`, `linkDownTimeout`, `portFaultClr`, `portSnap`,
`portLpApply`, `lowpwrEntry`. -/
theorem witness_PortsGoDownAndSleep :
    (s0.pkg.portSt 0 = .up) ∧
    (s3.pkg.portSt 0 ≠ .up) ∧
    ((s2.pkg.portSt 0 = .recover ∨ s2.pkg.portSt 0 = .up ∧ (s2.pkg.port 0).silent = true) ∧ (s2.pkg.port 0).closing = true) ∧
    ((s1.pkg.portSt 0 = .recover ∨ s1.pkg.portSt 0 = .up ∧ (s1.pkg.port 0).silent = true) ∧ (s1.pkg.port 0).closing = false) ∧
    (s0.pkg.portSt 0 ≠ .recover ∧ ¬(s0.pkg.portSt 0 = .up ∧ (s0.pkg.port 0).silent = true)) ∧
    (s5.pkg.unwatched = true ∧ 0 / 4 < s5.pkg.part.model.dies ∧ s5.pkg.portClrRefused 0 = false ∧ s5.pkg.portSt 0 = .down) ∧
    (s0.pkg.unwatched = true ∧ 0 / 4 < s0.pkg.part.model.dies ∧ s0.pkg.portClrRefused 0 = true) ∧
    (s0.pkg.unwatched = true ∧ 0 / 4 < s0.pkg.part.model.dies) ∧
    (List.find? (fun (w : PendW) => w.fld == .LNK_PORT_CTRL_LP && w.idx == 0) s0.pkg.pendw = none) ∧
    (List.find? (fun (w : PendW) => w.fld == .LNK_PORT_CTRL_LP && w.idx == 0) s6.pkg.pendw = some pw0 ∧ 0 < pw0.val ∧ pw0.val < 4) ∧
    (s11.pkg.portSt 0 = .up ∧ 0 < s11.pkg.g .LNK_PORT_CTRL_LP 0 ∧ s11.pkg.g .LNK_PORT_CTRL_LP 0 < 3 ∧ 0 < (s11.pkg.port 0).lpPeer ∧
      (s11.pkg.port 0).lpPeer < 3 ∧ (s11.pkg.port 0).sched = true ∧ ∃ (i : ℕ), s11.pkg.portOwner 0 = some i ∧ s11.pkg.runState i = .running) ∧
    (s9.pkg.portSt 0 = .up ∧ 0 < s9.pkg.g .LNK_PORT_CTRL_LP 0 ∧ s9.pkg.g .LNK_PORT_CTRL_LP 0 < 3 ∧ 0 < (s9.pkg.port 0).lpPeer ∧
      (s9.pkg.port 0).lpPeer < 3 ∧ ¬((s9.pkg.port 0).sched = true ∧ ∃ (i : ℕ), s9.pkg.portOwner 0 = some i ∧ s9.pkg.runState i = .running) ∧
      (s9.pkg.port 0).exiting = false ∧ (s9.pkg.port 0).replay = [] ∧ (s9.pkg.port 0).txSch = [] ∧ (s9.pkg.port 0).txCtl = [] ∧
      (s9.pkg.port 0).txSvc = [] ∧ (s9.pkg.port 0).txMem = []) := by
  refine ⟨?_, ?_, ?_, ?_, ?_, ?_, ?_, ?_, ?_, ?_, ?_, ?_⟩ <;> decide +kernel
end PortsGoDownAndSleep

namespace FlitsArriveAndLeave
def f0 : Flit := .idle
def f1 : Flit := .mem 5
def lf0 : List Flit := []
def rj0 : RecvJob := ({ mbx := 0, seq := 0, port := 0, addr := 100, len := 64 } : RecvJob)
def s0 : State := st (up.ps [(.SVC_RMT_ROUTE_VALID,1,1),(.SVC_RMT_ROUTE_PORT,1,0)])
def s3 : State := st {up with part.compat := 1}
def s6 : State := st (px (fun x => {x with silent := true}) up)
def s7 : State := st {up with recvs := [({ mbx := 0, seq := 0, port := 0, addr := 100, len := 64 } : RecvJob)]}
def s9 : State := st (px (fun x => {x with txMem := [.mem 5]}) (up.p .LNK_VC_CRD_AVAIL (vcKey 0 1) 9))
def s10 : State := st (px (fun x => {x with nak := true}) up)
def s11 : State := st (px (fun x => {x with since := 31}) up)
def s12 : State := st (px (fun x => {x with period := 8191}) up)
def s14 : State := st aln
def s15 : State := st ((px (fun x => {x with replay := [⟨0, .mem 1⟩, ⟨1, .mem 2⟩]}) up).p .LNK_SEQ_TX_NEXT 0 2)
def s16 : State := st (px (fun x => {x with resend := 1, replay := [⟨0, .mem 1⟩, ⟨1, .mem 2⟩]}) up)
/-- The hypotheses of `Obligations.FlitsArriveAndLeave` are met, clause by clause: `sched`, `schsync`, `svcFlit`, `memFlit`, `badFlit`, `idleFlit`,
`flitSend`, `lack`, `replayTimeout`. -/
theorem witness_FlitsArriveAndLeave :
    (s0.pkg.portSt 0 = .up ∧ 5 ≠ s0.pkg.g .LNK_SEQ_RX_EXP 0) ∧
    (s0.pkg.portSt 0 = .up ∧ 5 ≠ s0.pkg.g .LNK_SEQ_RX_EXP 0) ∧
    (s0.pkg.portSt 0 = .up ∧ 5 ≠ s0.pkg.g .LNK_SEQ_RX_EXP 0) ∧
    (s0.pkg.portSt 0 = .up ∧ 5 ≠ s0.pkg.g .LNK_SEQ_RX_EXP 0 ∧ s0.pkg.strapped 0 = false) ∧
    (s3.pkg.portSt 0 = .up ∧ s3.pkg.strapped 0 = true) ∧
    (s0.pkg.portSt 0 = .up ∧ Flit.ofImage (s0.pkg.strapped 0) 0 = none) ∧
    (s0.pkg.portSt 0 = .up ∧ Flit.ofImage (s0.pkg.strapped 0) (BitVec.ofNat 288 (Flit.image false 1 (Flit.mem 5))).toNat = some (1, f1) ∧
      f1.vc.isSome = true ∧ 1 ≠ s0.pkg.g .LNK_SEQ_RX_EXP 0) ∧
    (s0.pkg.portSt 0 = .up ∧ Flit.ofImage (s0.pkg.strapped 0) (BitVec.ofNat 288 (Flit.image false 0 Flit.idle)).toNat = some (0, f0) ∧ (f0.vc = none ∨
      0 = s0.pkg.g .LNK_SEQ_RX_EXP 0)) ∧
    (s0.pkg.portSt 0 = .up ∧ 0 = s0.pkg.g .LNK_SEQ_RX_EXP 0 ∧ s0.pkg.portOwner 0 = some 0 ∧
      s0.pkg.absStep 0 (s0.pkg.position 0).1 (s0.pkg.position 0).2 ≤ s0.pkg.absStep 0 ((s0.pkg.port 0).rxMcc - 1) 0 + modeK (s0.pkg.mode 0) * (s0.pkg.port 0).rxCnt) ∧
    (s0.pkg.portSt 0 = .up ∧ 0 = s0.pkg.g .LNK_SEQ_RX_EXP 0 ∧ s0.pkg.portOwner 0 = some 0 ∧ 0 = (s0.pkg.port 0).rxMcc ∧ 80 = s0.pkg.depth 0 ∧
      ((s0.pkg.port 0).rxOn = true → (s0.pkg.port 0).rxCnt = s0.pkg.depth 0 / modeK (s0.pkg.mode 0))) ∧
    (s0.pkg.portSt 0 = .up ∧ 0 = s0.pkg.g .LNK_SEQ_RX_EXP 0 ∧ s0.pkg.portOwner 0 = some 0 ∧ (0 ≠ s0.pkg.depth 0 ∨ 0 ≠ (s0.pkg.port 0).rxMcc ∨
      (s0.pkg.port 0).rxOn = true ∧ (s0.pkg.port 0).rxCnt ≠ s0.pkg.depth 0 / modeK (s0.pkg.mode 0))) ∧
    (s0.pkg.portSt 0 = .up ∧ 0 = s0.pkg.g .LNK_SEQ_RX_EXP 0 ∧ s0.pkg.strapped 0 = false ∧ 2 % 16 = 2 ∧
      (s0.pkg.recvs.any fun (r : RecvJob) => r.port == 0) = false) := by
  refine ⟨?_, ?_, ?_, ?_, ?_, ?_, ?_, ?_, ?_, ?_, ?_, ?_⟩ <;> decide +kernel
theorem witness_FlitsArriveAndLeave_2 :
    (s7.pkg.portSt 0 = .up ∧ 0 = s7.pkg.g .LNK_SEQ_RX_EXP 0 ∧ s7.pkg.strapped 0 = false ∧ 2 % 16 = 2 ∧
      List.find? (fun (r : RecvJob) => r.port == 0) s7.pkg.recvs = some rj0 ∧ rj0.fail = none ∧
      ((s7.pkg.port 0).rxMem.all fun (y : ℕ) => y % 16 != 2) = true ∧ rj0.got + bits 2 8 8 ≤ rj0.len) ∧
    (s0.pkg.portSt 0 = .up ∧ 0 = s0.pkg.g .LNK_SEQ_RX_EXP 0 ∧ s0.pkg.strapped 0 = false ∧ 1283 % 16 = 3 ∧
      ((s0.pkg.port 0).rxMem.all fun (y : ℕ) => y % 16 != 3) = true) ∧
    (s0.pkg.portSt 0 = .up ∧ 0 = s0.pkg.g .LNK_SEQ_RX_EXP 0 ∧ bits 0 112 16 ≠ headerChk 0) ∧
    (s0.pkg.portSt 0 = .up ∧ 0 = s0.pkg.g .LNK_SEQ_RX_EXP 0 ∧
      bits (BitVec.ofNat 256 (2 ^ 28 + headerChk (2 ^ 28) * 2 ^ 112)).toNat 112 16 = headerChk (BitVec.ofNat 256 (2 ^ 28 + headerChk (2 ^ 28) * 2 ^ 112)).toNat ∧
      (if (BitVec.ofNat 256 (2 ^ 28 + headerChk (2 ^ 28) * 2 ^ 112)).toNat % 16 = 0 ∨
      (BitVec.ofNat 256 (2 ^ 28 + headerChk (2 ^ 28) * 2 ^ 112)).toNat % 16 = 1 then bits (BitVec.ofNat 256 (2 ^ 28 + headerChk (2 ^ 28) * 2 ^ 112)).toNat 28 6 else bits (BitVec.ofNat 256 (2 ^ 28 + headerChk (2 ^ 28) * 2 ^ 112)).toNat 22 6) ≠ s0.pkg.part.pkgId ∧
      s0.pkg.route (if (BitVec.ofNat 256 (2 ^ 28 + headerChk (2 ^ 28) * 2 ^ 112)).toNat % 16 = 0 ∨
      (BitVec.ofNat 256 (2 ^ 28 + headerChk (2 ^ 28) * 2 ^ 112)).toNat % 16 = 1 then bits (BitVec.ofNat 256 (2 ^ 28 + headerChk (2 ^ 28) * 2 ^ 112)).toNat 28 6 else bits (BitVec.ofNat 256 (2 ^ 28 + headerChk (2 ^ 28) * 2 ^ 112)).toNat 22 6) = some 0) ∧
    (s0.pkg.portSt 0 = .up ∧ 0 = s0.pkg.g .LNK_SEQ_RX_EXP 0 ∧
      bits (BitVec.ofNat 256 (headerChk 0 * 2 ^ 112)).toNat 112 16 = headerChk (BitVec.ofNat 256 (headerChk 0 * 2 ^ 112)).toNat ∧
      (if (BitVec.ofNat 256 (headerChk 0 * 2 ^ 112)).toNat % 16 = 0 ∨
      (BitVec.ofNat 256 (headerChk 0 * 2 ^ 112)).toNat % 16 = 1 then bits (BitVec.ofNat 256 (headerChk 0 * 2 ^ 112)).toNat 28 6 else bits (BitVec.ofNat 256 (headerChk 0 * 2 ^ 112)).toNat 22 6) = s0.pkg.part.pkgId ∧
      (BitVec.ofNat 256 (headerChk 0 * 2 ^ 112)).toNat % 16 < 2 ∧ s0.pkg.freeTag (96 + 0 / 4) = some 0) ∧
    (s6.pkg.portSt 0 = .up ∧ (s6.pkg.port 0).silent = true) ∧
    (s0.pkg.portSt 0 = .up ∧ (s0.pkg.port 0).silent = false) ∧
    ((s12.pkg.portSt 0 = .up ∨ s12.pkg.portSt 0 = .align) ∧ { (s12.pkg.port 0) with period := (s12.pkg.port 0).period + 1 }.period = 8192) ∧
    (s14.pkg.portSt 0 = .align ∧ { (s14.pkg.port 0) with period := (s14.pkg.port 0).period + 1 }.period ≠ 8192) ∧
    (s16.pkg.portSt 0 = .up ∧ { (s16.pkg.port 0) with period := (s16.pkg.port 0).period + 1 }.period ≠ 8192 ∧
      0 < { (s16.pkg.port 0) with period := (s16.pkg.port 0).period + 1 }.resend ∧
      { (s16.pkg.port 0) with period := (s16.pkg.port 0).period + 1 }.resend ≤ { (s16.pkg.port 0) with period := (s16.pkg.port 0).period + 1 }.replay.length) ∧
    (s10.pkg.portSt 0 = .up ∧ { (s10.pkg.port 0) with period := (s10.pkg.port 0).period + 1 }.period ≠ 8192 ∧
      { (s10.pkg.port 0) with period := (s10.pkg.port 0).period + 1 }.resend = 0 ∧
      { (s10.pkg.port 0) with period := (s10.pkg.port 0).period + 1 }.nak = true ∧
      { (s10.pkg.port 0) with period := (s10.pkg.port 0).period + 1 }.nakAge = 64) ∧
    (s11.pkg.portSt 0 = .up ∧ { (s11.pkg.port 0) with period := (s11.pkg.port 0).period + 1 }.period ≠ 8192 ∧
      { (s11.pkg.port 0) with period := (s11.pkg.port 0).period + 1 }.resend = 0 ∧
      ¬({ (s11.pkg.port 0) with period := (s11.pkg.port 0).period + 1 }.nak = true ∧
      { (s11.pkg.port 0) with period := (s11.pkg.port 0).period + 1 }.nakAge = 64) ∧
      { (s11.pkg.port 0) with period := (s11.pkg.port 0).period + 1 }.lackTime = true) := by
  refine ⟨?_, ?_, ?_, ?_, ?_, ?_, ?_, ?_, ?_, ?_, ?_, ?_⟩ <;> decide +kernel
theorem witness_FlitsArriveAndLeave_3 :
    (s9.pkg.portSt 0 = .up ∧ { (s9.pkg.port 0) with period := (s9.pkg.port 0).period + 1 }.period ≠ 8192 ∧
      { (s9.pkg.port 0) with period := (s9.pkg.port 0).period + 1 }.resend = 0 ∧
      ¬({ (s9.pkg.port 0) with period := (s9.pkg.port 0).period + 1 }.nak = true ∧
      { (s9.pkg.port 0) with period := (s9.pkg.port 0).period + 1 }.nakAge = 64) ∧
      { (s9.pkg.port 0) with period := (s9.pkg.port 0).period + 1 }.lackTime = false ∧
      List.find? (fun (e : ℕ × List Flit) => !e.2.isEmpty && s9.pkg.canSend 0 e.1) [(0, { (s9.pkg.port 0) with period := (s9.pkg.port 0).period + 1 }.txSch), (3, { (s9.pkg.port 0) with period := (s9.pkg.port 0).period + 1 }.txCtl), (2, { (s9.pkg.port 0) with period := (s9.pkg.port 0).period + 1 }.txSvc), (1, if s9.pkg.strapped 0 = true then [] else { (s9.pkg.port 0) with period := (s9.pkg.port 0).period + 1 }.txMem)] = some (1, f1 :: lf0)) ∧
    (s0.pkg.portSt 0 = .up ∧ { (s0.pkg.port 0) with period := (s0.pkg.port 0).period + 1 }.period ≠ 8192 ∧
      { (s0.pkg.port 0) with period := (s0.pkg.port 0).period + 1 }.resend = 0 ∧
      ¬({ (s0.pkg.port 0) with period := (s0.pkg.port 0).period + 1 }.nak = true ∧
      { (s0.pkg.port 0) with period := (s0.pkg.port 0).period + 1 }.nakAge = 64) ∧
      { (s0.pkg.port 0) with period := (s0.pkg.port 0).period + 1 }.lackTime = false ∧
      List.find? (fun (e : ℕ × List Flit) => !e.2.isEmpty && s0.pkg.canSend 0 e.1) [(0, { (s0.pkg.port 0) with period := (s0.pkg.port 0).period + 1 }.txSch), (3, { (s0.pkg.port 0) with period := (s0.pkg.port 0).period + 1 }.txCtl), (2, { (s0.pkg.port 0) with period := (s0.pkg.port 0).period + 1 }.txSvc), (1, if s0.pkg.strapped 0 = true then [] else { (s0.pkg.port 0) with period := (s0.pkg.port 0).period + 1 }.txMem)] = none) ∧
    (s0.pkg.portSt 0 = .up ∧ { (s0.pkg.port 0) with period := (s0.pkg.port 0).period + 1 }.rebase = false ∧
      { (s0.pkg.port 0) with period := (s0.pkg.port 0).period + 1 }.closing = false ∧
      0 ≤ { (s0.pkg.port 0) with period := (s0.pkg.port 0).period + 1 }.replay.length ∧
      { (s0.pkg.port 0) with period := (s0.pkg.port 0).period + 1 }.replay.length < 4096 ∧
      (4095 + 1 + { (s0.pkg.port 0) with period := (s0.pkg.port 0).period + 1 }.replay.length) % 4096 = (s0.pkg.g .LNK_SEQ_TX_NEXT 0 + 0) % 4096) ∧
    (s15.pkg.portSt 0 = .up ∧ { (s15.pkg.port 0) with period := (s15.pkg.port 0).period + 1 }.rebase = false ∧
      { (s15.pkg.port 0) with period := (s15.pkg.port 0).period + 1 }.closing = false ∧
      1 ≤ { (s15.pkg.port 0) with period := (s15.pkg.port 0).period + 1 }.replay.length ∧
      { (s15.pkg.port 0) with period := (s15.pkg.port 0).period + 1 }.replay.length < 4096 ∧
      (0 + 1 + { (s15.pkg.port 0) with period := (s15.pkg.port 0).period + 1 }.replay.length) % 4096 = (s15.pkg.g .LNK_SEQ_TX_NEXT 0 + 1) % 4096 ∧
      1 < { (s15.pkg.port 0) with period := (s15.pkg.port 0).period + 1 }.replay.length) ∧
    (s15.pkg.portSt 0 = .up ∧ 0 < { (s15.pkg.port 0) with period := (s15.pkg.port 0).period + 1 }.replay.length) ∧
    ((s0.pkg.portSt 0 ≠ .up ∨ { (s0.pkg.port 0) with period := (s0.pkg.port 0).period + 1 }.replay.length = 0)) := by
  refine ⟨?_, ?_, ?_, ?_, ?_, ?_⟩ <;> decide +kernel
end FlitsArriveAndLeave

namespace CascadeTimesAct
def s0 : State := {}
def s1 : State :=
  st (slave {up.ps [(.LNK_CAS_STAT_UP_VALID,0,1)] with insts := [(0, {desc := {cascade := true}})], ports := [(0, {ctlUp := true, cfgd := true})]})
def s2 : State :=
  st {up with insts := [(0, {desc := {cascade := true}})], cas := {peers := [(5, 0)], starts := [{inst := 0, count := 10, resume := false}]}, flds := (up.p .LNK_CAS_ALIVE 0 32).flds}
def s4 : State := st (slave { (up.p .ARY_RUN_STAT_STATE 0 2) with insts := [(0, {desc := {cascade := true}, startAt := some 7})] })
def sr0 : StartReq := {inst := 0, count := 10, resume := false}
/-- The hypotheses of `Obligations.CascadeTimesAct` are met, clause by clause: `heartbeatSend`, `peerTimeout`, `startAckDeadline`, `cascadeStartCount`. -/
theorem witness_CascadeTimesAct :
    (s1.pkg.isMaster = false ∧ s1.pkg.masterFailed = false ∧ s1.pkg.upPort = some 0 ∧ (s1.pkg.inst 0).desc.cascade = true ∧
      s1.pkg.runState 0 ≠ .unloaded) ∧
    (s0.pkg.isMaster = true) ∧
    (s2.pkg.isMaster = true ∧ bit (s2.pkg.g .LNK_CAS_ALIVE 0) 5 = true) ∧
    ((s0.pkg.isMaster = false ∨ bit (s0.pkg.g .LNK_CAS_ALIVE 0) 0 = false)) ∧
    (s2.pkg.lateStart = some sr0 ∧ sr0.inst = 0) ∧
    (s0.pkg.lateStart = none) ∧
    ((s4.pkg.inst 0).startAt = some 7 ∧ s4.pkg.runState 0 = .loaded ∧ s4.pkg.resetting 0 = false ∧ s4.pkg.patching 0 = false ∧
      s4.pkg.relocating 0 = false ∧ s4.pkg.g .TRN_INST_STAT_BAD 0 = 0 ∧ (s4.pkg.isMaster = false ∨ s4.pkg.allAcked 0 = true)) := by
  refine ⟨?_, ?_, ?_, ?_, ?_, ?_, ?_⟩ <;> decide +kernel
end CascadeTimesAct

end Ports

namespace Cascade

def z : Pkg := {}
def base (st : Nat) : Pkg := z.ps [(.LNK_PORT_STAT_STATE, 0, 4), (.LNK_PORT_STAT_OWNED, 0, 1), (.LNK_PORT_STAT_STATE, 1, 4), (.LNK_PORT_STAT_OWNED, 1,
  1), (.ARY_CFG_INFO_DEPTH, 0, 80), (.ARY_RUN_STAT_STATE, 0, st)]
def cas (s : Pkg) : Pkg :=
  { s with insts := [(0, {desc := {cascade := true}})], ports := [(1, {ctlUp := true})], flds := (s.p .LNK_CAS_STAT_UP_VALID 0 1 |>.p .LNK_CAS_STAT_UP_PORT 0 1).flds }
def slave (s : Pkg) : Pkg :=
  { s with part.masterSel := false, ports := [(1, {ctlUp := true})], flds := (s.p .LNK_CAS_STAT_UP_VALID 0 1 |>.p .LNK_CAS_STAT_UP_PORT 0 1).flds }
def hd : StreamHdr :=
  { magic := 0x59425453, version := 0x0200, keysrc := 2, gen := 1, nonce := 0, npkg := 2, master := 0, flags := 1, stream := 7, pkgs := [(0, 0, 1, 2), (5, 0, 1, 2)] }
def ld (ph : Nat) (s : Pkg) : Pkg := { s.p .CFG_LOAD_STAT_PHASE 0 ph with load := { active := true, hdr := some hd, last := true } }

namespace MasterHearsItsPackages
def s0 : State := st (base 3)
def s1 : State := st (ld 3 (base 0))
def s3 : State := st {ld 5 (base 0) with cas := {ready := [(0, 0, 0)]}}
def s4 : State := st {cas (base 3) with cas := {starts := [{inst := 0, count := 5, resume := false}], await := [5, 6]}}
def s5 : State := st (slave (base 3))
def sr0 : StartReq := {inst := 0, count := 5, resume := false}
/-- The hypotheses of `Obligations.MasterHearsItsPackages` are met, clause by clause: `ready`, `fail`, `commitAck`, `startAck`, `casEvent`, `heartbeat`.
-/
theorem witness_MasterHearsItsPackages :
    (s1.pkg.portSt 0 = .up ∧ 0 = s1.pkg.g .LNK_SEQ_RX_EXP 0 ∧ s1.pkg.isMaster = true ∧ s1.pkg.load.active = true ∧
      (s1.pkg.cas.ready.any fun (e : ℕ × ℕ × ℕ) => e.1 == 0 && e.2.1 != 0) = false ∧ s1.pkg.waiting = false) ∧
    (s3.pkg.portSt 0 = .up ∧ 0 = s3.pkg.g .LNK_SEQ_RX_EXP 0 ∧ s3.pkg.isMaster = true ∧ s3.pkg.load.active = true ∧
      (s3.pkg.cas.ready.any fun (e : ℕ × ℕ × ℕ) => e.1 == 5 && e.2.1 != 0) = false ∧ s3.pkg.waiting = true ∧
      (∀ p ∈ s3.pkg.listed, p ∈ List.map (fun (x : ℕ × ℕ × ℕ) => x.1) (List.filter (fun (e : ℕ × ℕ × ℕ) => e.1 != 5) s3.pkg.cas.ready ++ [(5, 0, 0)]))) ∧
    (s1.pkg.portSt 0 = .up ∧ 0 = s1.pkg.g .LNK_SEQ_RX_EXP 0 ∧ s1.pkg.isMaster = true ∧ s1.pkg.load.active = true) ∧
    (s0.pkg.portSt 0 = .up ∧ 0 = s0.pkg.g .LNK_SEQ_RX_EXP 0 ∧ s0.pkg.isMaster = true) ∧
    (s4.pkg.portSt 0 = .up ∧ 0 = s4.pkg.g .LNK_SEQ_RX_EXP 0 ∧ s4.pkg.isMaster = true ∧ s4.pkg.startReq 0 = some sr0) ∧
    (s4.pkg.portSt 0 = .up ∧ 0 = s4.pkg.g .LNK_SEQ_RX_EXP 0 ∧ s4.pkg.isMaster = true ∧ s4.pkg.startReq 0 = some sr0 ∧ 3 ≠ 0) ∧
    (s0.pkg.portSt 0 = .up ∧ 0 = s0.pkg.g .LNK_SEQ_RX_EXP 0 ∧ s0.pkg.isMaster = true ∧ (3 = 3 ∨ 3 = 4 ∨ 3 = 5 ∨ 3 = 14) ∧
      s0.pkg.runState 0 = .running ∧ s0.pkg.g .ARY_MCC 0 + s0.pkg.stopLead 0 < 2 ^ 64) ∧
    (s0.pkg.portSt 0 = .up ∧ 0 = s0.pkg.g .LNK_SEQ_RX_EXP 0 ∧ s0.pkg.isMaster = true ∧ s0.pkg.runs 0 = true) ∧
    (s0.pkg.portSt 0 = .up ∧ 0 = s0.pkg.g .LNK_SEQ_RX_EXP 0 ∧ s0.pkg.isMaster = true) ∧
    (s5.pkg.portSt 0 = .up ∧ 0 = s5.pkg.g .LNK_SEQ_RX_EXP 0 ∧ s5.pkg.isMaster = false ∧ s5.pkg.upPort = some 1) := by
  refine ⟨?_, ?_, ?_, ?_, ?_, ?_, ?_, ?_, ?_, ?_⟩ <;> decide +kernel
end MasterHearsItsPackages

namespace SlavesObey
def s0 : State := st (base 3)
def s1 : State := st (ld 5 (base 0))
def s2 : State := st (slave (ld 5 (base 0)))
def s3 : State := st (slave (cas (base 3)))
def s5 : State := st (slave (base 2))
/-- The hypotheses of `Obligations.SlavesObey` are met, clause by clause: `commit`, `abort`, `casStart`, `startCancel`, `casStopAt`, `freezeNow`, `halt`,
`faultNote`, `flush`, `lpReq`. -/
theorem witness_SlavesObey :
    (s2.pkg.portSt 0 = .up ∧ 0 = s2.pkg.g .LNK_SEQ_RX_EXP 0 ∧ (false = true ∨ 0 = s2.pkg.part.pkgId) ∧ s2.pkg.waiting = true ∧
      s2.pkg.isMaster = false) ∧
    (s1.pkg.portSt 0 = .up ∧ 0 = s1.pkg.g .LNK_SEQ_RX_EXP 0 ∧ (false = true ∨ 0 = s1.pkg.part.pkgId) ∧ s1.pkg.load.active = true) ∧
    (s0.pkg.portSt 0 = .up ∧ 0 = s0.pkg.g .LNK_SEQ_RX_EXP 0 ∧ (false = true ∨ 0 = s0.pkg.part.pkgId) ∧ s0.pkg.load.active = false) ∧
    (s5.pkg.portSt 0 = .up ∧ 0 = s5.pkg.g .LNK_SEQ_RX_EXP 0 ∧ (false = true ∨ 0 = s5.pkg.part.pkgId) ∧ s5.pkg.startCode 0 false 0 = 0) ∧
    (s0.pkg.portSt 0 = .up ∧ 0 = s0.pkg.g .LNK_SEQ_RX_EXP 0 ∧ (false = true ∨ 0 = s0.pkg.part.pkgId) ∧ s0.pkg.startCode 0 false 0 ≠ 0) ∧
    (s0.pkg.portSt 0 = .up ∧ 0 = s0.pkg.g .LNK_SEQ_RX_EXP 0 ∧ (false = true ∨ 0 = s0.pkg.part.pkgId)) ∧
    (s0.pkg.portSt 0 = .up ∧ 0 = s0.pkg.g .LNK_SEQ_RX_EXP 0 ∧ (false = true ∨ 0 = s0.pkg.part.pkgId) ∧ s0.pkg.g .ARY_MCC 0 < 3) ∧
    (s0.pkg.portSt 0 = .up ∧ 0 = s0.pkg.g .LNK_SEQ_RX_EXP 0 ∧ (false = true ∨ 0 = s0.pkg.part.pkgId) ∧ 0 ≤ s0.pkg.g .ARY_MCC 0 ∧
      s0.pkg.runState 0 = .running) ∧
    (s0.pkg.portSt 0 = .up ∧ 0 = s0.pkg.g .LNK_SEQ_RX_EXP 0 ∧ (false = true ∨ 0 = s0.pkg.part.pkgId) ∧ s0.pkg.runs 0 = true) ∧
    (s3.pkg.portSt 0 = .up ∧ 0 = s3.pkg.g .LNK_SEQ_RX_EXP 0 ∧ (false = true ∨ 0 = s3.pkg.part.pkgId) ∧ s3.pkg.runState 0 = .running ∧
      (s3.pkg.inst 0).desc.cascade = true) ∧
    (s3.pkg.portSt 0 = .up ∧ 0 = s3.pkg.g .LNK_SEQ_RX_EXP 0 ∧ s3.pkg.portOwner 0 = some 0 ∧ s3.pkg.runState 0 = .running ∧
      (s3.pkg.inst 0).desc.cascade = true) ∧
    (s0.pkg.portSt 0 = .up ∧ 0 = s0.pkg.g .LNK_SEQ_RX_EXP 0) := by
  refine ⟨?_, ?_, ?_, ?_, ?_, ?_, ?_, ?_, ?_, ?_, ?_, ?_⟩ <;> decide +kernel
theorem witness_SlavesObey_2 :
    (s0.pkg.portSt 0 = .up ∧ 0 = s0.pkg.g .LNK_SEQ_RX_EXP 0) ∧
    (s0.pkg.portSt 0 = .up ∧ 0 = s0.pkg.g .LNK_SEQ_RX_EXP 0) := by
  refine ⟨?_, ?_⟩ <;> decide +kernel
end SlavesObey

end Cascade

namespace Registers

def z : Pkg := {}
def offs : List Nat := [13631496, 13762588, 1048664, 1048588, 2048, 13762589]
def trd (st run row : Nat) : Pkg := z.ps [(.WHY_CAP_STAT_OWNED, 0, 1), (.WHY_CAP_STAT_STATE, 0, st), (.ARY_RUN_STAT_STATE, 0, run),
  (.ARY_CFG_INFO_DEPTH, 0, 80), (.WHY_SINK_CFG_RING_SEGS, 0, 1), (.WHY_SINK_CFG_RING_MODE, 0, 2), (.WHY_SINK_CFG_OWNED, 0, 1), (.LNK_PORT_STAT_STATE,
  0, 4)] |>.updInst 0 fun x => { x with row := row }
def fifo (s : Pkg) : Pkg := { s.p .WHY_FIFO_LEVEL 0 5 with trc.eng := [(0, { fifo := [1, 2, 3, 4, 5] })] }

namespace CaptureIsControlled
def s0 : State := {}
def s1 : State := st (trd 0 2 0)
def s2 : State := st (trd 0 3 1)
def s4 : State := st (trd 1 3 1)
def s5 : State := st (trd 2 2 0)
def s6 : State := st (fifo (trd 3 2 0))
def s7 : State := st (fifo ((trd 3 2 0).ps [(.WHY_SINK_CFG_SINK, 0, 1)]))
def s8 : State := st { trd 3 2 0 with trc.deferArm := true }
def s9 : State := st { trd 3 3 3 with trc.deferArm := true }
def s10 : State := st ((trd 1 2 0).p .RNT_CTL 0 1)
/-- The hypotheses of `Obligations.CaptureIsControlled` are met, clause by clause: `whyArm`, `whyStop`, `whySnap`, `ringRptrWrite`, `deferredArm`,
`fifoDrain`, `autoTriggerTimeout`. -/
theorem witness_CaptureIsControlled :
    (s1.pkg.unwatched = true ∧ s1.pkg.traced = some 0 ∧ s1.pkg.capturing = false ∧ s1.pkg.drained = true ∧ s1.pkg.atBoundary 0 = true) ∧
    (s2.pkg.unwatched = true ∧ s2.pkg.traced = some 0 ∧ s2.pkg.capturing = false ∧ s2.pkg.drained = true ∧ s2.pkg.atBoundary 0 = false) ∧
    (s6.pkg.unwatched = true ∧ s6.pkg.traced = some 0 ∧ s6.pkg.capturing = false ∧ s6.pkg.drained = false) ∧
    (s5.pkg.unwatched = true ∧ s5.pkg.traced = some 0 ∧ s5.pkg.capturing = true ∧ s5.pkg.atBoundary 0 = true) ∧
    (s4.pkg.unwatched = true ∧ s4.pkg.traced = some 0 ∧ s4.pkg.capturing = true ∧ s4.pkg.atBoundary 0 = false) ∧
    (s0.pkg.unwatched = true ∧ (s0.pkg.traced = none ∨ s0.pkg.capturing = true)) ∧
    (s0.pkg.unwatched = true ∧ (s0.pkg.traced = none ∨ s0.pkg.capturing = false)) ∧
    (s0.pkg.unwatched = true) ∧
    (s1.pkg.unwatched = true ∧ 0 < s1.pkg.part.model.dies ∧ s1.pkg.g .WHY_SINK_CFG_RING_MODE 0 = 2 ∧ s1.pkg.ringLen 0 ≠ 0 ∧ 0 < s1.pkg.ringLen 0 ∧
      (0 + s1.pkg.ringLen 0 - s1.pkg.g .WHY_RING_RPTR 0) % s1.pkg.ringLen 0 ≤ (s1.pkg.g .WHY_RING_WPTR 0 + s1.pkg.ringLen 0 - s1.pkg.g .WHY_RING_RPTR 0) % s1.pkg.ringLen 0 ∧
      s1.pkg.g .WHY_SINK_CFG_SINK 0 ≠ 2) ∧
    (s1.pkg.unwatched = true ∧ 0 < s1.pkg.part.model.dies ∧ s1.pkg.g .WHY_SINK_CFG_RING_MODE 0 = 2 ∧ s1.pkg.ringLen 0 ≠ 0 ∧ 0 < s1.pkg.ringLen 0 ∧
      (0 + s1.pkg.ringLen 0 - s1.pkg.g .WHY_RING_RPTR 0) % s1.pkg.ringLen 0 ≤ (s1.pkg.g .WHY_RING_WPTR 0 + s1.pkg.ringLen 0 - s1.pkg.g .WHY_RING_RPTR 0) % s1.pkg.ringLen 0) ∧
    (s0.pkg.unwatched = true ∧ 0 < s0.pkg.part.model.dies ∧ (s0.pkg.g .WHY_SINK_CFG_RING_MODE 0 ≠ 2 ∨ s0.pkg.ringLen 0 = 0)) ∧
    (s1.pkg.unwatched = true ∧ 0 < s1.pkg.part.model.dies ∧ s1.pkg.g .WHY_SINK_CFG_RING_MODE 0 = 2 ∧ s1.pkg.ringLen 0 ≠ 0 ∧
      s1.pkg.ringLen 0 ≤ (BitVec.ofNat 64 (1024 * 1024 * 1024)).toNat) := by
  refine ⟨?_, ?_, ?_, ?_, ?_, ?_, ?_, ?_, ?_, ?_, ?_, ?_⟩ <;> decide +kernel
theorem witness_CaptureIsControlled_2 :
    (s9.pkg.trc.deferArm = true ∧ s9.pkg.drained = true ∧ s9.pkg.tracedStopped = false) ∧
    (s8.pkg.trc.deferArm = true ∧ s8.pkg.drained = true ∧ s8.pkg.tracedStopped = true) ∧
    ((s0.pkg.trc.deferArm = false ∨ s0.pkg.drained = false)) ∧
    (s1.pkg.engOwned 0 = true ∧ s1.pkg.g .WHY_SINK_CFG_SINK 0 = 0 ∧ s1.pkg.g .WHY_SINK_CFG_RING_SEGS 0 ≠ 0 ∧ s1.pkg.capturing = false ∧
      s1.pkg.g .WHY_RING_WPTR 0 < s1.pkg.ringLen 0) ∧
    (s0.pkg.hasStream 0 = false) ∧
    (s7.pkg.engOwned 0 = true ∧ s7.pkg.g .WHY_SINK_CFG_SINK 0 = 1 ∧ s7.pkg.capturing = false ∧ s7.pkg.portSt (s7.pkg.g .WHY_SINK_CFG_PORT 0) = .up ∧
      0 < 1 ∧ 1 ≤ 30) ∧
    (s10.pkg.g .WHY_CAP_STAT_STATE 0 = 1 ∧ s10.pkg.g .RNT_CTL 0 = 1) ∧
    ((s0.pkg.g .WHY_CAP_STAT_STATE 0 ≠ 1 ∨ s0.pkg.g .RNT_CTL 0 = 0)) := by
  refine ⟨?_, ?_, ?_, ?_, ?_, ?_, ?_, ?_⟩ <;> decide +kernel
end CaptureIsControlled

namespace RegisterWritesAct
/-- The offsets looked at: LNK_DOWN_TMO (RW), ARY_BP_REFUSE (RO), LNK_PRBS_USER, and one no register has. -/
def offs : List Nat := [13631496, 2048, 13762588]
/-- The registers that stand there. -/
def regs : List RegSpec := offs.filterMap fun o => match slotAt o with
  | some (b, k, base) => match slotLoc b k 0 (o / 4 * 4 - base) with
    | .reg r _ false => some r
    | _ => none
  | none => none
def tmo : RegSpec := regs[0]'(by decide +kernel)
def refuse : RegSpec := regs[1]'(by decide +kernel)
def user : RegSpec := regs[2]'(by decide +kernel)
def p0 : Pkg := {}
theorem tmo_reg : tmo.reg = .LNK_DOWN_TMO := by decide +kernel
theorem tmo_fields : tmo.fields = [{ fld := some .LNK_DOWN_TMO, hi := 19, lo := 0, acc := .RW }] := by decide +kernel
theorem tmo_plain (u : Pkg) (n k v x : Nat) : u.regAct n tmo k v x = .inr (u.writeFields tmo k v x) := by
  simp only [Pkg.regAct, tmo_reg]
theorem tmo_views : ∀ f ∈ tmo.fields, f.acc = Acc.RW ∧ ∃ x, f.fld = some x ∧ ∀ (u : Pkg) (fu : Fuses) (k : Nat), u.view fu x k = u.g x k := by
  intro f h
  rw [tmo_fields, List.mem_singleton] at h
  subst h
  exact ⟨rfl, .LNK_DOWN_TMO, rfl, fun _ _ _ => rfl⟩
/-- The hypotheses of `Obligations.RegisterWritesAct` are met, clause by clause (an RW register at its word and through the alias window at a bit of its
field and at bit 31, a read-only one, a misaligned address, missing byte enables, an offset with no register and one in no slot, an absent die):
`registerWrite`, `aliasWrite`. -/
theorem witness_RegisterWritesAct :
    (p0.unwatched = true ∧ 0 < p0.part.model.dies ∧ slotAt 2048 = some (.ARY, .die, 0) ∧ slotLoc .ARY .die 0 2048 = .reg refuse 0 false ∧
      p0.regGuard none (refuse.unit 0) = none ∧ refuse.fields.any FieldSpec.writable = false) ∧
    (slotAt 13631496 = some (.LNK, .die, 13631488) ∧ slotLoc .LNK .die 0 8 = .reg tmo 0 false ∧ p0.regGuard none (tmo.unit 0) = none ∧
      tmo.fields.any FieldSpec.writable = true ∧ (∀ (u : Pkg) (n k v x : Nat), u.regAct n tmo k v x = .inr (u.writeFields tmo k v x)) ∧
      tmo.reg ≠ .TIM_ADJ ∧ tmo.wide = false ∧
      (∀ f ∈ tmo.fields, f.acc = Acc.RW ∧ ∃ x, f.fld = some x ∧ ∀ (u : Pkg) (fu : Fuses) (k : Nat), u.view fu x k = u.g x k) ∧
      13631496 = 4 * 3407874 ∧ (∀ f ∈ tmo.fields, f.lo ≤ 19 ∧ 19 ≤ f.hi ∧ f.hi < 31) ∧ tmo.fields ≠ []) ∧
    (slotAt 13762589 = some (.LNK, .die, 13631488) ∧ slotLoc .LNK .die 0 (13762589 / 4 * 4 - 13631488) = .reg user 0 false ∧ 13762589 % 4 ≠ 0) ∧
    (slotAt 0 = some (.ARY, .die, 0) ∧ slotLoc .ARY .die 0 0 = .bad) ∧ (28311552 < regSpace ∧ slotAt 28311552 = none) ∧
    ({ part := { model := .gl2 } : Pkg }.part.model.dies ≤ 7) := by
  refine ⟨?_, ⟨?_, ?_, ?_, ?_, tmo_plain, ?_, ?_, tmo_views, ?_, ?_, ?_⟩, ?_, ?_, ?_, ?_⟩ <;> decide +kernel
end RegisterWritesAct

end Registers

namespace Commands

def z : Pkg := {}
def ar (l : List (Nat × Nat × Nat)) : List Nat :=
  l.foldl (fun b e => (List.range e.2.1).foldl (fun b k => b.set (e.1 + k) (e.2.2 / 256 ^ k % 256)) b) (List.replicate 40 0)
def msg (op inst flags : Nat) (a : List (Nat × Nat × Nat)) : Msg :=
  { seq := 0, op := op, prio := 0, inst := inst, flags := flags, args := ar a, tag := 0, order := 0 }
def cmd (j : Msg) (s : Pkg) : Pkg := { s.p .MBX_MP_STAT_STATE 0 2 with mbx := [(0, { run := [j] })] }
def item (s : Pkg) : Pkg := { s with sch.items := [{ num := 0, prio := 0, inst := none, arr := 0, ref := .cmd 0 0 }], sch.num := 1 }
def nopool (s : Pkg) : Pkg := s.p .SCH_POOL 0 0
def own (n : Nat) (s : Pkg) : Pkg :=
  { s.ps [(.ARY_RUN_STAT_STATE, 0, n), (.ARY_CFG_INFO_DEPTH, 0, 80), (.QUE_SEG_MAP_VALID, 0, 1), (.QUE_SEG_MAP_SEGMENT, 0, 8), (.QUE_INST_CFG, 0, 1), (.QUE_SEG_OWN_KIND, 8, 1), (.LNK_PORT_STAT_OWNED, 0, 1), (.LNK_PORT_STAT_STATE, 0, 4)] with fab.regOwn := [(0, 1)] }
def casc (s : Pkg) : Pkg := s.updInst 0 fun x => { x with desc := { x.desc with cascade := true } }
def js : List Msg := [msg 1 0 0 [], msg 2 0 0 [], msg 3 0 0 [(0, 8, 4096)], msg 4 0 0 [(0,8,4096)], msg 0x11 0 0 [],
  msg 0x12 0 0 [(0,8,64),(8,4,100)], msg 0x40 0 0 [(8,8,10),(16,8,64),(24,4,32)], msg 0x40 0 0 [(8,8,100000000000),(16,8,64),(24,4,32)]]
def mv : List Msg := [msg 0x32 0 0 [(0,8,16),(8,8,640),(16,4,40)], msg 0x32 0 0 [(0,8,segBytes),(8,8,640),(16,4,40)],
  msg 0x33 0 0 [(0,8,16),(8,8,640),(16,4,40)], msg 0x33 0 0 [(0,8,segBytes),(8,8,640),(16,4,40)], msg 0x50 0 0 [(8,8,640),(16,4,40)],
  msg 0x50 0 0 [(0,1,1),(16,4,40)], msg 0x51 0 0 [(8,8,640),(16,4,40)], msg 0x51 0 0 [(0,1,1),(16,4,40)]]
def rc : List Msg := [1, 2, 3, 4, 5, 6].flatMap fun a => [msg 0x20 0 0 [(0,1,a),(8,4,7),(12,4,9)], msg 0x20 0 0 [(0,1,a),(16,8,100)]]
def ln (l st : Nat) (s : Pkg) : Pkg := s.ps [(.LNK_LANE_STAT_STATE, l, st), (.LNK_LANE_CTRL_EN, l, 1)]
def rx (s : Pkg) (w : List Nat) : Pkg := s.updPort 0 fun x => { x with rxMem := w }

namespace CommandsReport
def jList : List Msg := js
def sList : List State := (js.flatMap fun j => [st (cmd j z), st (nopool (cmd j z)), st (nopool (cmd j (own 3 z))), st (item (cmd j (own 3 z))),
  st (cmd j { own 3 z with load := { active := true } }), st (cmd j ((own 3 z).p .SCH_INST_RST_PHASE 0 3)),
  st (cmd j ((own 3 z).p .WHY_SINK_CFG_RING_SEGS 0 1))])
def j0 : Msg := jList[0]'(by decide +kernel)
def j1 : Msg := jList[1]'(by decide +kernel)
def j2 : Msg := jList[2]'(by decide +kernel)
def j3 : Msg := jList[3]'(by decide +kernel)
def j4 : Msg := jList[4]'(by decide +kernel)
def j5 : Msg := jList[5]'(by decide +kernel)
def j6 : Msg := jList[6]'(by decide +kernel)
def s0 : State := sList.getD 0 {}
def s7 : State := sList.getD 7 {}
def s14 : State := sList.getD 14 {}
def s15 : State := sList.getD 15 {}
def s21 : State := sList.getD 21 {}
def s22 : State := sList.getD 22 {}
def s28 : State := sList.getD 28 {}
def s32 : State := sList.getD 32 {}
def s35 : State := sList.getD 35 {}
def s37 : State := sList.getD 37 {}
def s38 : State := sList.getD 38 {}
def s40 : State := sList.getD 40 {}
def s42 : State := sList.getD 42 {}
def s48 : State := sList.getD 48 {}
/-- The hypotheses of `Obligations.CommandsReport` are met, clause by clause: `ping`, `getInfo`, `getFusemap`, `getHealth`, `loadAbort`, `loadReport`,
`traceRead`. -/
theorem witness_CommandsReport :
    (s0.pkg.take 0 0 1 = some j0 ∧ s0.pkg.mpTakes 0 0 j0 = true) ∧
    (s7.pkg.take 0 0 2 = some j1 ∧ s7.pkg.mpTakes 0 0 j1 = true) ∧
    (s14.pkg.take 0 0 3 = some j2 ∧ s14.pkg.mpTakes 0 0 j2 = true ∧ s14.pkg.dmaServes 0 0 = true) ∧
    (s14.pkg.take 0 0 3 = some j2 ∧ s14.pkg.mpTakes 0 0 j2 = true ∧ s14.pkg.dmaServes 0 0 = true) ∧
    (s15.pkg.take 0 0 3 = some j2 ∧ s15.pkg.mpTakes 0 0 j2 = true ∧ s15.pkg.poolEmpty 0 0 = true ∧
      0 < j2.items (bytesOf s15.pkg.fuseMap).length none) ∧
    (s21.pkg.take 0 0 4 = some j3 ∧ s21.pkg.mpTakes 0 0 j3 = true ∧ s21.pkg.dmaServes 0 0 = true) ∧
    (s21.pkg.take 0 0 4 = some j3 ∧ s21.pkg.mpTakes 0 0 j3 = true ∧ s21.pkg.dmaServes 0 0 = true) ∧
    (s22.pkg.take 0 0 4 = some j3 ∧ s22.pkg.mpTakes 0 0 j3 = true ∧ s22.pkg.poolEmpty 0 0 = true ∧
      0 < j3.items (bytesOf (s22.pkg.dispatchCmd 0 0).healthBlock).length none) ∧
    (s28.pkg.take 0 0 17 = some j4 ∧ s28.pkg.mpTakes 0 0 j4 = true ∧ s28.pkg.load.active = false) ∧
    (s32.pkg.take 0 0 17 = some j4 ∧ s32.pkg.mpTakes 0 0 j4 = true ∧ s32.pkg.load.active = true) ∧
    (s32.pkg.take 0 0 17 = some j4 ∧ s32.pkg.mpTakes 0 0 j4 = true ∧ s32.pkg.load.active = true ∧ s32.pkg.load.secs = [] ∧
      s32.pkg.load.cmd ≠ some (0, 0)) ∧
    (s40.pkg.take 0 0 18 = some j5 ∧ s40.pkg.mpTakes 0 0 j5 = true ∧ s40.pkg.resetting j5.inst = true) := by
  refine ⟨?_, ?_, ?_, ?_, ?_, ?_, ?_, ?_, ?_, ?_, ?_, ?_⟩ <;> decide +kernel
theorem witness_CommandsReport_2 :
    (s35.pkg.take 0 0 18 = some j5 ∧ s35.pkg.mpTakes 0 0 j5 = true ∧ s35.pkg.resetting j5.inst = false ∧ (s35.pkg.runState j5.inst = .unloaded ∨
      s35.pkg.behindReplace j5 = true)) ∧
    (s38.pkg.take 0 0 18 = some j5 ∧ s38.pkg.mpTakes 0 0 j5 = true ∧ s38.pkg.resetting j5.inst = false ∧ s38.pkg.runState j5.inst ≠ .unloaded ∧
      s38.pkg.behindReplace j5 = false ∧ s38.pkg.dmaServes 0 0 = true) ∧
    (s38.pkg.take 0 0 18 = some j5 ∧ s38.pkg.mpTakes 0 0 j5 = true ∧ s38.pkg.resetting j5.inst = false ∧ s38.pkg.runState j5.inst ≠ .unloaded ∧
      s38.pkg.behindReplace j5 = false ∧ s38.pkg.dmaServes 0 0 = true) ∧
    (s37.pkg.take 0 0 18 = some j5 ∧ s37.pkg.mpTakes 0 0 j5 = true ∧ s37.pkg.resetting j5.inst = false ∧ s37.pkg.runState j5.inst ≠ .unloaded ∧
      s37.pkg.behindReplace j5 = false ∧ s37.pkg.poolEmpty 0 0 = true ∧
      0 < j5.items (bytesOf (List.take (min ((s37.pkg.dispatchCmd 0 0).loadReport j5.inst).length (j5.arg 8 4)) ((s37.pkg.dispatchCmd 0 0).loadReport j5.inst))).length none) ∧
    (s42.pkg.take 0 0 64 = some j6 ∧ s42.pkg.mpTakes 0 0 j6 = true ∧ (s42.pkg.ringLen (j6.arg 0 1) = 0 ∨ s42.pkg.ringLen (j6.arg 0 1) ≤ j6.arg 8 8 ∨
      s42.pkg.ringLen (j6.arg 0 1) < j6.arg 24 4)) ∧
    (s48.pkg.take 0 0 64 = some j6 ∧ s48.pkg.mpTakes 0 0 j6 = true ∧ s48.pkg.ringLen (j6.arg 0 1) ≠ 0 ∧ j6.arg 8 8 < s48.pkg.ringLen (j6.arg 0 1) ∧
      j6.arg 24 4 ≤ s48.pkg.ringLen (j6.arg 0 1) ∧ s48.pkg.dmaServes 0 0 = true) := by
  refine ⟨?_, ?_, ?_, ?_, ?_, ?_⟩ <;> decide +kernel
end CommandsReport

namespace CommandsMoveBytes
def jList : List Msg := mv
def sList : List State := (mv.flatMap fun j => [st (cmd j z), st (nopool (cmd j (own 3 z))), st (item (cmd j (own 3 z))),
  st (cmd j ((own 3 z).p .SCH_INST_RST_PHASE 0 3)), st (cmd j ((own 3 z).p .LNK_PORT_STAT_STATE 0 6)), st (cmd j (ln 1 1 (own 3 z))),
  st (rx (cmd j (own 3 z)) [2 + 2 ^ 8 * 5 + 2 ^ 16 * 0x123456]), st (rx (cmd j (own 3 z)) [2 + 128 + 2 ^ 8 * 5 + 2 ^ 16 * 0x123456])])
def j0 : Msg := jList[0]'(by decide +kernel)
def j1 : Msg := jList[1]'(by decide +kernel)
def j2 : Msg := jList[2]'(by decide +kernel)
def j3 : Msg := jList[3]'(by decide +kernel)
def j4 : Msg := jList[4]'(by decide +kernel)
def j6 : Msg := jList[6]'(by decide +kernel)
def s0 : State := sList.getD 0 {}
def s1 : State := sList.getD 1 {}
def s2 : State := sList.getD 2 {}
def s3 : State := sList.getD 3 {}
def s9 : State := sList.getD 9 {}
def s16 : State := sList.getD 16 {}
def s17 : State := sList.getD 17 {}
def s18 : State := sList.getD 18 {}
def s19 : State := sList.getD 19 {}
def s25 : State := sList.getD 25 {}
def s32 : State := sList.getD 32 {}
def s33 : State := sList.getD 33 {}
def s34 : State := sList.getD 34 {}
def s36 : State := sList.getD 36 {}
def s37 : State := sList.getD 37 {}
def s48 : State := sList.getD 48 {}
def s49 : State := sList.getD 49 {}
def s54 : State := sList.getD 54 {}
/-- The hypotheses of `Obligations.CommandsMoveBytes` are met, clause by clause: `memRead`, `memWrite`, `linkSend`, `linkRecv`. -/
theorem witness_CommandsMoveBytes :
    (s1.pkg.take 0 0 50 = some j0 ∧ s1.pkg.mpTakes 0 0 j0 = true ∧ s1.pkg.resetting j0.inst = false ∧ s1.pkg.runState j0.inst ≠ .unloaded ∧
      s1.pkg.runState j0.inst ≠ .loading ∧ j0.arg 0 8 + j0.arg 16 4 ≤ s1.pkg.sliceBytes j0.inst ∧ s1.pkg.poolEmpty 0 0 = true ∧
      0 < j0.items (j0.arg 16 4) none) ∧
    (s2.pkg.take 0 0 50 = some j0 ∧ s2.pkg.mpTakes 0 0 j0 = true ∧ s2.pkg.resetting j0.inst = false ∧ s2.pkg.runState j0.inst ≠ .unloaded ∧
      s2.pkg.runState j0.inst ≠ .loading ∧ j0.arg 0 8 + j0.arg 16 4 ≤ s2.pkg.sliceBytes j0.inst ∧ s2.pkg.dmaServes 0 0 = true) ∧
    (s2.pkg.take 0 0 50 = some j0 ∧ s2.pkg.mpTakes 0 0 j0 = true ∧ s2.pkg.resetting j0.inst = false ∧ s2.pkg.runState j0.inst ≠ .unloaded ∧
      s2.pkg.runState j0.inst ≠ .loading ∧ j0.arg 0 8 + j0.arg 16 4 ≤ s2.pkg.sliceBytes j0.inst ∧ s2.pkg.dmaServes 0 0 = true ∧ 0 % 32 = 0 ∧
      j0.arg 0 8 ≤ 0 + 31 ∧ 0 < j0.arg 0 8 + j0.arg 16 4) ∧
    (s2.pkg.take 0 0 50 = some j0 ∧ s2.pkg.mpTakes 0 0 j0 = true ∧ s2.pkg.resetting j0.inst = false ∧ s2.pkg.runState j0.inst ≠ .unloaded ∧
      s2.pkg.runState j0.inst ≠ .loading ∧ j0.arg 0 8 + j0.arg 16 4 ≤ s2.pkg.sliceBytes j0.inst ∧ s2.pkg.dmaServes 0 0 = true) ∧
    (s9.pkg.take 0 0 50 = some j1 ∧ s9.pkg.mpTakes 0 0 j1 = true ∧ s9.pkg.resetting j1.inst = false ∧ s9.pkg.runState j1.inst ≠ .unloaded ∧
      s9.pkg.runState j1.inst ≠ .loading ∧ s9.pkg.sliceBytes j1.inst < j1.arg 0 8 + j1.arg 16 4) ∧
    (s3.pkg.take 0 0 50 = some j0 ∧ s3.pkg.mpTakes 0 0 j0 = true ∧ s3.pkg.resetting j0.inst = true) ∧
    (s0.pkg.take 0 0 50 = some j0 ∧ s0.pkg.mpTakes 0 0 j0 = true ∧ s0.pkg.resetting j0.inst = false ∧ ¬(s0.pkg.resetting j0.inst = false ∧
      s0.pkg.runState j0.inst ≠ .unloaded ∧ s0.pkg.runState j0.inst ≠ .loading)) ∧
    (s17.pkg.take 0 0 51 = some j2 ∧ s17.pkg.mpTakes 0 0 j2 = true ∧ s17.pkg.resetting j2.inst = false ∧ s17.pkg.runState j2.inst ≠ .unloaded ∧
      s17.pkg.runState j2.inst ≠ .loading ∧ j2.arg 0 8 + j2.arg 16 4 ≤ s17.pkg.sliceBytes j2.inst ∧ s17.pkg.poolEmpty 0 0 = true ∧
      0 < j2.items (j2.arg 16 4) none) ∧
    (s18.pkg.take 0 0 51 = some j2 ∧ s18.pkg.mpTakes 0 0 j2 = true ∧ s18.pkg.resetting j2.inst = false ∧ s18.pkg.runState j2.inst ≠ .unloaded ∧
      s18.pkg.runState j2.inst ≠ .loading ∧ j2.arg 0 8 + j2.arg 16 4 ≤ s18.pkg.sliceBytes j2.inst ∧ s18.pkg.dmaServes 0 0 = true) ∧
    (s18.pkg.take 0 0 51 = some j2 ∧ s18.pkg.mpTakes 0 0 j2 = true ∧ s18.pkg.resetting j2.inst = false ∧ s18.pkg.runState j2.inst ≠ .unloaded ∧
      s18.pkg.runState j2.inst ≠ .loading ∧ j2.arg 0 8 + j2.arg 16 4 ≤ s18.pkg.sliceBytes j2.inst ∧ s18.pkg.dmaServes 0 0 = true ∧ 0 % 32 = 0 ∧
      j2.arg 0 8 ≤ 0 + 31 ∧ 0 < j2.arg 0 8 + j2.arg 16 4) ∧
    (s18.pkg.take 0 0 51 = some j2 ∧ s18.pkg.mpTakes 0 0 j2 = true ∧ s18.pkg.resetting j2.inst = false ∧ s18.pkg.runState j2.inst ≠ .unloaded ∧
      s18.pkg.runState j2.inst ≠ .loading ∧ j2.arg 0 8 + j2.arg 16 4 ≤ s18.pkg.sliceBytes j2.inst ∧ s18.pkg.dmaServes 0 0 = true) ∧
    (s25.pkg.take 0 0 51 = some j3 ∧ s25.pkg.mpTakes 0 0 j3 = true ∧ s25.pkg.resetting j3.inst = false ∧ s25.pkg.runState j3.inst ≠ .unloaded ∧
      s25.pkg.runState j3.inst ≠ .loading ∧ s25.pkg.sliceBytes j3.inst < j3.arg 0 8 + j3.arg 16 4) := by
  refine ⟨?_, ?_, ?_, ?_, ?_, ?_, ?_, ?_, ?_, ?_, ?_, ?_⟩ <;> decide +kernel
theorem witness_CommandsMoveBytes_2 :
    (s19.pkg.take 0 0 51 = some j2 ∧ s19.pkg.mpTakes 0 0 j2 = true ∧ s19.pkg.resetting j2.inst = true) ∧
    (s16.pkg.take 0 0 51 = some j2 ∧ s16.pkg.mpTakes 0 0 j2 = true ∧ s16.pkg.resetting j2.inst = false ∧ ¬(s16.pkg.resetting j2.inst = false ∧
      s16.pkg.runState j2.inst ≠ .unloaded ∧ s16.pkg.runState j2.inst ≠ .loading)) ∧
    (s32.pkg.take 0 0 80 = some j4 ∧ s32.pkg.mpTakes 0 0 j4 = true ∧ s32.pkg.portOwner (j4.arg 0 1) = none) ∧
    (s36.pkg.take 0 0 80 = some j4 ∧ s36.pkg.mpTakes 0 0 j4 = true ∧ s36.pkg.portOwner (j4.arg 0 1) ≠ none ∧ s36.pkg.portSt (j4.arg 0 1) = .down) ∧
    (s33.pkg.take 0 0 80 = some j4 ∧ s33.pkg.mpTakes 0 0 j4 = true ∧ s33.pkg.portOwner (j4.arg 0 1) ≠ none ∧ s33.pkg.portSt (j4.arg 0 1) ≠ .down ∧
      s33.pkg.portSt (j4.arg 0 1) ≠ .lowpwr ∧ s33.pkg.poolEmpty 0 0 = true ∧ 0 < j4.items (j4.arg 16 4) none) ∧
    (s34.pkg.take 0 0 80 = some j4 ∧ s34.pkg.mpTakes 0 0 j4 = true ∧ s34.pkg.portOwner (j4.arg 0 1) ≠ none ∧ s34.pkg.portSt (j4.arg 0 1) ≠ .down ∧
      s34.pkg.portSt (j4.arg 0 1) ≠ .lowpwr ∧ s34.pkg.dmaServes 0 0 = true ∧ (∀ l ∈ portLanes (j4.arg 0 1), s34.pkg.laneSt l ≠ .cal ∧
      s34.pkg.laneSt l ≠ .cold)) ∧
    (s37.pkg.take 0 0 80 = some j4 ∧ s37.pkg.mpTakes 0 0 j4 = true ∧ s37.pkg.portOwner (j4.arg 0 1) ≠ none ∧ s37.pkg.portSt (j4.arg 0 1) ≠ .down ∧
      s37.pkg.portSt (j4.arg 0 1) ≠ .lowpwr ∧ s37.pkg.dmaServes 0 0 = true ∧ (∃ l ∈ portLanes (j4.arg 0 1), s37.pkg.laneSt l = .cal) ∧
      (∀ l ∈ portLanes (j4.arg 0 1), s37.pkg.laneSt l ≠ .cold)) ∧
    (s48.pkg.take 0 0 81 = some j6 ∧ s48.pkg.mpTakes 0 0 j6 = true ∧ s48.pkg.portOwner (j6.arg 0 1) = none) ∧
    (s49.pkg.take 0 0 81 = some j6 ∧ s49.pkg.mpTakes 0 0 j6 = true ∧ s49.pkg.portOwner (j6.arg 0 1) ≠ none ∧ (s49.pkg.port (j6.arg 0 1)).rxMem = []) ∧
    (s54.pkg.take 0 0 81 = some j6 ∧ s54.pkg.mpTakes 0 0 j6 = true ∧ s54.pkg.portOwner (j6.arg 0 1) ≠ none ∧
      (s54.pkg.port (j6.arg 0 1)).rxMem = [2 + 2 ^ 8 * 5 + 2 ^ 16 * 1193046] ∧ (2 + 2 ^ 8 * 5 + 2 ^ 16 * 1193046) % 16 = 2 ∧
      (s54.pkg.recvs.any fun (r : RecvJob) => r.port == j6.arg 0 1) = false ∧ bits (2 + 2 ^ 8 * 5 + 2 ^ 16 * 1193046) 8 8 < j6.arg 16 4) := by
  refine ⟨?_, ?_, ?_, ?_, ?_, ?_, ?_, ?_, ?_, ?_⟩ <;> decide +kernel
end CommandsMoveBytes

namespace RunControlCommandsAct
def jList : List Msg := rc
def sList : List State := (rc.flatMap fun j => [st (cmd j (own 0 z)), st (cmd j (own 2 z)), st (cmd j (own 3 z)), st (cmd j (own 4 z)),
  st (cmd j ((own 5 z).p .ARY_RUN_STAT_MID_CYCLE 0 1)), st (cmd j ((own 3 z).p .SCH_INST_RST_PHASE 0 3)), st (cmd j (casc (own 2 z))),
  st (cmd j (casc (own 4 z))), st (cmd j { casc (own 2 z) with part.masterSel := false }), st (cmd j { own 2 z with part.masterSel := false }),
  st (cmd j { own 2 z with tim.lq := List.replicate 64 { num := 0, id := 0, t := 0, w2 := 0, w3 := 0, cmd := none } })])
def j0 : Msg := jList[0]'(by decide +kernel)
def j1 : Msg := jList[1]'(by decide +kernel)
def j2 : Msg := jList[2]'(by decide +kernel)
def j4 : Msg := jList[4]'(by decide +kernel)
def j5 : Msg := jList[5]'(by decide +kernel)
def j6 : Msg := jList[6]'(by decide +kernel)
def j8 : Msg := jList[8]'(by decide +kernel)
def j10 : Msg := jList[10]'(by decide +kernel)
def s0 : State := sList.getD 0 {}
def s1 : State := sList.getD 1 {}
def s6 : State := sList.getD 6 {}
def s11 : State := sList.getD 11 {}
def s20 : State := sList.getD 20 {}
def s21 : State := sList.getD 21 {}
def s22 : State := sList.getD 22 {}
def s24 : State := sList.getD 24 {}
def s44 : State := sList.getD 44 {}
def s48 : State := sList.getD 48 {}
def s55 : State := sList.getD 55 {}
def s64 : State := sList.getD 64 {}
def s66 : State := sList.getD 66 {}
def s68 : State := sList.getD 68 {}
def s88 : State := sList.getD 88 {}
def s89 : State := sList.getD 89 {}
def s110 : State := sList.getD 110 {}
def s111 : State := sList.getD 111 {}
/-- The hypotheses of `Obligations.RunControlCommandsAct` are met, clause by clause: `runCtlStart`, `runCtlResume`, `runCtlPause`, `runCtlFreeze`,
`runCtlSetStopAt`, `runCtlClearStopAt`. -/
theorem witness_RunControlCommandsAct :
    (s0.pkg.take 0 0 32 = some j0 ∧ s0.pkg.mpTakes 0 0 j0 = true ∧ j0.runArgsOk = true ∧ (∀ x ∈ s0.pkg.sends, (x.mbx, x.seq) ≠ (0, 0))) ∧
    (s1.pkg.take 0 0 32 = some j0 ∧ s1.pkg.mpTakes 0 0 j0 = true ∧ j0.runArgsOk = true ∧ (∀ x ∈ s1.pkg.sends, (x.mbx, x.seq) ≠ (0, 0)) ∧
      s1.pkg.resetting j0.inst = false ∧ (s1.pkg.inst j0.inst).desc.cascade = false ∧ j0.arg 0 1 = 1 ∧ j0.arg 16 8 = 0 ∧
      s1.pkg.canStart j0.inst = true ∧ s1.pkg.g .TRN_INST_STAT_BAD j0.inst = 0) ∧
    (s0.pkg.take 0 0 32 = some j0 ∧ s0.pkg.mpTakes 0 0 j0 = true ∧ j0.runArgsOk = true ∧ (∀ x ∈ s0.pkg.sends, (x.mbx, x.seq) ≠ (0, 0)) ∧
      s0.pkg.resetting j0.inst = false ∧ (s0.pkg.inst j0.inst).desc.cascade = false ∧ j0.arg 0 1 = 1 ∧ j0.arg 16 8 = 0 ∧
      s0.pkg.canStart j0.inst = false) ∧
    (s48.pkg.take 0 0 32 = some j4 ∧ s48.pkg.mpTakes 0 0 j4 = true ∧ j4.runArgsOk = true ∧ (∀ x ∈ s48.pkg.sends, (x.mbx, x.seq) ≠ (0, 0)) ∧
      s48.pkg.resetting j4.inst = false ∧ (s48.pkg.inst j4.inst).desc.cascade = false ∧ j4.arg 0 1 = 3 ∧ j4.arg 16 8 = 0 ∧
      s48.pkg.canResume j4.inst = true ∧ s48.pkg.g .TRN_INST_STAT_BAD j4.inst = 0 ∧ s48.pkg.b .ARY_RUN_STAT_MID_CYCLE j4.inst = true) ∧
    (s44.pkg.take 0 0 32 = some j4 ∧ s44.pkg.mpTakes 0 0 j4 = true ∧ j4.runArgsOk = true ∧ (∀ x ∈ s44.pkg.sends, (x.mbx, x.seq) ≠ (0, 0)) ∧
      s44.pkg.resetting j4.inst = false ∧ (s44.pkg.inst j4.inst).desc.cascade = false ∧ j4.arg 0 1 = 3 ∧ j4.arg 16 8 = 0 ∧
      s44.pkg.canResume j4.inst = false) ∧
    (s11.pkg.take 0 0 32 = some j1 ∧ s11.pkg.mpTakes 0 0 j1 = true ∧ j1.runArgsOk = true ∧ (∀ x ∈ s11.pkg.sends, (x.mbx, x.seq) ≠ (0, 0)) ∧
      s11.pkg.resetting j1.inst = false ∧ (s11.pkg.inst j1.inst).desc.cascade = false ∧ j1.arg 16 8 ≠ 0 ∧ s11.pkg.tim.lq.length < 64 ∧
      s11.pkg.overdue (j1.arg 16 8) = false ∧ j1.arg 0 1 = 1 ∧ s11.pkg.isMaster = true) ∧
    (s55.pkg.take 0 0 32 = some j5 ∧ s55.pkg.mpTakes 0 0 j5 = true ∧ j5.runArgsOk = true ∧ (∀ x ∈ s55.pkg.sends, (x.mbx, x.seq) ≠ (0, 0)) ∧
      s55.pkg.resetting j5.inst = false ∧ (s55.pkg.inst j5.inst).desc.cascade = false ∧ j5.arg 16 8 ≠ 0 ∧ s55.pkg.tim.lq.length < 64 ∧
      s55.pkg.overdue (j5.arg 16 8) = false ∧ j5.arg 0 1 = 3 ∧ s55.pkg.isMaster = true) ∧
    (s20.pkg.take 0 0 32 = some j1 ∧ s20.pkg.mpTakes 0 0 j1 = true ∧ j1.runArgsOk = true ∧ (∀ x ∈ s20.pkg.sends, (x.mbx, x.seq) ≠ (0, 0)) ∧
      s20.pkg.resetting j1.inst = false ∧ (s20.pkg.inst j1.inst).desc.cascade = false ∧ j1.arg 16 8 ≠ 0 ∧ s20.pkg.tim.lq.length < 64 ∧
      s20.pkg.overdue (j1.arg 16 8) = false ∧ j1.arg 0 1 = 1 ∧ s20.pkg.isMaster = false) ∧
    (s64.pkg.take 0 0 32 = some j5 ∧ s64.pkg.mpTakes 0 0 j5 = true ∧ j5.runArgsOk = true ∧ (∀ x ∈ s64.pkg.sends, (x.mbx, x.seq) ≠ (0, 0)) ∧
      s64.pkg.resetting j5.inst = false ∧ (s64.pkg.inst j5.inst).desc.cascade = false ∧ j5.arg 16 8 ≠ 0 ∧ s64.pkg.tim.lq.length < 64 ∧
      s64.pkg.overdue (j5.arg 16 8) = false ∧ j5.arg 0 1 = 3 ∧ s64.pkg.isMaster = false) ∧
    (s21.pkg.take 0 0 32 = some j1 ∧ s21.pkg.mpTakes 0 0 j1 = true ∧ j1.runArgsOk = true ∧ (∀ x ∈ s21.pkg.sends, (x.mbx, x.seq) ≠ (0, 0)) ∧
      s21.pkg.resetting j1.inst = false ∧ (s21.pkg.inst j1.inst).desc.cascade = false ∧ j1.arg 16 8 ≠ 0 ∧ 64 ≤ s21.pkg.tim.lq.length ∧
      s21.pkg.isMaster = true ∧ j1.arg 0 1 = 1) ∧
    (s24.pkg.take 0 0 32 = some j2 ∧ s24.pkg.mpTakes 0 0 j2 = true ∧ j2.runArgsOk = true ∧ (∀ x ∈ s24.pkg.sends, (x.mbx, x.seq) ≠ (0, 0)) ∧
      s24.pkg.resetting j2.inst = false ∧ (s24.pkg.inst j2.inst).desc.cascade = false ∧ j2.arg 0 1 = 2 ∧ s24.pkg.runs j2.inst = true) ∧
    (s22.pkg.take 0 0 32 = some j2 ∧ s22.pkg.mpTakes 0 0 j2 = true ∧ j2.runArgsOk = true ∧ (∀ x ∈ s22.pkg.sends, (x.mbx, x.seq) ≠ (0, 0)) ∧
      s22.pkg.resetting j2.inst = false ∧ (s22.pkg.inst j2.inst).desc.cascade = false ∧ j2.arg 0 1 = 2 ∧ s22.pkg.runs j2.inst = false) := by
  refine ⟨?_, ?_, ?_, ?_, ?_, ?_, ?_, ?_, ?_, ?_, ?_, ?_⟩ <;> decide +kernel
theorem witness_RunControlCommandsAct_2 :
    (s68.pkg.take 0 0 32 = some j6 ∧ s68.pkg.mpTakes 0 0 j6 = true ∧ j6.runArgsOk = true ∧ (∀ x ∈ s68.pkg.sends, (x.mbx, x.seq) ≠ (0, 0)) ∧
      s68.pkg.resetting j6.inst = false ∧ (s68.pkg.inst j6.inst).desc.cascade = false ∧ j6.arg 0 1 = 4 ∧ s68.pkg.runs j6.inst = true) ∧
    (s66.pkg.take 0 0 32 = some j6 ∧ s66.pkg.mpTakes 0 0 j6 = true ∧ j6.runArgsOk = true ∧ (∀ x ∈ s66.pkg.sends, (x.mbx, x.seq) ≠ (0, 0)) ∧
      s66.pkg.resetting j6.inst = false ∧ (s66.pkg.inst j6.inst).desc.cascade = false ∧ j6.arg 0 1 = 4 ∧ s66.pkg.runs j6.inst = false) ∧
    (s6.pkg.take 0 0 32 = some j0 ∧ s6.pkg.mpTakes 0 0 j0 = true ∧ j0.runArgsOk = true ∧ (∀ x ∈ s6.pkg.sends, (x.mbx, x.seq) ≠ (0, 0)) ∧
      s6.pkg.resetting j0.inst = false ∧ (s6.pkg.inst j0.inst).desc.cascade = true ∧ s6.pkg.isMaster = true ∧ j0.arg 16 8 = 0 ∧
      s6.pkg.startReq j0.inst = none) ∧
    (s88.pkg.take 0 0 32 = some j8 ∧ s88.pkg.mpTakes 0 0 j8 = true ∧ j8.runArgsOk = true ∧ (∀ x ∈ s88.pkg.sends, (x.mbx, x.seq) ≠ (0, 0)) ∧
      s88.pkg.resetting j8.inst = false ∧ (s88.pkg.runState j8.inst = .unloaded ∨ s88.pkg.runState j8.inst = .loading) ∧ j8.arg 0 1 = 5) ∧
    (s110.pkg.take 0 0 32 = some j10 ∧ s110.pkg.mpTakes 0 0 j10 = true ∧ j10.runArgsOk = true ∧ (∀ x ∈ s110.pkg.sends, (x.mbx, x.seq) ≠ (0, 0)) ∧
      s110.pkg.resetting j10.inst = false ∧ (s110.pkg.runState j10.inst = .unloaded ∨ s110.pkg.runState j10.inst = .loading) ∧ j10.arg 0 1 = 6) ∧
    (s89.pkg.take 0 0 32 = some j8 ∧ s89.pkg.mpTakes 0 0 j8 = true ∧ j8.runArgsOk = true ∧ (∀ x ∈ s89.pkg.sends, (x.mbx, x.seq) ≠ (0, 0)) ∧
      s89.pkg.resetting j8.inst = false ∧ s89.pkg.runState j8.inst ≠ .unloaded ∧ s89.pkg.runState j8.inst ≠ .loading ∧ j8.arg 0 1 = 5) ∧
    (s111.pkg.take 0 0 32 = some j10 ∧ s111.pkg.mpTakes 0 0 j10 = true ∧ j10.runArgsOk = true ∧ (∀ x ∈ s111.pkg.sends, (x.mbx, x.seq) ≠ (0, 0)) ∧
      s111.pkg.resetting j10.inst = false ∧ s111.pkg.runState j10.inst ≠ .unloaded ∧ s111.pkg.runState j10.inst ≠ .loading ∧ j10.arg 0 1 = 6) := by
  refine ⟨?_, ?_, ?_, ?_, ?_, ?_, ?_⟩ <;> decide +kernel
end RunControlCommandsAct

end Commands

namespace Units

def z : Pkg := {}
def ar (l : List (Nat × Nat × Nat)) : List Nat :=
  l.foldl (fun b e => (List.range e.2.1).foldl (fun b k => b.set (e.1 + k) (e.2.2 / 256 ^ k % 256)) b) (List.replicate 40 0)
def msg (op inst flags : Nat) (a : List (Nat × Nat × Nat)) : Msg :=
  { seq := 0, op := op, prio := 0, inst := inst, flags := flags, args := ar a, tag := 0, order := 0 }
def cmd (j : Msg) (s : Pkg) : Pkg := { s.p .MBX_MP_STAT_STATE 0 2 with mbx := [(0, { run := [j] })] }
def own (n : Nat) (s : Pkg) : Pkg :=
  { s.ps [(.ARY_RUN_STAT_STATE, 0, n), (.ARY_CFG_INFO_DEPTH, 0, 80), (.ARY_VMAP_REG_VALID, 0, 1), (.ARY_VMAP_USE, 0, 1), (.CAV_OWN_KIND, 0, 0), (.LNK_PORT_STAT_OWNED, 0, 1), (.LNK_PORT_STAT_STATE, 0, 4)] with fab.regOwn := [(0, 1)], insts := [(0, {desc := {dies := [0], flowCount := 1}})] }
def rst (u : Bool) (s : Pkg) : Pkg :=
  { s.ps [(.SCH_INST_RST_PHASE, 0, 3), (.MBX_MP_STAT_STATE, 0, 2)] with sch.resets := [(0, some { unload := u, mbx := some (0, 0), caveOwn := [0] })], cav.oldOwn := [] }
def flow (l : List (Fld × Nat × Nat)) (s : Pkg) : Pkg := s.ps ([(.SCH_FLOW_STAT_OWNED, 0, 1), (.SCH_FLOW_BUF_LEN, 0, 4)] ++ l)
def js : List Msg := [msg 0x13 0 0 [], msg 0x21 0 0 []]
def un : List Msg := [msg 0x30 0 0 [(2, 2, 3)], msg 0x30 0 0 [(2,2,3),(4,1,2)], msg 0x31 0 0 [(2,2,3),(8,8,1)], msg 0x70 0 0 [(0,1,1)],
  msg 0x80 0 0 [(3,1,4),(4,4,64),(8,8,4096)], msg 0x80 0 0 [(3,1,4),(4,4,65),(8,8,4096)], msg 0x81 0 0 []]
def ky : List Msg := [msg 0x60 0 0 ([(0,8,77),(32,4,5)]), msg 0x60 0 0 ([(0,8,77),(32,4,kcvOf 77)]), msg 0x61 0 0 ([(0,8,77),(32,4,5)]),
  msg 0x61 0 0 ([(0,8,77),(32,4,kcvOf 77)]), msg 0x62 0 0 [], msg 0x63 0 0 [(0,1,5)], msg 0x63 0 0 [(0,1,0)]]
def rails (s : Pkg) : Pkg := s.ps ((List.range 8).map fun d => (.ADC_MON_RAIL_IN, d, 31))

namespace InstancesAndUnitsAct
def jList : List Msg := js ++ un
def sList : List State := (js.flatMap fun j => [st { rst true (own 3 z) with mbx := [(0, {run := [j]})] },
  st (({ rst false (own 3 z) with mbx := [(0, {run := [{j with started := true}]})] } : Pkg).ps [(.CAV_OWN_KIND, 0, 1)]),
  st { rst false (own 3 z) with sch.resets := [(0, some { unload := false, mbx := some (0, 0), caveOwn := [] })], mbx := [(0, {run := [{j with started := true}]})] },
  st (cmd j z), st (cmd j (own 1 z)), st (cmd j (own 2 z)), st (cmd j (own 3 z)), st (cmd j (own 6 z)),
  st (cmd j ((own 3 z).p .TRN_INST_STAT_INIT_BAD 0 1)), st (cmd j { own 3 z with reloc := [(0, some { cmd := (0,0), vdie := 0, moves := [] })] }),
  st { rst true (own 3 z) with mbx := [(0, {run := [{j with started := true}]})] },
  st { rst false (own 3 z) with mbx := [(0, {run := [{j with started := true}]})] },
  st { rst false (own 3 z) with mbx := [(0, {run := [{j with started := true}]})], que.port := [(0, {fly := [{ entry := 3, kind := 0, addr := 64, data := 5 }]})] }]) ++ un.flatMap fun j => [st { cmd j (own 3 z) with fab.regOwn := [] },
  st { cmd j (z.p .MBX_MP_STAT_STATE 1 2) with mbx := [(0, {run := [j, {j with seq := 3, started := true, op := 0x31, args := ar [(0,1,1)]}]})] },
  st (cmd j z), st (cmd j (own 2 z)), st (cmd j (own 3 z)), st (cmd j ((own 3 z).p .CAV_MARCH_STAT_BUSY 0 1)),
  st (cmd j { z with cav.oldOwn := [] }), st (cmd j (z.p .MBX_MP_STAT_STATE 1 2)), st (cmd j (z.p .MBX_MP_STAT_STATE 1 3)),
  st (cmd j (z.p .MBX_MP_STAT_STATE 1 4)), st (cmd j (flow [] (own 2 z))), st (cmd j (flow [(.SCH_FLOW_STAT_STATE, 0, 1)] (own 2 z))),
  st { cmd j (flow [(.SCH_FLOW_STAT_STATE, 0, 1)] (own 2 z)) with sch.items := [{ num := 0, prio := 0, inst := some 0, arr := 0, ref := .inb 0, engine := some 8 }] }]
def j0 : Msg := jList[0]'(by decide +kernel)
def j1 : Msg := jList[1]'(by decide +kernel)
def j2 : Msg := jList[2]'(by decide +kernel)
def j4 : Msg := jList[4]'(by decide +kernel)
def j5 : Msg := jList[5]'(by decide +kernel)
def j6 : Msg := jList[6]'(by decide +kernel)
def j8 : Msg := jList[8]'(by decide +kernel)
def r0 : Reset := { unload := false, mbx := some (0, 0), caveOwn := [] }
def r1 : Reset := { unload := true, mbx := some (0, 0), caveOwn := [0] }
def r2 : Reset := { unload := false, mbx := some (0, 0), caveOwn := [0] }
def re1 : Reason := .notOwner
def s0 : State := sList.getD 0 {}
def s1 : State := sList.getD 1 {}
def s2 : State := sList.getD 2 {}
def s3 : State := sList.getD 3 {}
def s5 : State := sList.getD 5 {}
def s9 : State := sList.getD 9 {}
def s12 : State := sList.getD 12 {}
def s13 : State := sList.getD 13 {}
def s16 : State := sList.getD 16 {}
def s18 : State := sList.getD 18 {}
def s21 : State := sList.getD 21 {}
def s22 : State := sList.getD 22 {}
def s26 : State := sList.getD 26 {}
def s27 : State := sList.getD 27 {}
def s29 : State := sList.getD 29 {}
def s30 : State := sList.getD 30 {}
def s52 : State := sList.getD 52 {}
def s53 : State := sList.getD 53 {}
def s57 : State := sList.getD 57 {}
def s65 : State := sList.getD 65 {}
def s73 : State := sList.getD 73 {}
def s74 : State := sList.getD 74 {}
def s78 : State := sList.getD 78 {}
def s88 : State := sList.getD 88 {}
def s104 : State := sList.getD 104 {}
def s115 : State := sList.getD 115 {}
def s116 : State := sList.getD 116 {}
/-- The hypotheses of `Obligations.InstancesAndUnitsAct` are met, clause by clause: `unload`, `instReset`, `resetDrainComplete`, `resetOverrun`,
`caveOwn`, `march`, `mpRestart`, `flowBind`, `flowUnbind`. -/
theorem witness_InstancesAndUnitsAct :
    (j0.inst = 0 ∧ s0.pkg.take 0 0 19 = some j0 ∧ s0.pkg.mpTakes 0 0 j0 = true ∧ s0.pkg.resetting 0 = true) ∧
    (j0.inst = 0 ∧ s3.pkg.take 0 0 19 = some j0 ∧ s3.pkg.mpTakes 0 0 j0 = true ∧ s3.pkg.resetting 0 = false ∧ (s3.pkg.runState 0 = .unloaded ∨
      s3.pkg.runState 0 = .loading)) ∧
    (j0.inst = 0 ∧ s9.pkg.take 0 0 19 = some j0 ∧ s9.pkg.mpTakes 0 0 j0 = true ∧ s9.pkg.resetting 0 = false ∧ ¬(s9.pkg.runState 0 = .unloaded ∨
      s9.pkg.runState 0 = .loading) ∧ s9.pkg.resetReady 0 = false) ∧
    (j0.inst = 0 ∧ s5.pkg.take 0 0 19 = some j0 ∧ s5.pkg.mpTakes 0 0 j0 = true ∧ s5.pkg.resetting 0 = false ∧ ¬(s5.pkg.runState 0 = .unloaded ∨
      s5.pkg.runState 0 = .loading) ∧ s5.pkg.resetReady 0 = true) ∧
    (j1.inst = 0 ∧ s13.pkg.take 0 0 33 = some j1 ∧ s13.pkg.mpTakes 0 0 j1 = true ∧ s13.pkg.resetting 0 = true) ∧
    (j1.inst = 0 ∧ s16.pkg.take 0 0 33 = some j1 ∧ s16.pkg.mpTakes 0 0 j1 = true ∧ s16.pkg.resetting 0 = false ∧ (s16.pkg.runState 0 = .unloaded ∨
      s16.pkg.runState 0 = .loading)) ∧
    (j1.inst = 0 ∧ s21.pkg.take 0 0 33 = some j1 ∧ s21.pkg.mpTakes 0 0 j1 = true ∧ s21.pkg.resetting 0 = false ∧ ¬(s21.pkg.runState 0 = .unloaded ∨
      s21.pkg.runState 0 = .loading) ∧ s21.pkg.b .TRN_INST_STAT_INIT_BAD 0 = true) ∧
    (j1.inst = 0 ∧ s22.pkg.take 0 0 33 = some j1 ∧ s22.pkg.mpTakes 0 0 j1 = true ∧ s22.pkg.resetting 0 = false ∧ ¬(s22.pkg.runState 0 = .unloaded ∨
      s22.pkg.runState 0 = .loading) ∧ s22.pkg.b .TRN_INST_STAT_INIT_BAD 0 = false ∧ s22.pkg.resetReady 0 = false) ∧
    (j1.inst = 0 ∧ s18.pkg.take 0 0 33 = some j1 ∧ s18.pkg.mpTakes 0 0 j1 = true ∧ s18.pkg.resetting 0 = false ∧ ¬(s18.pkg.runState 0 = .unloaded ∨
      s18.pkg.runState 0 = .loading) ∧ s18.pkg.b .TRN_INST_STAT_INIT_BAD 0 = false ∧ s18.pkg.resetReady 0 = true) ∧
    (s1.pkg.resetOf 0 = some r2 ∧ s1.pkg.resetting 0 = true ∧ s1.pkg.draining 0 = 0 ∧ (s1.pkg.restoring 0).all s1.pkg.mpActs = true ∧
      r2.unload = false) ∧
    (s0.pkg.resetOf 0 = some r1 ∧ s0.pkg.resetting 0 = true ∧ s0.pkg.draining 0 = 0 ∧ (s0.pkg.restoring 0).all s0.pkg.mpActs = true ∧
      r1.unload = true) ∧
    (s12.pkg.resetOf 0 = some r2 ∧ s12.pkg.resetting 0 = true ∧ ¬(s12.pkg.draining 0 = 0 ∧ (s12.pkg.restoring 0).all s12.pkg.mpActs = true)) := by
  refine ⟨?_, ?_, ?_, ?_, ?_, ?_, ?_, ?_, ?_, ?_, ?_, ?_⟩ <;> decide +kernel
theorem witness_InstancesAndUnitsAct_2 :
    (s0.pkg.resetOf 0 = some r1 ∧ s0.pkg.resetting 0 = true ∧ s0.pkg.outstanding 0 ≠ 0) ∧
    (s2.pkg.resetOf 0 = some r0 ∧ s2.pkg.resetting 0 = true ∧ s2.pkg.outstanding 0 = 0) ∧
    (s27.pkg.take 0 0 48 = some j2 ∧ s27.pkg.mpTakes 0 0 j2 = true ∧ j2.arg 1 1 < 64 ∧ bits (j2.arg 4 1) 0 2 = 0 ∧
      (s27.pkg.runState (bits (j2.arg 4 1) 4 4) = .unloaded ∨ s27.pkg.runState (bits (j2.arg 4 1) 4 4) = .loading)) ∧
    (s26.pkg.take 0 0 48 = some j2 ∧ s26.pkg.mpTakes 0 0 j2 = true ∧ j2.arg 1 1 < 64 ∧ ¬(bits (j2.arg 4 1) 0 2 = 0 ∧
      (s26.pkg.runState (bits (j2.arg 4 1) 4 4) = .unloaded ∨ s26.pkg.runState (bits (j2.arg 4 1) 4 4) = .loading)) ∧
      ¬(bits (j2.arg 4 1) 0 2 = 0 → s26.pkg.regionOwner (j2.arg 0 1 * 64 + j2.arg 1 1) = some (bits (j2.arg 4 1) 4 4))) ∧
    (s30.pkg.take 0 0 48 = some j2 ∧ s30.pkg.mpTakes 0 0 j2 = true ∧ j2.arg 1 1 < 64 ∧ ¬(bits (j2.arg 4 1) 0 2 = 0 ∧
      (s30.pkg.runState (bits (j2.arg 4 1) 4 4) = .unloaded ∨ s30.pkg.runState (bits (j2.arg 4 1) 4 4) = .loading)) ∧
      (bits (j2.arg 4 1) 0 2 = 0 → s30.pkg.regionOwner (j2.arg 0 1 * 64 + j2.arg 1 1) = some (bits (j2.arg 4 1) 4 4)) ∧
      ¬∀ b ∈ banksIn (j2.arg 0 1 * 64 + j2.arg 1 1) (j2.arg 2 2), ∀ k < 16, s30.pkg.bankOwn b = .inst k → s30.pkg.runs k = false) ∧
    (s29.pkg.take 0 0 48 = some j2 ∧ s29.pkg.mpTakes 0 0 j2 = true ∧ j2.arg 1 1 < 64 ∧ ¬(bits (j2.arg 4 1) 0 2 = 0 ∧
      (s29.pkg.runState (bits (j2.arg 4 1) 4 4) = .unloaded ∨ s29.pkg.runState (bits (j2.arg 4 1) 4 4) = .loading)) ∧
      (bits (j2.arg 4 1) 0 2 = 0 → s29.pkg.regionOwner (j2.arg 0 1 * 64 + j2.arg 1 1) = some (bits (j2.arg 4 1) 4 4)) ∧
      (∀ b ∈ banksIn (j2.arg 0 1 * 64 + j2.arg 1 1) (j2.arg 2 2), (s29.pkg.bankOwn b = .firmware ∨ s29.pkg.bankOwn b = .inst 0 ∧
      s29.pkg.runs 0 = false))) ∧
    (s57.pkg.take 0 0 49 = some j4 ∧ s57.pkg.mpTakes 0 0 j4 = true ∧
      ¬∀ r ∈ List.map (fun (g : ℕ) => j4.arg 0 1 * 64 + g) (List.filter (bit (j4.arg 8 8)) (List.range 64)), s57.pkg.g .CAV_MARCH_STAT_BUSY r = 0) ∧
    (s52.pkg.take 0 0 49 = some j4 ∧ s52.pkg.mpTakes 0 0 j4 = true ∧
      (∀ r ∈ List.map (fun (g : ℕ) => j4.arg 0 1 * 64 + g) (List.filter (bit (j4.arg 8 8)) (List.range 64)), s52.pkg.g .CAV_MARCH_STAT_BUSY r = 0) ∧
      ¬∀ r ∈ List.map (fun (g : ℕ) => j4.arg 0 1 * 64 + g) (List.filter (bit (j4.arg 8 8)) (List.range 64)), s52.pkg.powerState (r / 64) (r % 64) = 0 ∧
      ∀ b ∈ banksIn r (j4.arg 2 2), s52.pkg.bankOwn b = .firmware ∧ s52.pkg.g .CAV_OWN_PEND b = 0) ∧
    (s53.pkg.take 0 0 49 = some j4 ∧ s53.pkg.mpTakes 0 0 j4 = true ∧
      (∀ r ∈ List.map (fun (g : ℕ) => j4.arg 0 1 * 64 + g) (List.filter (bit (j4.arg 8 8)) (List.range 64)), s53.pkg.g .CAV_MARCH_STAT_BUSY r = 0) ∧
      (∀ r ∈ List.map (fun (g : ℕ) => j4.arg 0 1 * 64 + g) (List.filter (bit (j4.arg 8 8)) (List.range 64)), s53.pkg.powerState (r / 64) (r % 64) = 0 ∧
      ∀ b ∈ banksIn r (j4.arg 2 2), s53.pkg.bankOwn b = .firmware ∧ s53.pkg.g .CAV_OWN_PEND b = 0)) ∧
    (s74.pkg.take 0 0 112 = some j5 ∧ s74.pkg.mpTakes 0 0 j5 = true ∧ (s74.pkg.g .MBX_MP_STAT_STATE (j5.arg 0 1) = 4 ∨
      s74.pkg.dieOk (j5.arg 0 1) = false)) ∧
    (s73.pkg.take 0 0 112 = some j5 ∧ s73.pkg.mpTakes 0 0 j5 = true ∧ s73.pkg.g .MBX_MP_STAT_STATE (j5.arg 0 1) = 3 ∧
      s73.pkg.dieOk (j5.arg 0 1) = true) ∧
    (s65.pkg.take 0 0 112 = some j5 ∧ s65.pkg.mpTakes 0 0 j5 = true ∧ s65.pkg.g .MBX_MP_STAT_STATE (j5.arg 0 1) ≠ 3 ∧
      s65.pkg.g .MBX_MP_STAT_STATE (j5.arg 0 1) ≠ 4 ∧ s65.pkg.dieOk (j5.arg 0 1) = true) := by
  refine ⟨?_, ?_, ?_, ?_, ?_, ?_, ?_, ?_, ?_, ?_, ?_, ?_⟩ <;> decide +kernel
theorem witness_InstancesAndUnitsAct_3 :
    (s78.pkg.take 0 0 128 = some j6 ∧ s78.pkg.mpTakes 0 0 j6 = true ∧
      s78.pkg.bindCheck (j6.arg 0 2) (j6.arg 2 1) (j6.arg 3 1) (j6.arg 4 4) = Sum.inl re1) ∧
    (s88.pkg.take 0 0 128 = some j6 ∧ s88.pkg.mpTakes 0 0 j6 = true ∧
      s88.pkg.bindCheck (j6.arg 0 2) (j6.arg 2 1) (j6.arg 3 1) (j6.arg 4 4) = Sum.inr (0, 0)) ∧
    (s104.pkg.take 0 0 129 = some j8 ∧ s104.pkg.mpTakes 0 0 j8 = true ∧ s104.pkg.unbindCheck (j8.arg 0 2) = some re1) ∧
    (s115.pkg.take 0 0 129 = some j8 ∧ s115.pkg.mpTakes 0 0 j8 = true ∧ s115.pkg.unbindCheck (j8.arg 0 2) = none ∧
      s115.pkg.flowBusy (j8.arg 0 2) = false) ∧
    (s116.pkg.take 0 0 129 = some j8 ∧ s116.pkg.mpTakes 0 0 j8 = true ∧ s116.pkg.unbindCheck (j8.arg 0 2) = none ∧
      s116.pkg.flowBusy (j8.arg 0 2) = true) := by
  refine ⟨?_, ?_, ?_, ?_, ?_⟩ <;> decide +kernel
end InstancesAndUnitsAct

namespace KeysAndFusesAreWritten
def jList : List Msg := ky
def sList : List State := (ky.flatMap fun j => [{pkg := cmd j z}, {pkg := cmd j (rails z)},
  {pkg := cmd j (rails z), fuses := {efKeyDis := true, bbKeyDis := true}},
  {pkg := cmd j {rails z with slotA := {key := 1, kcv := 2, seq := 3, ok := true}}},
  {pkg := cmd j {rails z with slotB := {key := 1, kcv := 2, seq := 3, ok := true}}}])
def j0 : Msg := jList[0]'(by decide +kernel)
def j1 : Msg := jList[1]'(by decide +kernel)
def j2 : Msg := jList[2]'(by decide +kernel)
def j3 : Msg := jList[3]'(by decide +kernel)
def j4 : Msg := jList[4]'(by decide +kernel)
def j5 : Msg := jList[5]'(by decide +kernel)
def s0 : State := sList.getD 0 {}
def s1 : State := sList.getD 1 {}
def s2 : State := sList.getD 2 {}
def s6 : State := sList.getD 6 {}
def s10 : State := sList.getD 10 {}
def s12 : State := sList.getD 12 {}
def s15 : State := sList.getD 15 {}
def s18 : State := sList.getD 18 {}
def s19 : State := sList.getD 19 {}
def s20 : State := sList.getD 20 {}
def s25 : State := sList.getD 25 {}
def s26 : State := sList.getD 26 {}
/-- The hypotheses of `Obligations.KeysAndFusesAreWritten` are met, clause by clause: `keyEfProgram`, `keyBbWrite`, `keyBbZero`, `fusePolicy`. -/
theorem witness_KeysAndFusesAreWritten :
    (s2.pkg.take 0 0 96 = some j0 ∧ s2.pkg.mpTakes 0 0 j0 = true ∧ s2.fuses.keyBarred = true) ∧
    (s0.pkg.take 0 0 96 = some j0 ∧ s0.pkg.mpTakes 0 0 j0 = true ∧ s0.fuses.keyBarred = false ∧ (false && s0.pkg.railsIn) = false) ∧
    (s1.pkg.take 0 0 96 = some j0 ∧ s1.pkg.mpTakes 0 0 j0 = true ∧ s1.fuses.keyBarred = false ∧ (true && s1.pkg.railsIn) = true ∧
      j0.kcv ≠ kcvOf j0.key) ∧
    (s6.pkg.take 0 0 96 = some j1 ∧ s6.pkg.mpTakes 0 0 j1 = true ∧ s6.fuses.keyBarred = false ∧ (true && s6.pkg.railsIn) = true ∧
      j1.kcv = kcvOf j1.key) ∧
    (s6.pkg.take 0 0 96 = some j1 ∧ s6.pkg.mpTakes 0 0 j1 = true ∧ s6.fuses.keyBarred = false ∧ (true && s6.pkg.railsIn) = true ∧
      j1.kcv = kcvOf j1.key) ∧
    (s12.pkg.take 0 0 97 = some j2 ∧ s12.pkg.mpTakes 0 0 j2 = true ∧ s12.fuses.bbKeyDis = true) ∧
    (s10.pkg.take 0 0 97 = some j2 ∧ s10.pkg.mpTakes 0 0 j2 = true ∧ s10.fuses.bbKeyDis = false ∧ j2.kcv ≠ kcvOf j2.key) ∧
    (s18.pkg.take 0 0 97 = some j3 ∧ s18.pkg.mpTakes 0 0 j3 = true ∧ s18.fuses.bbKeyDis = false ∧ j3.kcv = kcvOf j3.key ∧
      s18.pkg.slotActive = some false) ∧
    (s18.pkg.take 0 0 97 = some j3 ∧ s18.pkg.mpTakes 0 0 j3 = true ∧ s18.fuses.bbKeyDis = false ∧ j3.kcv = kcvOf j3.key ∧
      s18.pkg.slotActive = some false) ∧
    (s19.pkg.take 0 0 97 = some j3 ∧ s19.pkg.mpTakes 0 0 j3 = true ∧ s19.fuses.bbKeyDis = false ∧ j3.kcv = kcvOf j3.key ∧
      s19.pkg.slotActive = some true) ∧
    (s19.pkg.take 0 0 97 = some j3 ∧ s19.pkg.mpTakes 0 0 j3 = true ∧ s19.fuses.bbKeyDis = false ∧ j3.kcv = kcvOf j3.key ∧
      s19.pkg.slotActive = some true) ∧
    (s15.pkg.take 0 0 97 = some j3 ∧ s15.pkg.mpTakes 0 0 j3 = true ∧ s15.fuses.bbKeyDis = false ∧ j3.kcv = kcvOf j3.key ∧
      s15.pkg.slotActive = none) := by
  refine ⟨?_, ?_, ?_, ?_, ?_, ?_, ?_, ?_, ?_, ?_, ?_, ?_⟩ <;> decide +kernel
theorem witness_KeysAndFusesAreWritten_2 :
    (s20.pkg.take 0 0 98 = some j4 ∧ s20.pkg.mpTakes 0 0 j4 = true) ∧
    (s25.pkg.take 0 0 99 = some j5 ∧ s25.pkg.mpTakes 0 0 j5 = true ∧ (false && s25.pkg.railsIn) = false) ∧
    (s26.pkg.take 0 0 99 = some j5 ∧ s26.pkg.mpTakes 0 0 j5 = true ∧ (true && s26.pkg.railsIn) = true) := by
  refine ⟨?_, ?_, ?_⟩ <;> decide +kernel
end KeysAndFusesAreWritten

end Units

namespace Mailboxes

def z : Pkg := {}
def slot (seq idx last : Nat) (bad : Bool) (body : List Nat) : List Nat :=
  let b := body ++ List.replicate (56 - body.length) 0
  let h := [seq % 256, seq / 256, idx + 16 * last, 0xC5]
  h ++ leVals (crc32c (h ++ b) + b2n bad) 4 ++ b
def bd (op inst flags argl : Nat) (args : List Nat := []) : List Nat := [op, 2, inst, flags, argl, 0, 0, 0, 1,2,3,4,5,6,7,8] ++ args
def key : List Nat := List.replicate 32 7 ++ leVals (kcvOf (leOf (List.replicate 32 7))) 4
def F : List (List Nat) := [slot 0 0 0 false (bd 1 0 0 0), slot 0 0 0 false (bd 0x99 0 0 0), slot 0 0 0 false (bd 1 0 1 0),
  slot 0 0 0 true (bd 1 0 0 0), slot 65535 0 0 false (bd 1 0 0 0), slot 40000 0 0 false (bd 1 0 0 0), slot 3 0 0 false (bd 1 0 0 0),
  slot 0 0 1 false (bd 0x60 0 0 36 key), slot 0 0 0 false (bd 0x61 0 0 36 key), slot 0 0 0 false (bd 0x21 3 0 0), slot 0 1 2 false [1, 2],
  slot 7 1 2 false [1, 2]]
def G := F.map fun l => l.map (BitVec.ofNat 8)
def on (l : List (Fld × Nat × Nat)) : Pkg := z.ps ([(.MBX_CTRL_EN, 0, 1), (.MBX_RING_CFG, 0, 4), (.MBX_CTRL_MAXQ, 0, 4), (.MBX_CMD_TAIL, 0, 2),
  (.SCH_POOL, 0, 8), (.MBX_MP_STAT_STATE, 0, 2), (.MBX_PKG_STAT_FW_READY, 0, 1), (.MBX_CMD_BASE, 0, 4096), (.MBX_CPL_BASE, 0, 8192)] ++ l)
def sr (f : List Nat) : List Host.Cell := writeBytes [] 0xD0000 (f.map (BitVec.ofNat 8))

namespace MailboxesCarryCommands
def sList : List State := ([z, on [], on [(.MBX_PKG_STAT_MASTER_FAILED,0,1)], on [(.MBX_PKG_STAT_FW_READY,0,0)], on [(.MBX_CTRL_ONCHIP,0,1)],
  on [(.MBX_CTRL_IRQ_EN,0,1),(.MSIX_MASK,0,0)], on [(.MBX_CTRL_IRQ_EN,0,1),(.MBX_CMD_HEAD,0,65535),(.MSIX_MASK,0,1)], on [(.MBX_CTRL_EN,0,0)],
  on [(.MBX_CTRL_EN,0,0),(.MBX_CTRL_PORT,0,1)], on [(.MBX_CPL_TAIL,0,16)]].flatMap fun p => [p,
  {p with mbx := [(0, {asm := some {seq := 0, last := 2, n := 1, body := [], pos := 0}})]},
  {p with mbx := [(0, {cplq := [{seq := 1, op := 2, status := 0, orig := 0, reason := 0, qdepth := 0, tag := 9, result := [1]}], cache := [{seq := 65535, op := 1, status := some .ok, reason := .none, result := [5]}]})]},
  {p with mbx := [(0, {cache := [{seq := 65535, op := 1, status := none}]})]}]).map st ++ F.map fun f => st {on [(.MBX_CTRL_ONCHIP,0,1)] with sram := sr f}
def lbvList : List (List (BitVec 8)) := G
def a0 : Asm := {seq := 0, last := 2, n := 1, body := [], pos := 0}
def c0 : Cpl := {seq := 1, op := 2, status := 0, orig := 0, reason := 0, qdepth := 0, tag := 9, result := [1]}
def ce0 : CacheEnt := {seq := 65535, op := 1, status := some .ok, reason := .none, result := [5]}
def ce1 : CacheEnt := {seq := 65535, op := 1, status := none}
def lbv0 : List (BitVec 8) := lbvList[0]'(by decide +kernel)
def lbv4 : List (BitVec 8) := lbvList[4]'(by decide +kernel)
def lbv10 : List (BitVec 8) := lbvList[10]'(by decide +kernel)
def lbv11 : List (BitVec 8) := lbvList[11]'(by decide +kernel)
def lc0 : List Cpl := []
def s0 : State := sList.getD 0 {}
def s1 : State := sList.getD 1 {}
def s2 : State := sList.getD 2 {}
def s4 : State := sList.getD 4 {}
def s5 : State := sList.getD 5 {}
def s6 : State := sList.getD 6 {}
def s7 : State := sList.getD 7 {}
def s8 : State := sList.getD 8 {}
def s12 : State := sList.getD 12 {}
def s16 : State := sList.getD 16 {}
def s38 : State := sList.getD 38 {}
def s41 : State := sList.getD 41 {}
def s42 : State := sList.getD 42 {}
def s45 : State := sList.getD 45 {}
def s46 : State := sList.getD 46 {}
def s47 : State := sList.getD 47 {}
def slot_12_0 : MSlot := slotOf (s12.pkg.slotBytes 0 (s12.pkg.g .MBX_CMD_HEAD 0) (List.map BitVec.toNat lbv0))
def slot_16_0 : MSlot := slotOf (s16.pkg.slotBytes 0 (s16.pkg.g .MBX_CMD_HEAD 0) (List.map BitVec.toNat lbv0))
def slot_41_0 : MSlot := slotOf (s41.pkg.slotBytes 0 (s41.pkg.g .MBX_CMD_HEAD 0) (List.map BitVec.toNat lbv0))
def slot_42_0 : MSlot := slotOf (s42.pkg.slotBytes 0 (s42.pkg.g .MBX_CMD_HEAD 0) (List.map BitVec.toNat lbv0))
def slot_45_0 : MSlot := slotOf (s45.pkg.slotBytes 0 (s45.pkg.g .MBX_CMD_HEAD 0) (List.map BitVec.toNat lbv0))
def slot_46_0 : MSlot := slotOf (s46.pkg.slotBytes 0 (s46.pkg.g .MBX_CMD_HEAD 0) (List.map BitVec.toNat lbv0))
def slot_47_0 : MSlot := slotOf (s47.pkg.slotBytes 0 (s47.pkg.g .MBX_CMD_HEAD 0) (List.map BitVec.toNat lbv0))
def slot_4_0 : MSlot := slotOf (s4.pkg.slotBytes 0 (s4.pkg.g .MBX_CMD_HEAD 0) (List.map BitVec.toNat lbv0))
def slot_5_10 : MSlot := slotOf (s5.pkg.slotBytes 0 (s5.pkg.g .MBX_CMD_HEAD 0) (List.map BitVec.toNat lbv10))
def slot_5_11 : MSlot := slotOf (s5.pkg.slotBytes 0 (s5.pkg.g .MBX_CMD_HEAD 0) (List.map BitVec.toNat lbv11))
def slot_6_4 : MSlot := slotOf (s6.pkg.slotBytes 0 (s6.pkg.g .MBX_CMD_HEAD 0) (List.map BitVec.toNat lbv4))
def slot_7_4 : MSlot := slotOf (s7.pkg.slotBytes 0 (s7.pkg.g .MBX_CMD_HEAD 0) (List.map BitVec.toNat lbv4))
def slot_8_0 : MSlot := slotOf (s8.pkg.slotBytes 0 (s8.pkg.g .MBX_CMD_HEAD 0) (List.map BitVec.toNat lbv0))
def st0 : Status := .ok
/-- The hypotheses of `Obligations.MailboxesCarryCommands` are met, clause by clause: `slotTake`, `partialMessageTimeout`, `completionWrite`,
`fetchRetry`, `doorbell`, `cplHeadWrite`, `mailboxReset`. -/
theorem witness_MailboxesCarryCommands :
    (s0.pkg.intakeOpen 0 = false) ∧
    (s8.pkg.intakeOpen 0 = true ∧ slot_8_0.magicOk = true ∧ slot_8_0.chkOk = true ∧ slot_8_0.idx = 0 ∧ (s8.pkg.mail 0).asm = none ∧
      slot_8_0.last = 0 ∧ dist16 slot_8_0.seq (s8.pkg.g .MBX_SEQ 0) = 0 ∧ s8.pkg.masterFailed = true) ∧
    (s41.pkg.intakeOpen 0 = true ∧ slot_41_0.magicOk = true ∧ slot_41_0.chkOk = true ∧ slot_41_0.idx = 0 ∧ (s41.pkg.mail 0).asm = none ∧
      slot_41_0.last = 0 ∧ dist16 slot_41_0.seq (s41.pkg.g .MBX_SEQ 0) = 0 ∧ s41.pkg.masterFailed = false ∧
      cmdShape (slot_41_0.body.getD 0 0) = none) ∧
    (s42.pkg.intakeOpen 0 = true ∧ slot_42_0.magicOk = true ∧ slot_42_0.chkOk = true ∧ slot_42_0.idx = 0 ∧ (s42.pkg.mail 0).asm = none ∧
      slot_42_0.last = 0 ∧ dist16 slot_42_0.seq (s42.pkg.g .MBX_SEQ 0) = 0 ∧ s42.pkg.masterFailed = false ∧
      cmdShape (slot_42_0.body.getD 0 0) ≠ none ∧
      msgOk { seq := slot_42_0.seq, op := slot_42_0.body.getD 0 0, prio := min (slot_42_0.body.getD 1 0 % 4) (s42.pkg.g .MBX_CTRL_PRIO 0), inst := slot_42_0.body.getD 2 0 % 16, flags := slot_42_0.body.getD 3 0, args := List.take (slot_42_0.body.getD 4 0 + 256 * slot_42_0.body.getD 5 0) (List.drop 16 slot_42_0.body), tag := leOf (List.take 8 (List.drop 8 slot_42_0.body)), order := s42.pkg.jobs } slot_42_0.body 0 s42.pkg.part.model.dies = false) ∧
    (s12.pkg.intakeOpen 0 = true ∧ slot_12_0.magicOk = true ∧ slot_12_0.chkOk = true ∧ slot_12_0.idx = 0 ∧ (s12.pkg.mail 0).asm = none ∧
      slot_12_0.last = 0 ∧ dist16 slot_12_0.seq (s12.pkg.g .MBX_SEQ 0) = 0 ∧ s12.pkg.masterFailed = false ∧
      cmdShape (slot_12_0.body.getD 0 0) ≠ none ∧
      msgOk { seq := slot_12_0.seq, op := slot_12_0.body.getD 0 0, prio := min (slot_12_0.body.getD 1 0 % 4) (s12.pkg.g .MBX_CTRL_PRIO 0), inst := slot_12_0.body.getD 2 0 % 16, flags := slot_12_0.body.getD 3 0, args := List.take (slot_12_0.body.getD 4 0 + 256 * slot_12_0.body.getD 5 0) (List.drop 16 slot_12_0.body), tag := leOf (List.take 8 (List.drop 8 slot_12_0.body)), order := s12.pkg.jobs } slot_12_0.body 0 s12.pkg.part.model.dies = true ∧
      s12.pkg.g .MBX_PKG_STAT_FW_READY 0 = 0) ∧
    (s4.pkg.intakeOpen 0 = true ∧ slot_4_0.magicOk = true ∧ slot_4_0.chkOk = true ∧ slot_4_0.idx = 0 ∧ (s4.pkg.mail 0).asm = none ∧
      slot_4_0.last = 0 ∧ dist16 slot_4_0.seq (s4.pkg.g .MBX_SEQ 0) = 0 ∧ s4.pkg.masterFailed = false ∧ cmdShape (slot_4_0.body.getD 0 0) ≠ none ∧
      msgOk { seq := slot_4_0.seq, op := slot_4_0.body.getD 0 0, prio := min (slot_4_0.body.getD 1 0 % 4) (s4.pkg.g .MBX_CTRL_PRIO 0), inst := slot_4_0.body.getD 2 0 % 16, flags := slot_4_0.body.getD 3 0, args := List.take (slot_4_0.body.getD 4 0 + 256 * slot_4_0.body.getD 5 0) (List.drop 16 slot_4_0.body), tag := leOf (List.take 8 (List.drop 8 slot_4_0.body)), order := s4.pkg.jobs } slot_4_0.body 0 s4.pkg.part.model.dies = true ∧
      s4.pkg.g .MBX_PKG_STAT_FW_READY 0 = 1) ∧
    (s6.pkg.intakeOpen 0 = true ∧ slot_6_4.magicOk = true ∧ slot_6_4.chkOk = true ∧ slot_6_4.idx = 0 ∧ (s6.pkg.mail 0).asm = none ∧
      slot_6_4.last = 0 ∧ 65280 ≤ dist16 slot_6_4.seq (s6.pkg.g .MBX_SEQ 0) ∧
      List.find? (fun (e : CacheEnt) => e.seq == slot_6_4.seq) (s6.pkg.mail 0).cache = some ce0 ∧ ce0.status = some st0) ∧
    (s7.pkg.intakeOpen 0 = true ∧ slot_7_4.magicOk = true ∧ slot_7_4.chkOk = true ∧ slot_7_4.idx = 0 ∧ (s7.pkg.mail 0).asm = none ∧
      slot_7_4.last = 0 ∧ 65280 ≤ dist16 slot_7_4.seq (s7.pkg.g .MBX_SEQ 0) ∧
      List.find? (fun (e : CacheEnt) => e.seq == slot_7_4.seq) (s7.pkg.mail 0).cache = some ce1 ∧ ce1.status = none) ∧
    (s45.pkg.intakeOpen 0 = true ∧ slot_45_0.magicOk = true ∧ slot_45_0.chkOk = true ∧ slot_45_0.idx = 0 ∧ (s45.pkg.mail 0).asm = none ∧
      slot_45_0.last = 0 ∧ 32768 ≤ dist16 slot_45_0.seq (s45.pkg.g .MBX_SEQ 0) ∧ dist16 slot_45_0.seq (s45.pkg.g .MBX_SEQ 0) < 65280) ∧
    (s46.pkg.intakeOpen 0 = true ∧ slot_46_0.magicOk = true ∧ slot_46_0.chkOk = true ∧ slot_46_0.idx = 0 ∧ (s46.pkg.mail 0).asm = none ∧
      slot_46_0.last = 0 ∧ dist16 slot_46_0.seq (s46.pkg.g .MBX_SEQ 0) ≠ 0 ∧ dist16 slot_46_0.seq (s46.pkg.g .MBX_SEQ 0) < 32768) ∧
    (s47.pkg.intakeOpen 0 = true ∧ slot_47_0.magicOk = true ∧ slot_47_0.chkOk = true ∧ slot_47_0.idx = 0 ∧ (s47.pkg.mail 0).asm = none ∧
      slot_47_0.last ≠ 0) ∧
    (s5.pkg.intakeOpen 0 = true ∧ slot_5_10.magicOk = true ∧ slot_5_10.chkOk = true ∧ slot_5_10.idx ≠ 0 ∧ (s5.pkg.mail 0).asm = some a0 ∧
      slot_5_10.seq = a0.seq ∧ slot_5_10.idx = a0.n ∧ a0.n < a0.last) := by
  refine ⟨?_, ?_, ?_, ?_, ?_, ?_, ?_, ?_, ?_, ?_, ?_, ?_⟩ <;> decide +kernel
theorem witness_MailboxesCarryCommands_2 :
    (s5.pkg.intakeOpen 0 = true ∧ slot_5_11.magicOk = true ∧ slot_5_11.chkOk = true ∧ slot_5_11.idx ≠ 0 ∧ (s5.pkg.mail 0).asm = some a0 ∧
      slot_5_11.seq ≠ a0.seq) ∧
    (s16.pkg.intakeOpen 0 = true ∧ (slot_16_0.magicOk && slot_16_0.chkOk) = false ∧ (s16.pkg.mail 0).asm = none) ∧
    ((s1.pkg.mail 0).asm = some a0) ∧
    ((s0.pkg.mail 0).asm = none) ∧
    ((s2.pkg.mail 0).cplq = c0 :: lc0 ∧ dist16 (s2.pkg.g .MBX_CPL_TAIL 0) (s2.pkg.g .MBX_CPL_HEAD 0) < s2.pkg.ringN 0) ∧
    ((s38.pkg.mail 0).cplq = c0 :: lc0 ∧ s38.pkg.ringN 0 ≤ dist16 (s38.pkg.g .MBX_CPL_TAIL 0) (s38.pkg.g .MBX_CPL_HEAD 0)) ∧
    ((s0.pkg.mail 0).cplq = []) ∧
    (s16.pkg.b .MBX_CTRL_ONCHIP 0 = true) ∧
    (s0.pkg.b .MBX_CTRL_ONCHIP 0 = false) ∧
    (s0.pkg.unwatched = true ∧ dist16 0 (s0.pkg.g .MBX_CMD_HEAD 0) ≤ s0.pkg.ringN 0) ∧
    (s0.pkg.unwatched = true ∧ s0.pkg.ringN 0 < dist16 17 (s0.pkg.g .MBX_CMD_HEAD 0)) ∧
    (s0.pkg.unwatched = true ∧ dist16 (s0.pkg.g .MBX_CPL_TAIL 0) 0 ≤ s0.pkg.ringN 0) := by
  refine ⟨?_, ?_, ?_, ?_, ?_, ?_, ?_, ?_, ?_, ?_, ?_, ?_⟩ <;> decide +kernel
theorem witness_MailboxesCarryCommands_3 :
    (s0.pkg.unwatched = true ∧ s0.pkg.ringN 0 < dist16 (s0.pkg.g .MBX_CPL_TAIL 0) 2) ∧
    (s0.pkg.unwatched = true ∧ (s0.pkg.part.model = .gl8 ∨ s0.pkg.g .MBX_CTRL_PORT 0 = 0) ∧ s0.pkg.g .MBX_CTRL_EN 0 = 0 ∧ s0.pkg.inflight 0 = 0 ∧
      s0.pkg.cplPend 0 = 0) ∧
    (s2.pkg.unwatched = true ∧ (s2.pkg.part.model = .gl8 ∨ s2.pkg.g .MBX_CTRL_PORT 0 = 0) ∧ ¬(s2.pkg.g .MBX_CTRL_EN 0 = 0 ∧ s2.pkg.inflight 0 = 0 ∧
      s2.pkg.cplPend 0 = 0)) := by
  refine ⟨?_, ?_, ?_⟩ <;> decide +kernel
end MailboxesCarryCommands

end Mailboxes

namespace Processors

def z : Pkg := {}
def ev (k : Nat) : Evt := { num := k, typ := 3, inst := some 1, data := [1,2] }
def evs (l : List (Fld × Nat × Nat)) (s : Pkg) : Pkg := s.ps ([(.MBX_EVT_CTRL_EN,0,1),(.MBX_EVT_CTRL_IRQ_EN,0,1),(.MBX_EVT_BASE,0,4096)] ++ l)
def job (op a0 : Nat) : Msg := { seq := 3, op := op, prio := 0, inst := 0, flags := 0, args := [a0], tag := 0, order := 0, started := true }
def run (s : Pkg) : Pkg :=
  { s.ps [(.ARY_RUN_STAT_STATE, 0, 3), (.ARY_CFG_INFO_DEPTH, 0, 80), (.ARY_VMAP_REG_VALID, 0, 1)] with fab.regOwn := [(0, 1)], insts := [(0, {desc := {dies := [0], flowCount := 1}})] }
def L : List Pkg := [z.p .MBX_MP_STAT_STATE 0 2, z.p .MBX_MP_STAT_STATE 0 3, z.p .MBX_MP_STAT_STATE 0 4,
  (z.p .MBX_MP_STAT_STATE 0 2).p .DBG_MP_STAT_HALTED 0 1, (z.p .MBX_MP_STAT_STATE 0 3).p .DBG_MP_STAT_HALTED 0 1,
  ((z.p .MBX_MP_STAT_STATE 0 2).p .DBG_MP_STAT_HALTED 0 1).p .DBG_MP_CTL_WDOG_RUN 0 1]

namespace EventsAndWatchdogsAct
def sList : List State :=
  (([z, (z.p .MSIX_MASK 16 0).p .MSIX_MASK 17 0].flatMap fun y => [y, {evs [] y with evts := [ev 1, ev 2]}, {evs [] y with evts := [ev 1, ev 2], evtLost := 3}, {evs [(.MBX_EVT_CTRL_EN,0,0)] y with evts := [ev 1, ev 2]}, {evs [(.MBX_EVT_TAIL,0,64)] y with evts := [ev 1, ev 2]}, {y with sends := [{mbx := 0, seq := 3, port := 0, bytes := 8, deferred := true}]}, {y.p .LNK_LANE_STAT_STATE 0 6 with sends := [{mbx := 0, seq := 3, port := 0, bytes := 8, deferred := true}]}]) ++ (L.flatMap fun y => let v := y; let y := (y.p .MBX_MP_STAT_STATE 1 2).p .MSIX_MASK 17 0; let w := y.p .MBX_MP_STAT_STATE 1 3;  [v, y, w, run y, {run y with mbx := [(0, {run := [job 0x70 0]})]}, {run y with mbx := [(0, {run := [job 0x12 0]})]}, {run w with insts := [(0, {desc := {dies := [1], flowCount := 1}})], fab.regOwn := [(64, 1)]}])).map st
def e0 : Evt := ev 1
def le0 : List Evt := [ev 2]
def s0 : State := sList.getD 0 {}
def s1 : State := sList.getD 1 {}
def s5 : State := sList.getD 5 {}
def s6 : State := sList.getD 6 {}
def s14 : State := sList.getD 14 {}
def s21 : State := sList.getD 21 {}
def sj0 : SendJob := {mbx := 0, seq := 3, port := 0, bytes := 8, deferred := true}
/-- The hypotheses of `Obligations.EventsAndWatchdogsAct` are met, clause by clause: `eventWrite`, `deferredActionDone`, `wdogKick`, `wdogExpiry`,
`mpRebootDone`, `mpFailed`. -/
theorem witness_EventsAndWatchdogsAct :
    (s1.pkg.evts = e0 :: le0 ∧
      (s1.pkg.b .MBX_EVT_CTRL_EN 0 && decide (dist16 (s1.pkg.g .MBX_EVT_TAIL 0) (s1.pkg.g .MBX_EVT_HEAD 0) < 2 ^ s1.pkg.g .MBX_EVT_CTRL_LOG2N 0)) = true) ∧
    ((s0.pkg.evts = [] ∨
      (s0.pkg.b .MBX_EVT_CTRL_EN 0 && decide (dist16 (s0.pkg.g .MBX_EVT_TAIL 0) (s0.pkg.g .MBX_EVT_HEAD 0) < 2 ^ s0.pkg.g .MBX_EVT_CTRL_LOG2N 0)) = false)) ∧
    (List.find? (fun (x : SendJob) => x.mbx == 0 && x.seq == 3 && x.deferred && !x.ended) s6.pkg.sends = some sj0 ∧
      (∃ l ∈ portLanes sj0.port, s6.pkg.laneSt l = .fault)) ∧
    (List.find? (fun (x : SendJob) => x.mbx == 0 && x.seq == 3 && x.deferred && !x.ended) s5.pkg.sends = some sj0 ∧
      (∀ l ∈ portLanes sj0.port, s5.pkg.laneSt l ≠ .fault)) ∧
    (s0.pkg.unwatched = true ∧ 0 < s0.pkg.part.model.dies ∧ 0 = 0) ∧
    (s0.pkg.unwatched = true ∧ 0 < s0.pkg.part.model.dies ∧ 1 ≠ 0) ∧
    (s14.pkg.g .MBX_MP_STAT_STATE 0 = 2 ∧ (s14.pkg.g .DBG_MP_STAT_HALTED 0 = 0 ∨ s14.pkg.g .DBG_MP_CTL_WDOG_RUN 0 = 1)) ∧
    ((s0.pkg.g .MBX_MP_STAT_STATE 0 ≠ 2 ∨ s0.pkg.g .DBG_MP_STAT_HALTED 0 = 1 ∧ s0.pkg.g .DBG_MP_CTL_WDOG_RUN 0 = 0)) ∧
    (s21.pkg.g .MBX_MP_STAT_STATE 0 = 3 ∧ s21.pkg.g .DBG_MP_STAT_HALTED 0 = 0) ∧
    ((s0.pkg.g .MBX_MP_STAT_STATE 0 ≠ 3 ∨ s0.pkg.g .DBG_MP_STAT_HALTED 0 = 1)) ∧
    (s21.pkg.g .MBX_MP_STAT_STATE 0 = 3) ∧
    (s0.pkg.g .MBX_MP_STAT_STATE 0 ≠ 3) := by
  refine ⟨?_, ?_, ?_, ?_, ?_, ?_, ?_, ?_, ?_, ?_, ?_, ?_⟩ <;> decide +kernel
end EventsAndWatchdogsAct

end Processors

namespace Flows

def z : Pkg := {}
def it (n pr : Nat) (r : ItemRef) (e : Option Nat) : Item := { num := n, prio := pr, inst := some 0, arr := 0, ref := r, engine := e }
def fb (l : List (Fld × Nat × Nat)) : Pkg := z.ps ([(.MBX_MP_STAT_STATE, 0, 2), (.SCH_FLOW_STAT_STATE, 0, 1), (.SCH_FLOW_RINGCFG_LOG2N, 0, 4),
  (.SCH_FLOW_RINGCFG_ENTRY_BYTES, 0, 64), (.SCH_FLOW_RING, 0, 65536), (.SCH_FLOW_CFG_DEPTHM1, 0, 3), (.SCH_FLOW_BUF_LEN, 0, 4)] ++ l)
def e1 : FlowEnt := { fseq := 5, slot := 3, words := [1,2,3], inst := 0, call := false, mcc := 9, taken := 0 }
def e2 : FlowEnt := { fseq := 6, slot := 4, words := [1,2,3], inst := 0, call := true, mcc := 9, taken := 0 }
def e3 : FlowEnt := { fseq := 6, slot := 4, words := [1,2,3], inst := 0, call := true, mcc := 9, taken := 0, written := true }
def fl (p : Pkg) (items : List Item) (f : Flow) : Pkg := { p with sch := { p.sch with items := items, flows := [(0, f)], num := 7 } }
def o := it 1 0 (.out 0 5) (some 8)
def o' := it 1 0 (.out 0 6) (some 8)
def i := it 1 0 (.inb 0) (some 8)
def c := it 1 0 (.cmd 0 3) (some 0)
def oR := it 1 0 (.out 0 5) none
def oR2 := it 2 1 (.out 0 6) none
def iR := it 3 3 (.inb 0) none
def P : List Pkg := [z, { z with part.model := .gl2 }, fl (fb []) [o] {out := [e1]}, fl (fb []) [o] {out := [e1, e2]},
  fl (fb []) [o] {out := [e1, e3]}, fl (fb []) [o'] {out := [e1, e2]}, fl (fb [(.SCH_FLOW_STAT_STATE, 0, 2)]) [o] {out := [e1,e2]},
  fl (fb [(.SCH_FLOW_STAT_DIR, 0, 1)]) [i] {}, fl (fb [(.SCH_FLOW_STAT_DIR, 0, 1), (.SCH_FLOW_TAKEN, 0, 7)]) [i] {},
  fl (fb [(.SCH_FLOW_STAT_STATE, 0, 2), (.SCH_FLOW_STAT_DIR, 0, 1)]) [i] {}, fl (fb []) [c] {}, fl (fb []) [oR, oR2] {out := [e1, e2]},
  fl (fb [(.SCH_FLOW_STAT_DIR, 0, 1)]) [iR] {},
  fl (fb [(.SCH_FLOW_STAT_DIR, 0, 1), (.SCH_FLOW_HOST, 0, 3), (.SCH_FLOW_STAT_STATE, 1, 1), (.SCH_FLOW_RINGCFG_LOG2N, 1, 4)]) [] {},
  fl (fb [(.SCH_ENG_STAT_FAULT, 8, 1)]) [oR, oR2] {out := [e1, e2]}, fl (fb []) [] {calls := [(4, true), (5, false)]},
  fl (fb [(.SCH_FLOW_ANS_LO, 0, 77)]) [] {calls := [(4, true)]}, fl (fb []) [] {calls := [(4, false)]}]

namespace EnginesAndFlowsAct
def sList : List State := P.map st
def fe0 : FlowEnt := e1
def fe1 : FlowEnt := e2
def i0 : Item := o
def i1 : Item := o'
def i2 : Item := i
def i3 : Item := c
def i5 : Item := oR2
def lb1 : List (Nat × Bool) := [(5, false)]
def lfe0 : List FlowEnt := []
def lfe1 : List FlowEnt := [e2]
def s0 : State := sList.getD 0 {}
def s1 : State := sList.getD 1 {}
def s2 : State := sList.getD 2 {}
def s5 : State := sList.getD 5 {}
def s6 : State := sList.getD 6 {}
def s7 : State := sList.getD 7 {}
def s9 : State := sList.getD 9 {}
def s10 : State := sList.getD 10 {}
def s11 : State := sList.getD 11 {}
def s15 : State := sList.getD 15 {}
/-- The hypotheses of `Obligations.EnginesAndFlowsAct` are met, clause by clause: `workItemDispatch`, `outboundEntryWriteDone`, `inboundFetchDone`,
`dmaRetry`, `callAnswer`, `flowHostPointerWrite`, `schSnap`, `engineReturn`. -/
theorem witness_EnginesAndFlowsAct :
    (s11.pkg.engRoom 8 = true ∧ (s11.pkg.pass 0).selectItem 8 = some i5) ∧
    ((s0.pkg.engRoom 0 = false ∨ (s0.pkg.pass 0).selectItem 0 = none)) ∧
    (List.find? (fun (x : Item) => match x.ref with | .out _ _ => true | _ => false) (s2.pkg.onEngine 8) = some i0 ∧ i0.ref = ItemRef.out 0 5 ∧
      List.find? (fun (y : FlowEnt) => y.fseq == 5) (s2.pkg.flow 0).out = some fe0 ∧ s2.pkg.flowBound 0 = true ∧ (s2.pkg.flow 0).out = fe0 :: lfe0 ∧
      (∀ (y : FlowEnt), lfe0.head? = some y → y.written = false) ∧ (∀ y ∈ lfe0, y.fseq ≠ 5)) ∧
    (List.find? (fun (x : Item) => match x.ref with | .out _ _ => true | _ => false) (s5.pkg.onEngine 8) = some i1 ∧ i1.ref = ItemRef.out 0 6 ∧
      List.find? (fun (y : FlowEnt) => y.fseq == 6) (s5.pkg.flow 0).out = some fe1 ∧ s5.pkg.flowBound 0 = true ∧ (s5.pkg.flow 0).out = fe0 :: lfe1 ∧
      fe0.fseq ≠ 6 ∧ fe0.written = false) ∧
    (List.find? (fun (x : Item) => match x.ref with | .out _ _ => true | _ => false) (s6.pkg.onEngine 8) = some i0 ∧ i0.ref = ItemRef.out 0 5 ∧
      List.find? (fun (y : FlowEnt) => y.fseq == 5) (s6.pkg.flow 0).out = some fe0 ∧ s6.pkg.flowBound 0 = false ∧ (s6.pkg.flow 0).unbind = none) ∧
    (List.find? (fun (x : Item) => match x.ref with | .out _ _ => true | _ => false) (s0.pkg.onEngine 0) = none) ∧
    (List.find? (fun (x : Item) => match x.ref with | .inb _ => true | _ => false) (s7.pkg.onEngine 8) = some i2 ∧ i2.ref = ItemRef.inb 0 ∧
      s7.pkg.flowBound 0 = true ∧ 0 = s7.pkg.g .SCH_FLOW_TAKEN 0 ∧ 3 ≠ 0 ∧ 3 ≤ 1024 ∧ 3 ≤ (s7.pkg.g .SCH_FLOW_RINGCFG_ENTRY_BYTES 0 - 16) / 2) ∧
    (List.find? (fun (x : Item) => match x.ref with | .inb _ => true | _ => false) (s7.pkg.onEngine 8) = some i2 ∧ i2.ref = ItemRef.inb 0 ∧
      s7.pkg.flowBound 0 = true ∧ ¬7 = s7.pkg.g .SCH_FLOW_TAKEN 0) ∧
    (List.find? (fun (x : Item) => match x.ref with | .inb _ => true | _ => false) (s7.pkg.onEngine 8) = some i2 ∧ i2.ref = ItemRef.inb 0 ∧
      s7.pkg.flowBound 0 = true ∧ 0 = s7.pkg.g .SCH_FLOW_TAKEN 0 ∧ ¬(0 ≠ 0 ∧ 0 ≤ 1024 ∧ 0 ≤ (s7.pkg.g .SCH_FLOW_RINGCFG_ENTRY_BYTES 0 - 16) / 2)) ∧
    (List.find? (fun (x : Item) => match x.ref with | .inb _ => true | _ => false) (s9.pkg.onEngine 8) = some i2 ∧ i2.ref = ItemRef.inb 0 ∧
      s9.pkg.flowBound 0 = false ∧ (s9.pkg.flow 0).unbind = none) ∧
    ((s2.pkg.onEngine 8).head? = some i0 ∧ i0.ref = ItemRef.out 0 5) ∧
    ((s10.pkg.onEngine 0).head? = some i3 ∧ i3.ref.code ≠ 3) := by
  refine ⟨?_, ?_, ?_, ?_, ?_, ?_, ?_, ?_, ?_, ?_, ?_, ?_⟩ <;> decide +kernel
theorem witness_EnginesAndFlowsAct_2 :
    (s0.pkg.onEngine 0 = []) ∧
    (s15.pkg.unwatched = true ∧ (s15.pkg.flow 0).calls = (4, true) :: lb1) ∧
    (s15.pkg.unwatched = true ∧ (s15.pkg.flow 0).calls = (4, true) :: lb1) ∧
    (s0.pkg.unwatched = true ∧ (s0.pkg.flow 0).calls = []) ∧
    (s2.pkg.unwatched = true ∧ s2.pkg.g .SCH_FLOW_STAT_STATE 0 ≠ 0 ∧
      (if s2.pkg.g .SCH_FLOW_STAT_DIR 0 = 1 then dist16 0 (s2.pkg.g .SCH_FLOW_DEV 0) else dist16 (s2.pkg.g .SCH_FLOW_DEV 0) 0) ≤ s2.pkg.flowN 0 ∧
      ¬s2.pkg.g .SCH_FLOW_STAT_DIR 0 = 1) ∧
    (s7.pkg.unwatched = true ∧ s7.pkg.g .SCH_FLOW_STAT_STATE 0 ≠ 0 ∧
      (if s7.pkg.g .SCH_FLOW_STAT_DIR 0 = 1 then dist16 0 (s7.pkg.g .SCH_FLOW_DEV 0) else dist16 (s7.pkg.g .SCH_FLOW_DEV 0) 0) ≤ s7.pkg.flowN 0 ∧
      s7.pkg.g .SCH_FLOW_STAT_DIR 0 = 1) ∧
    (s0.pkg.unwatched = true ∧ ¬(s0.pkg.g .SCH_FLOW_STAT_STATE 0 ≠ 0 ∧
      (if s0.pkg.g .SCH_FLOW_STAT_DIR 0 = 1 then dist16 0 (s0.pkg.g .SCH_FLOW_DEV 0) else dist16 (s0.pkg.g .SCH_FLOW_DEV 0) 0) ≤ s0.pkg.flowN 0)) ∧
    (s0.pkg.unwatched = true) ∧
    (s0.pkg.unwatched = true ∧ s0.pkg.engPresent 0 = true) ∧
    (s1.pkg.unwatched = true ∧ s1.pkg.engPresent 7 = false) := by
  refine ⟨?_, ?_, ?_, ?_, ?_, ?_, ?_, ?_, ?_, ?_⟩ <;> decide +kernel
end EnginesAndFlowsAct

end Flows

namespace RingsAndPower

def z : Pkg := {}
def R : List RingPkt := [{write := false, init := 0, tag := 0, addr := 0}, {write := false, init := 0, tag := 0, addr := 2^37},
  {write := false, init := 0, tag := 0, addr := 0, ecc := 1}, {write := false, init := 0, tag := 0, addr := 0, ecc := 2},
  {write := true, init := 0x30, tag := 1, addr := 0x100, ecc := 0, data := [5]}, {write := false, init := 0, tag := 0, addr := 0, dst := some 3},
  {write := false, init := 0, tag := 0, addr := 0, dst := some 4, ecc := 1, back := 1}, {write := false, init := 0, tag := 0, addr := 0, back := 2},
  {write := false, init := 0, tag := 0, addr := 0, dst := some 3, ecc := 1},
  {write := false, init := 9, tag := 0, addr := 0, dst := some 3, ecc := 1},
  {write := false, init := 0, tag := 0, addr := 0, dst := some 3, len := 6}, {write := false, init := 9, tag := 0, addr := 0, dst := some 3},
  {write := false, init := 0, tag := 0, addr := 7 * 2^37, ecc := 2}]
def q (i t n : Nat) : RingReq := {init := i, tag := t, addr := 64, inst := some 2, write := true, num := n}
def a (i t n e : Nat) : RingRsp := {init := i, tag := t, num := n, err := e, data := [7]}
def F : FAddr := { cls := .drr, die := 0, region := 0, cluster := 0, bp := 0, port := 0, frame := 3 }
def own (n : Nat) (s : Pkg) : Pkg :=
  { s.ps [(.MBX_MP_STAT_STATE, 0, 2), (.ARY_RUN_STAT_STATE, 0, n), (.ARY_CFG_INFO_DEPTH, 0, 80), (.ARY_VMAP_REG_VALID, 0, 1), (.ARY_VMAP_USE, 0, 1), (.CAV_OWN_KIND, 0, 0), (.IOC_BANK_CFG_OWNED, 1, 1), (.LNK_PORT_STAT_OWNED, 0, 1), (.LNK_PORT_STAT_STATE, 0, 4)] with fab.regOwn := [(0, 1)], insts := [(0, {desc := {dies := [0], flowCount := 1}})] }
def ae (i t n e c : Nat) : RingRsp := {a i t n e with ecc := c}
def P : List Pkg := [{z with svc := {out := [q 0 0 4], rsp := [ae 0 0 4 0 2], num := 5}},
  {z with svc := {out := [q 0 0 4], rsp := [ae 0 0 4 2 1], num := 5}}, {z with svc := {out := [q 0x61 1 4], rsp := [ae 0x61 1 4 2 2], num := 5}},
  {z with svc := {out := [q 0x30 1 4], rsp := [ae 0x30 1 4 0 1], num := 5}}, {z with svc := {out := [q 0x61 1 4], rsp := [a 0x61 1 4 2], num := 5}},
  z, z.ps [(.SVC_RMT_ROUTE_VALID, 3, 1), (.SVC_RMT_ROUTE_PORT, 3, 1)], { z with part.model := .gl2 },
  {z with svc := {out := [q 0 0 4], rsp := [a 0 0 4 0], num := 5}}, {z with svc := {out := [q 0 0 4], rsp := [a 0 0 4 2], num := 5}},
  {z with svc := {out := [], late := [q 0 0 4], rsp := [a 0 0 4 2], num := 5}},
  {z with svc := {out := [q 0x30 1 4], rsp := [a 0x30 1 4 2], num := 5}},
  {z.ps [(.SVC_TMO_LOG_INFO_VALID, 0, 1)] with svc := {out := [q 0x60 1 4, q 0x61 1 4], rsp := [a 0x60 1 4 2, a 0x61 1 4 2], num := 5}},
  {own 2 z with notes := [(0, Note.supply.code 1)]}, {own 2 z with notes := [(0, Note.turner.code F.code)]},
  {own 2 z with notes := [(0, Note.bridge.code 1)]},{z.p .MBX_MP_STAT_STATE 0 3 with notes := [(0, Note.bridge.code 1)]}]

namespace RingsCarryRequests
def rpList : List RingPkt := R
def sList : List State := P.map st
def fa0 : FAddr := F
def rp0 : RingPkt := rpList[0]'(by decide +kernel)
def rp2 : RingPkt := rpList[2]'(by decide +kernel)
def rp3 : RingPkt := rpList[3]'(by decide +kernel)
def rp5 : RingPkt := rpList[5]'(by decide +kernel)
def rp9 : RingPkt := rpList[9]'(by decide +kernel)
def rp10 : RingPkt := rpList[10]'(by decide +kernel)
def rr0 : RingRsp := ae 0 0 4 0 2
def rr1 : RingRsp := ae 0 0 4 2 1
def rr4 : RingRsp := a 0 0 4 0
def rr5 : RingRsp := a 0 0 4 2
def rrn0 : RingReq := q 0 0 4
def s0 : State := sList.getD 0 {}
def s1 : State := sList.getD 1 {}
def s2 : State := sList.getD 2 {}
def s6 : State := sList.getD 6 {}
def s8 : State := sList.getD 8 {}
def s10 : State := sList.getD 10 {}
def s13 : State := sList.getD 13 {}
def s14 : State := sList.getD 14 {}
def s15 : State := sList.getD 15 {}
def v0 : Nat × Nat := (0, Note.supply.code 1)
def v1 : Nat × Nat := (0, Note.turner.code F.code)
def v2 : Nat × Nat := (0, Note.bridge.code 1)
/-- The hypotheses of `Obligations.RingsCarryRequests` are met, clause by clause: `ringRequest`, `ringResponse`, `ringTimeout`, `ringMsg`. -/
theorem witness_RingsCarryRequests :
    (¬(s0.pkg.hasInit rp0.init = true ∧ s0.pkg.tagFree rp0.init rp0.tag = true)) ∧
    (s2.pkg.hasInit rp0.init = true ∧ s2.pkg.tagFree rp0.init rp0.tag = true) ∧
    (s2.pkg.hasInit rp0.init = true ∧ s2.pkg.tagFree rp0.init rp0.tag = true) ∧
    (s2.pkg.hasInit rp0.init = true ∧ s2.pkg.tagFree rp0.init rp0.tag = true ∧ rp0.ecc = 0 ∧ rp0.dst = none) ∧
    (s2.pkg.hasInit rp2.init = true ∧ s2.pkg.tagFree rp2.init rp2.tag = true ∧ rp2.ecc = 1 ∧ rp2.dst = none) ∧
    (s2.pkg.hasInit rp3.init = true ∧ s2.pkg.tagFree rp3.init rp3.tag = true ∧ rp3.ecc = 2) ∧
    (s0.pkg.hasInit rp9.init = true ∧ s0.pkg.tagFree rp9.init rp9.tag = true ∧ rp9.ecc ≠ 2 ∧ rp9.dst = some 3 ∧ rp9.init ≠ 0) ∧
    (s2.pkg.hasInit rp10.init = true ∧ s2.pkg.tagFree rp10.init rp10.tag = true ∧ rp10.ecc ≠ 2 ∧ rp10.dst = some 3 ∧ rp10.init = 0 ∧ 4 < rp10.len) ∧
    (s2.pkg.hasInit rp5.init = true ∧ s2.pkg.tagFree rp5.init rp5.tag = true ∧ rp5.ecc ≠ 2 ∧ rp5.dst = some 3 ∧ rp5.init = 0 ∧ rp5.len ≤ 4 ∧
      s2.pkg.route 3 = none) ∧
    (s6.pkg.hasInit rp5.init = true ∧ s6.pkg.tagFree rp5.init rp5.tag = true ∧ rp5.ecc ≠ 2 ∧ rp5.dst = some 3 ∧ rp5.init = 0 ∧ rp5.len ≤ 4 ∧
      s6.pkg.route 3 = some 1) ∧
    (List.find? (fun (x : RingRsp) => x.init == 0 && x.tag == 0) s0.pkg.svc.rsp = some rr0 ∧ localInit 0 = some 0 ∧ rr0.ecc = 2) ∧
    (List.find? (fun (x : RingRsp) => x.init == 0 && x.tag == 0) s1.pkg.svc.rsp = some rr1 ∧ localInit 0 = some 0 ∧ rr1.ecc = 1 ∧
      List.find? (fun (x : RingReq) => x.num == rr1.num) s1.pkg.svc.out = some rrn0) := by
  refine ⟨?_, ?_, ?_, ?_, ?_, ?_, ?_, ?_, ?_, ?_, ?_, ?_⟩ <;> decide +kernel
theorem witness_RingsCarryRequests_2 :
    (List.find? (fun (x : RingRsp) => x.init == 0 && x.tag == 0) s8.pkg.svc.rsp = some rr4 ∧ localInit 0 = some 0 ∧ rr4.ecc = 0 ∧
      List.find? (fun (x : RingReq) => x.num == rr4.num) s8.pkg.svc.out = some rrn0 ∧ rrn0.remote = none ∧ (s8.pkg.dbg.busy = none ∨
      isDebug 0 = false)) ∧
    (List.find? (fun (x : RingRsp) => x.init == 0 && x.tag == 0) s10.pkg.svc.rsp = some rr5 ∧ localInit 0 = some 0 ∧ rr5.ecc = 0 ∧
      List.find? (fun (x : RingReq) => x.num == rr5.num) s10.pkg.svc.out = none) ∧
    (List.find? (fun (x : RingRsp) => x.init == 0 && x.tag == 0) s2.pkg.svc.rsp = none) ∧
    (List.find? (fun (x : RingReq) => x.init == 0 && x.tag == 0) s0.pkg.svc.out = some rrn0 ∧ localInit 0 = some 0 ∧ rrn0.remote = none ∧
      (s0.pkg.dbg.busy = none ∨ isDebug 0 = false)) ∧
    (List.find? (fun (x : RingReq) => x.init == 0 && x.tag == 0) s2.pkg.svc.out = none) ∧
    (List.find? (fun (e : ℕ × ℕ) => e.1 == 0) s15.pkg.notes = some v2 ∧ s15.pkg.mpActs 0 = true ∧ v2.2 % 16 ≠ Note.supply.ctorIdx ∧
      v2.2 % 16 ≠ Note.turner.ctorIdx) ∧
    (List.find? (fun (e : ℕ × ℕ) => e.1 == 0) s13.pkg.notes = some v0 ∧ s13.pkg.mpActs 0 = true ∧ v0.2 % 16 = Note.supply.ctorIdx ∧
      s13.pkg.evts.length < 256) ∧
    (List.find? (fun (e : ℕ × ℕ) => e.1 == 0) s14.pkg.notes = some v1 ∧ s14.pkg.mpActs 0 = true ∧ v1.2 % 16 = Note.turner.ctorIdx ∧
      faddr (v1.2 / 16) = some fa0 ∧ s14.pkg.evts.length + (s14.pkg.frameInsts fa0).length ≤ 256) ∧
    ((List.find? (fun (e : ℕ × ℕ) => e.1 == 0) s0.pkg.notes = none ∨ s0.pkg.mpActs 0 = false)) := by
  refine ⟨?_, ?_, ?_, ?_, ?_, ?_, ?_, ?_, ?_⟩ <;> decide +kernel
end RingsCarryRequests

namespace RegionsPowerOffAndOn
def sList : List State := ([0,1,2,3,4].flatMap fun n => [(z.p .SVC_PD_STAT_STATE 0 n).p .MBX_MP_STAT_STATE 0 2,
  {z.p .SVC_PD_STAT_STATE 0 n with que.port := [(0, {fly := [{ entry := 3, kind := 0, addr := 64, data := 5 }]})]}, z.p .SVC_PD_STAT_STATE 0 n,
  (own 2 z).p .SVC_PD_STAT_STATE 0 n, (z.p .SVC_PD_STAT_STATE 0 n).p .SVC_PD_AUTO 0 5,
  {z.p .SVC_PD_STAT_STATE 0 n with svc := {out := [q 0 0 4], num := 5}, fab.exp := [(3, 1), (600, 1)], fab.data := [(5, 1), (4194304, 1)]},
  {z.p .SVC_PD_STAT_STATE 0 n with reloc := [(0, some { cmd := (0,0), vdie := 0, moves := [(5, 5, 0)] })], fab.exp := [(3, 1), (600, 1)], fab.egr := [(3, 1), (40, 1)], fab.data := [(5, 1), (4194304, 1)]},
  {z.p .SVC_PD_STAT_STATE 0 n with fab.exp := [(3, 1), (600, 1)], fab.egr := [(3, 1), (40, 1)], fab.data := [(5, 1), (4194304, 1)]}]).map st
def s0 : State := sList.getD 0 {}
def s1 : State := sList.getD 1 {}
def s3 : State := sList.getD 3 {}
def s8 : State := sList.getD 8 {}
def s9 : State := sList.getD 9 {}
def s16 : State := sList.getD 16 {}
def s24 : State := sList.getD 24 {}
def s32 : State := sList.getD 32 {}
/-- The hypotheses of `Obligations.RegionsPowerOffAndOn` are met, clause by clause: `regionPowerOff`, `regionPowerOn`, `regionDrained`, `drainTimeout`,
`regionOff`, `regionOn`, `autoPowerOff`. -/
theorem witness_RegionsPowerOffAndOn :
    (s0.pkg.unwatched = true ∧ 0 / 64 < s0.pkg.part.model.dies ∧ s0.pkg.pdState 0 = 0 ∧ ¬(s0.pkg.regionOwner 0 ≠ none ∨
      s0.pkg.relocTarget 0 = true)) ∧
    (s24.pkg.unwatched = true ∧ 0 / 64 < s24.pkg.part.model.dies ∧ s24.pkg.pdState 0 = 3 ∧ ¬(s24.pkg.regionOwner 0 ≠ none ∨
      s24.pkg.relocTarget 0 = true)) ∧
    (s3.pkg.unwatched = true ∧ 0 / 64 < s3.pkg.part.model.dies ∧ (s3.pkg.pdState 0 = 0 ∨ s3.pkg.pdState 0 = 3) ∧ (s3.pkg.regionOwner 0 ≠ none ∨
      s3.pkg.relocTarget 0 = true)) ∧
    (s24.pkg.unwatched = true ∧ 0 / 64 < s24.pkg.part.model.dies ∧ s24.pkg.pdState 0 = 3) ∧
    (s0.pkg.unwatched = true ∧ 0 / 64 < s0.pkg.part.model.dies ∧ s0.pkg.pdState 0 = 0) ∧
    (s8.pkg.unwatched = true ∧ 0 / 64 < s8.pkg.part.model.dies ∧ (s8.pkg.pdState 0 = 1 ∨ s8.pkg.pdState 0 = 2 ∨ s8.pkg.pdState 0 = 4)) ∧
    (s8.pkg.unwatched = true ∧ 0 / 64 < s8.pkg.part.model.dies ∧ (s8.pkg.pdState 0 = 1 ∨ s8.pkg.pdState 0 = 2 ∨ s8.pkg.pdState 0 = 4)) ∧
    (s8.pkg.pdState 0 = 1 ∧ s8.pkg.quiet 0 = true) ∧
    ((s0.pkg.pdState 0 ≠ 1 ∨ s0.pkg.quiet 0 = false)) ∧
    (s9.pkg.pdState 0 = 1 ∧ s9.pkg.quiet 0 = false) ∧
    ((s0.pkg.pdState 0 ≠ 1 ∨ s0.pkg.quiet 0 = true)) ∧
    (s16.pkg.pdState 0 = 2) := by
  refine ⟨?_, ?_, ?_, ?_, ?_, ?_, ?_, ?_, ?_, ?_, ?_, ?_⟩ <;> decide +kernel
theorem witness_RegionsPowerOffAndOn_2 :
    (s0.pkg.pdState 0 ≠ 2) ∧
    (s32.pkg.pdState 0 = 4) ∧
    (s0.pkg.pdState 0 ≠ 4) ∧
    (s0.pkg.g .SVC_PD_AUTO (0 / 64) ≠ 0 ∧ s0.pkg.pdState 0 = 0 ∧ ¬(s0.pkg.regionOwner 0 ≠ none ∨ s0.pkg.relocTarget 0 = true) ∧
      s0.pkg.mpActs (0 / 64) = true) ∧
    ((s1.pkg.g .SVC_PD_AUTO (0 / 64) = 0 ∨ s1.pkg.pdState 0 ≠ 0 ∨ (s1.pkg.regionOwner 0 ≠ none ∨ s1.pkg.relocTarget 0 = true) ∨
      s1.pkg.mpActs (0 / 64) = false)) := by
  refine ⟨?_, ?_, ?_, ?_, ?_⟩ <;> decide +kernel
end RegionsPowerOffAndOn

end RingsAndPower

namespace Time

def z : Pkg := {}
def ti (l : List (Fld × Nat × Nat)) (f : TimeUnit → TimeUnit :=
  id) : Pkg := { z.ps ([(.MBX_MP_STAT_STATE, 0, 2)] ++ l) with tim := f { ns := 5000000000 } }
def fr (l : List (Nat × Nat)) : List Host.Cell := l.foldl (fun m e => writeByte m e.1 (BitVec.ofNat 8 e.2)) []
def sync := fr [(12, 0x88), (13, 0xF7), (14, 0), (30, 5), (59, 1)]
def pdr := fr [(12, 0x88), (13, 0xF7), (14, 3), (30, 5)]
def udp := fr [(12, 8), (14, 0x45), (23, 17), (36, 1), (37, 63), (40, 3), (41, 7), (42, 0)]
def pw : PendW := { fld := .TIM_RATE, idx := 0, val := 77, wait := 0 }
def lau (d : Int) (w2 w3 w45 : Nat) (c : Option (Nat × Nat) :=
  none) : Launch := { num := 0, id := 4, t := (5000000000 + d).toNat, w2 := w2, w3 := w3, w45 := w45, cmd := c }
def N : List Pkg := [z, ti [], ti [(.TIM_STAT_VALID, 0, 1)], {ti [(.TIM_STAT_VALID, 0, 1)] (fun t => {t with slew := 5}) with pendw := [pw]},
  ti [(.TIM_STAT_VALID, 0, 1), (.TIM_SLEW_MAX, 0, 500000)] (fun t => {t with slew := -5, frac := 2^31}), ti [(.TIM_CTRL, 0, 1),
  (.TIM_STAT_STATE, 0, 1), (.TIM_STAT_VALID, 0, 1), (.TIM_LOCK_THR, 0, 10),
  (.TIM_STEP_THR, 0, 1000)] (fun t => {t with run := 15, hist := [(8000000000, 5)]}), ti [(.TIM_CTRL, 0, 1), (.TIM_STAT_STATE, 0, 2),
  (.TIM_STAT_VALID, 0, 1), (.TIM_LOCK_THR, 0, 2)] (fun t => {t with run := 3, hist := [(4000000000, 5), (4000000000, 2)]}), ti [(.TIM_CTRL, 0, 1),
  (.TIM_STAT_STATE, 0, 2), (.TIM_LOCK_THR, 0, 2)] (fun t => {t with run := 3, hist := [(5, 5)], lq := [lau 1 0 60 0]}), ti [(.TIM_CTRL, 0, 1),
  (.TIM_STAT_STATE, 0, 3), (.TIM_PTP_CFG_PORT, 0, 1), (.TIM_PTP_CFG_TRANSPORT, 0, 1), (.TIM_ETH_TXLAT_PS, 1, 7), (.TIM_ETH_TXLAT_RXLAT, 1, 7)],
  ti [(.TIM_CTRL, 0, 1), (.TIM_PTP_CFG_SLAVE_ONLY, 0, 1)]]
def push (d : Int) (w2 w3 w45 : Nat) (l : List (Fld × Nat × Nat)) (f : TimeUnit → TimeUnit :=
  id) : Pkg := ti ([(.TIM_LQ_W, 0, (5000000000 + d).toNat % 2^32), (.TIM_LQ_W, 1, (5000000000 + d).toNat / 2^32), (.TIM_LQ_W, 2, w2),
  (.TIM_LQ_W, 3, w3), (.TIM_LQ_W, 4, w45)] ++ l) f
def fire (x : Launch) (b : List Host.Cell) (f : Pkg → Pkg := id) : Pkg := f (ti [(.TIM_STAT_VALID, 0, 1),
  (.TIM_LQ_LEVEL, 0, 1)] (fun t => {t with lq := [x], buf := b}))
def own (n : Nat) (c : Bool) (s : Pkg) : Pkg :=
  { s.ps [(.MBX_MP_STAT_STATE, 0, 2), (.ARY_RUN_STAT_STATE, 0, n), (.ARY_CFG_INFO_DEPTH, 0, 80), (.ARY_VMAP_REG_VALID, 0, 1), (.ARY_VMAP_USE, 0, 1)] with fab.regOwn := [(0, 1)], insts := [(0, {desc := {dies := [0], flowCount := 1, cascade := c}})] }
def X : List Launch := [lau 1 0 60 0, lau (-1) 0 60 0, lau (-500) 8 60 0, lau (-5000) 0 60 0, lau 0 1 0x10 0, lau 0 1 0x2013 99, lau 2000 0 60 0,
  lau 0 0x10 60 0]
def L : List Pkg := [z, push 5 0 60 0 [], push 5 0 50 0 [], push 5 1 0x10 0 [],
  push 5 0 60 0 [] (fun t => {t with lq := (List.range 64).map fun n => {lau 9 0 60 0 with num := n, id := n}}),
  {push 5 1 0x10 0 [] with part.masterSel := false}, push (-5000) 4 60 0 [(.TIM_STAT_VALID,0,1)], push (-5000) 0 60 0 [(.TIM_STAT_VALID,0,1)],
  push (-5000) 0 60 0 [], push (-5000) 1 0x10 0 [(.TIM_STAT_VALID,0,1)], push 5 0 60 0 [] (fun t => {t with num := 7, lq := [lau 1 0 60 0]}),
  ti [] (fun t => {t with lq := [lau (-1) 0 60 0]})] ++ X.flatMap fun x => [fire x [], fire x sync, fire x pdr, fire x udp, fire x [] (own 2 false),
  fire x [] (own 3 true), fire x [] (own 1 true)]

namespace NetworkTimeActs
def sList : List State := N.map st
def ef0 : EthFrame := {port := 0, kind := 0, qualified := true}
def ef3 : EthFrame := {port := 0, kind := 3}
def s0 : State := sList.getD 0 {}
def s2 : State := sList.getD 2 {}
def s5 : State := sList.getD 5 {}
/-- The hypotheses of `Obligations.NetworkTimeActs` are met, clause by clause: `ntMicrosecond`, `ptpFrameReceive`, `ptpFrameTransmit`, `servoOffset`,
`masterLost`, `timeAdjust`. -/
theorem witness_NetworkTimeActs :
    ((∀ w ∈ s0.pkg.pendw, w.fld = .TIM_RATE → w.idx = 0 ∧ w.wait = 0)) ∧
    (ef3.port < 2 ∧ ¬(ef3.kind ≤ 2 ∧ ef3.port = s0.pkg.g .TIM_PTP_CFG_PORT 0 ∧ ef3.transport = s0.pkg.g .TIM_PTP_CFG_TRANSPORT 0 ∧
      ef3.domain = s0.pkg.g .TIM_PTP_CFG_DOMAIN 0)) ∧
    (ef0.port < 2 ∧ ef0.kind ≤ 2 ∧ ef0.port = s0.pkg.g .TIM_PTP_CFG_PORT 0 ∧ ef0.transport = s0.pkg.g .TIM_PTP_CFG_TRANSPORT 0 ∧
      ef0.domain = s0.pkg.g .TIM_PTP_CFG_DOMAIN 0) ∧
    (s5.pkg.g .TIM_CTRL 0 = 1 ∧ s5.pkg.mpActs 0 = true ∧ ¬(1 = 0 ∧ s5.pkg.g .TIM_PTP_CFG_SLAVE_ONLY 0 ≠ 0)) ∧
    (¬(s0.pkg.g .TIM_CTRL 0 = 1 ∧ s0.pkg.mpActs 0 = true ∧ ¬(0 = 0 ∧ s0.pkg.g .TIM_PTP_CFG_SLAVE_ONLY 0 ≠ 0))) ∧
    (¬((s0.pkg.g .TIM_CTRL 0 = 1 ∧ (s0.pkg.g .TIM_STAT_STATE 0 = 1 ∨ s0.pkg.g .TIM_STAT_STATE 0 = 2)) ∧ s0.pkg.mpActs 0 = true)) ∧
    (s5.pkg.g .TIM_CTRL 0 = 1 ∧ (s5.pkg.g .TIM_STAT_STATE 0 = 1 ∨ s5.pkg.g .TIM_STAT_STATE 0 = 2) ∧ s5.pkg.mpActs 0 = true ∧
      (s5.pkg.g .TIM_STAT_VALID 0 = 0 ∨ clampTo 1000 1000000000 (s5.pkg.g .TIM_STEP_THR 0) ≤ Int.natAbs 5000) ∧
      (∀ x ∈ s5.pkg.tim.lq, ¬(s5.pkg.hasCome x.t = false ∧
      { s5.pkg with tim := { s5.pkg.tim with ns := (((s5.pkg.tim.ns : Int) + -5000) % (ntSpan : Int)).toNat } }.overdue x.t = true))) ∧
    (s5.pkg.g .TIM_CTRL 0 = 1 ∧ (s5.pkg.g .TIM_STAT_STATE 0 = 1 ∨ s5.pkg.g .TIM_STAT_STATE 0 = 2) ∧ s5.pkg.mpActs 0 = true ∧
      ¬(s5.pkg.g .TIM_STAT_VALID 0 = 0 ∨ clampTo 1000 1000000000 (s5.pkg.g .TIM_STEP_THR 0) ≤ Int.natAbs 0)) ∧
    ((¬(s0.pkg.g .TIM_CTRL 0 = 1 ∧ (s0.pkg.g .TIM_STAT_STATE 0 = 1 ∨ s0.pkg.g .TIM_STAT_STATE 0 = 2)) ∨ s0.pkg.mpActs 0 = false)) ∧
    (s5.pkg.g .TIM_CTRL 0 = 1 ∧ (s5.pkg.g .TIM_STAT_STATE 0 = 1 ∨ s5.pkg.g .TIM_STAT_STATE 0 = 2) ∧ s5.pkg.mpActs 0 = true) ∧
    (s5.pkg.unwatched = true ∧ s5.pkg.g .TIM_CTRL 0 = 1) ∧
    (s0.pkg.unwatched = true ∧ s0.pkg.g .TIM_CTRL 0 ≠ 1 ∧ (s0.pkg.g .TIM_STAT_VALID 0 = 0 ∨
      clampTo 1000 1000000000 (s0.pkg.g .TIM_STEP_THR 0) ≤ (sgn 64 0).natAbs) ∧ (∀ x ∈ s0.pkg.tim.lq, ¬(s0.pkg.hasCome x.t = false ∧
      { s0.pkg with tim := { s0.pkg.tim with ns := (((s0.pkg.tim.ns : Int) + sgn 64 0) % (ntSpan : Int)).toNat } }.overdue x.t = true))) := by
  refine ⟨?_, ?_, ?_, ?_, ?_, ?_, ?_, ?_, ?_, ?_, ?_, ?_⟩ <;> decide +kernel
theorem witness_NetworkTimeActs_2 :
    (s2.pkg.unwatched = true ∧ s2.pkg.g .TIM_CTRL 0 ≠ 1 ∧ ¬(s2.pkg.g .TIM_STAT_VALID 0 = 0 ∨
      clampTo 1000 1000000000 (s2.pkg.g .TIM_STEP_THR 0) ≤ (sgn 64 0).natAbs)) := by decide +kernel
end NetworkTimeActs

namespace LaunchQueueActs
def sList : List State := L.map st
def lList : List Launch := X
def l0 : Launch := lList[0]'(by decide +kernel)
def l4 : Launch := lList[4]'(by decide +kernel)
def l5 : Launch := lList[5]'(by decide +kernel)
def s0 : State := sList.getD 0 {}
def s1 : State := sList.getD 1 {}
def s4 : State := sList.getD 4 {}
def s5 : State := sList.getD 5 {}
def s6 : State := sList.getD 6 {}
def s7 : State := sList.getD 7 {}
def s8 : State := sList.getD 8 {}
def s10 : State := sList.getD 10 {}
def s12 : State := sList.getD 12 {}
def s44 : State := sList.getD 44 {}
def s52 : State := sList.getD 52 {}
/-- The hypotheses of `Obligations.LaunchQueueActs` are met, clause by clause: `launchPush`, `launchCancel`, `launchFire`. -/
theorem witness_LaunchQueueActs :
    (s4.pkg.unwatched = true ∧ 64 ≤ s4.pkg.tim.lq.length) ∧
    (s0.pkg.unwatched = true ∧ s0.pkg.tim.lq.length < 64 ∧
      lqBad (s0.pkg.g .TIM_LQ_W 2) (s0.pkg.g .TIM_LQ_W 3) (s0.pkg.g .TIM_LQ_W 4 + 2 ^ 32 * s0.pkg.g .TIM_LQ_W 5) = true) ∧
    (s5.pkg.unwatched = true ∧ s5.pkg.tim.lq.length < 64 ∧
      lqBad (s5.pkg.g .TIM_LQ_W 2) (s5.pkg.g .TIM_LQ_W 3) (s5.pkg.g .TIM_LQ_W 4 + 2 ^ 32 * s5.pkg.g .TIM_LQ_W 5) = false ∧
      s5.pkg.g .TIM_LQ_W 2 % 4 = 1 ∧ s5.pkg.isMaster = false) ∧
    (s1.pkg.unwatched = true ∧ s1.pkg.tim.lq.length < 64 ∧
      lqBad (s1.pkg.g .TIM_LQ_W 2) (s1.pkg.g .TIM_LQ_W 3) (s1.pkg.g .TIM_LQ_W 4 + 2 ^ 32 * s1.pkg.g .TIM_LQ_W 5) = false ∧
      (s1.pkg.g .TIM_LQ_W 2 % 4 = 1 → s1.pkg.isMaster = true) ∧ (∀ y ∈ s1.pkg.tim.lq, y.num ≠ s1.pkg.tim.num) ∧
      s1.pkg.overdue (s1.pkg.g .TIM_LQ_W 0 + 2 ^ 32 * s1.pkg.g .TIM_LQ_W 1) = false) ∧
    (s6.pkg.unwatched = true ∧ s6.pkg.tim.lq.length < 64 ∧
      lqBad (s6.pkg.g .TIM_LQ_W 2) (s6.pkg.g .TIM_LQ_W 3) (s6.pkg.g .TIM_LQ_W 4 + 2 ^ 32 * s6.pkg.g .TIM_LQ_W 5) = false ∧
      (s6.pkg.g .TIM_LQ_W 2 % 4 = 1 → s6.pkg.isMaster = true) ∧ (∀ y ∈ s6.pkg.tim.lq, y.num ≠ s6.pkg.tim.num) ∧
      s6.pkg.overdue (s6.pkg.g .TIM_LQ_W 0 + 2 ^ 32 * s6.pkg.g .TIM_LQ_W 1) = true ∧ s6.pkg.g .TIM_LQ_W 2 / 4 % 2 = 1) ∧
    (s7.pkg.unwatched = true ∧ s7.pkg.tim.lq.length < 64 ∧
      lqBad (s7.pkg.g .TIM_LQ_W 2) (s7.pkg.g .TIM_LQ_W 3) (s7.pkg.g .TIM_LQ_W 4 + 2 ^ 32 * s7.pkg.g .TIM_LQ_W 5) = false ∧
      (s7.pkg.g .TIM_LQ_W 2 % 4 = 1 → s7.pkg.isMaster = true) ∧ (∀ y ∈ s7.pkg.tim.lq, y.num ≠ s7.pkg.tim.num) ∧
      s7.pkg.overdue (s7.pkg.g .TIM_LQ_W 0 + 2 ^ 32 * s7.pkg.g .TIM_LQ_W 1) = true ∧ s7.pkg.g .TIM_LQ_W 2 / 4 % 2 = 0 ∧
      s7.pkg.g .TIM_STAT_VALID 0 ≠ 0 ∧ s7.pkg.g .TIM_LQ_W 2 % 4 = 0) ∧
    (s8.pkg.unwatched = true ∧ s8.pkg.tim.lq.length < 64 ∧
      lqBad (s8.pkg.g .TIM_LQ_W 2) (s8.pkg.g .TIM_LQ_W 3) (s8.pkg.g .TIM_LQ_W 4 + 2 ^ 32 * s8.pkg.g .TIM_LQ_W 5) = false ∧
      (s8.pkg.g .TIM_LQ_W 2 % 4 = 1 → s8.pkg.isMaster = true) ∧ (∀ y ∈ s8.pkg.tim.lq, y.num ≠ s8.pkg.tim.num) ∧
      s8.pkg.overdue (s8.pkg.g .TIM_LQ_W 0 + 2 ^ 32 * s8.pkg.g .TIM_LQ_W 1) = true ∧ s8.pkg.g .TIM_LQ_W 2 / 4 % 2 = 0 ∧
      s8.pkg.g .TIM_STAT_VALID 0 = 0) ∧
    (s10.pkg.unwatched = true ∧ List.find? (fun (y : Launch) => y.id == 4) s10.pkg.tim.lq = some l0 ∧ l0.cmd = none) ∧
    (s0.pkg.unwatched = true ∧ (∀ y ∈ s0.pkg.tim.lq, y.id ≠ 4)) ∧
    (((∀ y ∈ (s0.pkg.ntPass 0).tim.lq, (s0.pkg.ntPass 0).hasCome y.t = false) ∨ (s0.pkg.ntPass 0).g .TIM_STAT_VALID 0 = 0)) ∧
    (l0 ∈ (s12.pkg.ntPass 1).tim.lq ∧ (s12.pkg.ntPass 1).hasCome l0.t = true ∧
      (∀ y ∈ (s12.pkg.ntPass 1).tim.lq, y ≠ l0 → (s12.pkg.ntPass 1).hasCome y.t = true → (s12.pkg.ntPass 1).past y.t < (s12.pkg.ntPass 1).past l0.t) ∧
      (s12.pkg.ntPass 1).g .TIM_STAT_VALID 0 ≠ 0 ∧ l0.ctl = false) ∧
    (l4 ∈ (s44.pkg.ntPass 0).tim.lq ∧ (s44.pkg.ntPass 0).hasCome l4.t = true ∧
      (∀ y ∈ (s44.pkg.ntPass 0).tim.lq, y ≠ l4 → (s44.pkg.ntPass 0).hasCome y.t = true → (s44.pkg.ntPass 0).past y.t < (s44.pkg.ntPass 0).past l4.t) ∧
      (s44.pkg.ntPass 0).g .TIM_STAT_VALID 0 ≠ 0 ∧ l4.ctl = true ∧ l4.w3 % 256 = 16 ∧ bit l4.w3 12 = false ∧ l4.cmd = none ∧
      ((s44.pkg.ntPass 0).inst l4.inst).desc.cascade = false ∧ (s44.pkg.ntPass 0).runState l4.inst = .loaded ∧
      (s44.pkg.ntPass 0).resetting l4.inst = false ∧ (s44.pkg.ntPass 0).relocating l4.inst = false ∧ (s44.pkg.ntPass 0).patching l4.inst = false ∧
      (s44.pkg.ntPass 0).g .TRN_INST_STAT_BAD l4.inst = 0) := by
  refine ⟨?_, ?_, ?_, ?_, ?_, ?_, ?_, ?_, ?_, ?_, ?_, ?_⟩ <;> decide +kernel
theorem witness_LaunchQueueActs_2 :
    (l5 ∈ (s52.pkg.ntPass 0).tim.lq ∧ (s52.pkg.ntPass 0).hasCome l5.t = true ∧
      (∀ y ∈ (s52.pkg.ntPass 0).tim.lq, y ≠ l5 → (s52.pkg.ntPass 0).hasCome y.t = true → (s52.pkg.ntPass 0).past y.t < (s52.pkg.ntPass 0).past l5.t) ∧
      (s52.pkg.ntPass 0).g .TIM_STAT_VALID 0 ≠ 0 ∧ l5.ctl = true ∧ l5.w3 % 256 = 19 ∧ ((s52.pkg.ntPass 0).inst l5.inst).desc.cascade = true ∧
      (s52.pkg.ntPass 0).downPorts = [] ∧ (s52.pkg.ntPass 0).g .ARY_MCC l5.inst < l5.w45) := by decide +kernel
end LaunchQueueActs

end Time

namespace Debugging

def z : Pkg := {}
def own (n : Nat) (c : Bool) (s : Pkg) (l : List (Fld × Nat × Nat) :=
  []) : Pkg := { s.ps ([(.MBX_MP_STAT_STATE, 0, 2), (.ARY_RUN_STAT_STATE, 0, n), (.ARY_CFG_INFO_DEPTH, 0, 80), (.ARY_VMAP_REG_VALID, 0, 1), (.ARY_VMAP_USE, 0, 1)] ++ l) with fab.regOwn := [(0, 1)], insts := [(0, {desc := {dies := [0], flowCount := 1, cascade := c}, begun := true})] }
def h (l : List (Fld × Nat × Nat)) : Pkg := z.ps l
def A (go by_ sk wr iv : Nat) : BitVec 80 := BitVec.ofNat 80 (5 + 64 * 2^32 + wr * 2^72 + 3 * 2^73 + iv * 2^77 + go * 2^78 + by_ * 2^79 + sk * 2^40)

namespace DebugPortScans
def sList : List State := [z, h [(.DBG_PORT_CTL, 0, 0)], { z with dbg.busy := some (1, 5, true) },
  { z with dbg.data := 77, dbg.addr := 99, dbg.status := 2, dbg.cause := 3 }, { h [(.DBG_PORT_STAT_OVERRUN, 0, 1)] with part.model := .gl2 },
  { z with part.model := .gl4 }].map st
def nList : List Nat := List.range 5
def n0 : Nat := nList.getD 0 0
def s0 : State := sList.getD 0 {}
def s1 : State := sList.getD 1 {}
def s2 : State := sList.getD 2 {}
/-- The hypotheses of `Obligations.DebugPortScans` are met, clause by clause: `dbgAccess`. -/
theorem witness_DebugPortScans :
    (bit (A 1 1 0 1 1).toNat 79 = true) ∧
    (bit (A 0 0 0 0 0).toNat 79 = false ∧ s1.pkg.g .DBG_PORT_CTL 0 = 0) ∧
    (bit (A 0 0 0 0 0).toNat 79 = false ∧ s0.pkg.g .DBG_PORT_CTL 0 ≠ 0 ∧ bit (A 0 0 0 0 0).toNat 78 = false) ∧
    (bit (A 1 0 0 0 0).toNat 79 = false ∧ s2.pkg.g .DBG_PORT_CTL 0 ≠ 0 ∧ bit (A 1 0 0 0 0).toNat 78 = true ∧ s2.pkg.dbg.busy ≠ none) ∧
    (bit (A 1 0 0 0 0).toNat 79 = false ∧ s0.pkg.g .DBG_PORT_CTL 0 ≠ 0 ∧ bit (A 1 0 0 0 0).toNat 78 = true ∧ s0.pkg.dbg.busy = none ∧
      s0.pkg.freeTag 56 = some n0) := by
  refine ⟨?_, ?_, ?_, ?_, ?_⟩ <;> decide +kernel
end DebugPortScans

def ra : Nat := match specOf .TIM .TIM_CTRL with | some r => r.addr 0 | none => 0
def H : List Pkg := ([[], [(.DBG_MP_STAT_HALTED, 0, 1)], [(.DBG_MP_STAT_HALTED, 0, 1), (.DBG_MP_STAT_FEED_BUSY, 0, 1)],
  [(.DBG_MP_STAT_HALTED, 0, 1), (.DBG_MP_REG_SEL, 0, 5)],
  [(.DBG_MP_STAT_HALTED, 0, 1), (.DBG_MP_REG_SEL, 0, 34), (.DBG_MP_CTX_VALID, 0, 1), (.DBG_MP_CTX_INST, 0, 2)],
  [(.DBG_XT_SRC_MP_HALT, 1, 1), (.DBG_XT_SINK_HALT_MP, 5, 1)],
  [(.DBG_XT_SRC_MP_HALT, 1, 1), (.DBG_XT_SINK_HALT_MP, 1, 1), (.DBG_MP_STAT_HALTED, 0, 1)], [(.MBX_MP_STAT_STATE, 0, 2)],
  [(.MBX_MP_STAT_STATE, 0, 2), (.DBG_XT_SRC_MP_HALT, 3, 1)], [(.MBX_MP_STAT_STATE, 0, 3)],
  [(.MBX_MP_STAT_STATE, 0, 1), (.DBG_MP_STAT_HALTED, 0, 1), (.ADC_BOOT_STAT_PHASE, 0, 4)]].map h) ++ [{h [(.MBX_MP_STAT_STATE, 0, 1), (.DBG_MP_STAT_HALTED, 0, 1), (.ADC_BOOT_STAT_PHASE, 0, 4)] with boot.env := some {}}] ++ ([[],
  [(.DBG_WP_CTL_HALT_MP, 1, 1), (.DBG_WP_CTL_XT, 1, 2)], [(.DBG_WP_STAT_FIRST_VALID, 0, 1)],
  [(.DBG_MP_STAT_HALTED, 0, 1)]].map fun l => h ([(.DBG_WP_CTL_EN, 1, 1), (.DBG_WP_CTL_SRC, 1, 1), (.DBG_WP_CTL_RD, 1, 1), (.DBG_WP_CTL_WR, 1, 1), (.DBG_WP_LO, 1, 64), (.DBG_WP_HI, 1, 70)] ++ l))

namespace ProcessorsHaltAndRun
def sList : List State := H.map st
def fo0 : FeedOut := .load 3 ra 4 true
def fo1 : FeedOut := .err
def fo2 : FeedOut := .regs [(3, 9)]
def fo3 : FeedOut := .regs [(32, 9)]
def fo4 : FeedOut := .store 64 [5]
def fo5 : FeedOut := .load 3 64 4 true
def l0 : List Nat := [5]
def lbv0 : List (BitVec 32) := []
def s0 : State := sList.getD 0 {}
def s1 : State := sList.getD 1 {}
def s4 : State := sList.getD 4 {}
def s7 : State := sList.getD 7 {}
def s11 : State := sList.getD 11 {}
def s12 : State := sList.getD 12 {}
/-- The hypotheses of `Obligations.ProcessorsHaltAndRun` are met, clause by clause: `mpHalt`, `mpResume`, `mpStep`, `mpBreakpoint`, `mpWatchpointMatch`,
`mpRegWrite`, `mpFeed`. -/
theorem witness_ProcessorsHaltAndRun :
    (s0.pkg.unwatched = true ∧ 0 < s0.pkg.part.model.dies ∧ ¬s0.pkg.g .DBG_MP_STAT_HALTED 0 ≠ 0) ∧
    (s1.pkg.unwatched = true ∧ 0 < s1.pkg.part.model.dies ∧ s1.pkg.g .DBG_MP_STAT_HALTED 0 ≠ 0) ∧
    (s1.pkg.unwatched = true ∧ 0 < s1.pkg.part.model.dies ∧ s1.pkg.g .DBG_MP_STAT_HALTED 0 ≠ 0 ∧ s1.pkg.boot.env = none) ∧
    (s11.pkg.unwatched = true ∧ 0 < s11.pkg.part.model.dies ∧ s11.pkg.g .DBG_MP_STAT_HALTED 0 ≠ 0 ∧ s11.pkg.g .ADC_BOOT_STAT_PHASE 0 = 4 ∧
      s11.pkg.boot.env ≠ none ∧ (∀ e < 8, e ≠ 0 → s11.pkg.g .DBG_MP_STAT_HALTED e = 0)) ∧
    (s0.pkg.unwatched = true ∧ 0 < s0.pkg.part.model.dies ∧ ¬s0.pkg.g .DBG_MP_STAT_HALTED 0 ≠ 0) ∧
    (s0.pkg.unwatched = true ∧ 0 < s0.pkg.part.model.dies ∧ ¬s0.pkg.g .DBG_MP_STAT_HALTED 0 ≠ 0) ∧
    (s1.pkg.unwatched = true ∧ 0 < s1.pkg.part.model.dies ∧ s1.pkg.g .DBG_MP_STAT_HALTED 0 ≠ 0) ∧
    ((s7.pkg.g .MBX_MP_STAT_STATE 0 = 1 ∨ s7.pkg.g .MBX_MP_STAT_STATE 0 = 2) ∧ ¬s7.pkg.g .DBG_MP_STAT_HALTED 0 ≠ 0) ∧
    ((¬(s0.pkg.g .MBX_MP_STAT_STATE 0 = 1 ∨ s0.pkg.g .MBX_MP_STAT_STATE 0 = 2) ∨ s0.pkg.g .DBG_MP_STAT_HALTED 0 ≠ 0)) ∧
    ((s0.pkg.g .DBG_MP_STAT_HALTED 0 ≠ 0 ∨
      ∀ k < 8, s0.pkg.wpMatch 0 k { src := if false = true then 0 else 1, write := false && !false, addr := 0, n := 4, inst := if s0.pkg.g .DBG_MP_CTX_VALID 0 = 0 then none else some (s0.pkg.g .DBG_MP_CTX_INST 0), init := 0, data := List.map BitVec.toNat lbv0 } = false)) ∧
    (1 < 8 ∧ ¬s12.pkg.g .DBG_MP_STAT_HALTED 0 ≠ 0 ∧
      s12.pkg.wpMatch 0 1 { src := if false = true then 0 else 1, write := false && !false, addr := 64, n := 4, inst := if s12.pkg.g .DBG_MP_CTX_VALID 0 = 0 then none else some (s12.pkg.g .DBG_MP_CTX_INST 0), init := 0, data := List.map BitVec.toNat lbv0 } = true) ∧
    (s0.pkg.unwatched = true ∧ 0 < s0.pkg.part.model.dies ∧ (s0.pkg.g .DBG_MP_STAT_HALTED 0 = 0 ∨ s0.pkg.g .DBG_MP_STAT_FEED_BUSY 0 ≠ 0 ∨
      isMp 0 = true)) := by
  refine ⟨?_, ?_, ?_, ?_, ?_, ?_, ?_, ?_, ?_, ?_, ?_, ?_⟩ <;> decide +kernel
theorem witness_ProcessorsHaltAndRun_2 :
    (s1.pkg.unwatched = true ∧ 0 < s1.pkg.part.model.dies ∧ ¬(s1.pkg.g .DBG_MP_STAT_HALTED 0 = 0 ∨ s1.pkg.g .DBG_MP_STAT_FEED_BUSY 0 ≠ 0 ∨
      isMp 56 = true) ∧ s1.pkg.g .DBG_MP_REG_SEL 0 < 34) ∧
    (s4.pkg.unwatched = true ∧ 0 < s4.pkg.part.model.dies ∧ ¬(s4.pkg.g .DBG_MP_STAT_HALTED 0 = 0 ∨ s4.pkg.g .DBG_MP_STAT_FEED_BUSY 0 ≠ 0 ∨
      isMp 56 = true) ∧ 34 ≤ s4.pkg.g .DBG_MP_REG_SEL 0) ∧
    (s0.pkg.unwatched = true ∧ 0 < s0.pkg.part.model.dies ∧ (s0.pkg.g .DBG_MP_STAT_HALTED 0 = 0 ∨ s0.pkg.g .DBG_MP_STAT_FEED_BUSY 0 ≠ 0 ∨
      isMp 0 = true)) ∧
    (s1.pkg.unwatched = true ∧ 0 < s1.pkg.part.model.dies ∧ ¬(s1.pkg.g .DBG_MP_STAT_HALTED 0 = 0 ∨ s1.pkg.g .DBG_MP_STAT_FEED_BUSY 0 ≠ 0 ∨
      isMp 56 = true) ∧ fo1 = FeedOut.err) ∧
    (s1.pkg.unwatched = true ∧ 0 < s1.pkg.part.model.dies ∧ ¬(s1.pkg.g .DBG_MP_STAT_HALTED 0 = 0 ∨ s1.pkg.g .DBG_MP_STAT_FEED_BUSY 0 ≠ 0 ∨
      isMp 56 = true) ∧ 3 < 34 ∧ fo2 = FeedOut.regs [(3, 9)] ∧ 3 ≠ 32) ∧
    (s1.pkg.unwatched = true ∧ 0 < s1.pkg.part.model.dies ∧ ¬(s1.pkg.g .DBG_MP_STAT_HALTED 0 = 0 ∨ s1.pkg.g .DBG_MP_STAT_FEED_BUSY 0 ≠ 0 ∨
      isMp 56 = true) ∧ 32 < 34 ∧ fo3 = FeedOut.regs [(32, 9)] ∧ 32 = 32) ∧
    (s1.pkg.unwatched = true ∧ 0 < s1.pkg.part.model.dies ∧ ¬(s1.pkg.g .DBG_MP_STAT_HALTED 0 = 0 ∨ s1.pkg.g .DBG_MP_STAT_FEED_BUSY 0 ≠ 0 ∨
      isMp 56 = true) ∧ fo4 = FeedOut.store 64 l0) ∧
    (s1.pkg.unwatched = true ∧ 0 < s1.pkg.part.model.dies ∧ ¬(s1.pkg.g .DBG_MP_STAT_HALTED 0 = 0 ∨ s1.pkg.g .DBG_MP_STAT_FEED_BUSY 0 ≠ 0 ∨
      isMp 56 = true) ∧ fo5 = FeedOut.load 3 64 4 true ∧
      (s1.pkg.access s1.fuses { write := false, init := 0, inst := if s1.pkg.g .DBG_MP_CTX_VALID 0 = 0 then none else some (s1.pkg.g .DBG_MP_CTX_INST 0), addr := 64 }).1.err ≠ 0) ∧
    (s1.pkg.unwatched = true ∧ 0 < s1.pkg.part.model.dies ∧ ¬(s1.pkg.g .DBG_MP_STAT_HALTED 0 = 0 ∨ s1.pkg.g .DBG_MP_STAT_FEED_BUSY 0 ≠ 0 ∨
      isMp 56 = true) ∧ fo0 = FeedOut.load 3 ra 4 true ∧
      (s1.pkg.access s1.fuses { write := false, init := 0, inst := if s1.pkg.g .DBG_MP_CTX_VALID 0 = 0 then none else some (s1.pkg.g .DBG_MP_CTX_INST 0), addr := ra }).1.err = 0 ∧
      3 < 34 ∧ 3 ≠ 32) := by
  refine ⟨?_, ?_, ?_, ?_, ?_, ?_, ?_, ?_, ?_⟩ <;> decide +kernel
end ProcessorsHaltAndRun

def X : List (List (Fld × Nat × Nat)) := [[], [(.DBG_XT_SINK_INST, 1, 1), (.DBG_XT_SINK_XTRIG_OUT, 1, 1), (.DBG_XT_SRC_XTRIG_IN, 1, 1)],
  [(.DBG_XT_SRC_MP_HALT, 3, 1), (.DBG_XT_SINK_HALT_MP, 1, 1), (.DBG_XT_SRC_XTRIG_IN, 1, 1)],  [(.DBG_XT_SINK_HALT_MP, 1, 1)],
  [(.DBG_XT_SINK_INST, 1, 1), (.DBG_XT_SINK_XTRIG_OUT, 1, 1), (.DBG_XT_STAT, 0, 8)], [(.DBG_XT_SRC_MP_HALT, 3, 1), (.DBG_XT_SINK_HALT_MP, 1, 1)],
  [(.DBG_XT_SINK_HALT_MP, 1, 1), (.DBG_MP_STAT_HALTED, 0, 1), (.DBG_XT_SRC_XTRIG_IN, 1, 1)], [(.DBG_INST_STAT_HOLD, 0, 1), (.DBG_INST_STEPN, 0, 4)],
  [(.TRN_INST_STAT_BAD, 0, 1)]]

namespace TriggersAndStepsAct
def sList : List State := (X.map h ++ (X.flatMap fun l => [2,3,4,5,6].flatMap fun n => [own n false z l, own n true z l])).map st
def s0 : State := sList.getD 0 {}
def s9 : State := sList.getD 9 {}
def s10 : State := sList.getD 10 {}
def s11 : State := sList.getD 11 {}
def s12 : State := sList.getD 12 {}
def s85 : State := sList.getD 85 {}
/-- The hypotheses of `Obligations.TriggersAndStepsAct` are met, clause by clause: `xtPulse`, `debugFreeze`, `debugRelease`, `debugStep`. -/
theorem witness_TriggersAndStepsAct :
    (s0.pkg.unwatched = true) ∧
    (s11.pkg.unwatched = true ∧ s11.pkg.runs 0 = true ∧ (s11.pkg.inst 0).desc.cascade = false) ∧
    (s12.pkg.unwatched = true ∧ s12.pkg.runs 0 = true ∧ (s12.pkg.inst 0).desc.cascade = true ∧ s12.pkg.isMaster = true ∧ s12.pkg.downPorts = []) ∧
    (s0.pkg.unwatched = true ∧ s0.pkg.runs 0 = false) ∧
    (s0.pkg.unwatched = true) ∧
    (s0.pkg.unwatched = true ∧ ¬(((s0.pkg.inst 0).desc.cascade = false ∨ s0.pkg.isMaster = true) ∧
      (s0.pkg.resetting 0 || s0.pkg.relocating 0 || s0.pkg.patching 0) = false ∧ (s0.pkg.runState 0 = .loaded ∨ s0.pkg.atBoundary 0 = true ∧
      (s0.pkg.runState 0 = .frozen ∧ s0.pkg.g .DBG_INST_STAT_HOLD 0 ≠ 0 ∨ s0.pkg.runState 0 = .paused ∨ s0.pkg.runState 0 = .frozen ∧
      s0.pkg.causeCleared 0 = true)))) ∧
    (s9.pkg.unwatched = true ∧ (s9.pkg.inst 0).desc.cascade = false ∧ (s9.pkg.resetting 0 || s9.pkg.relocating 0 || s9.pkg.patching 0) = false ∧
      s9.pkg.g .TRN_INST_STAT_BAD 0 = 0 ∧ s9.pkg.runState 0 = .loaded) ∧
    (s85.pkg.unwatched = true ∧ (s85.pkg.inst 0).desc.cascade = false ∧ (s85.pkg.resetting 0 || s85.pkg.relocating 0 || s85.pkg.patching 0) = false ∧
      s85.pkg.g .TRN_INST_STAT_BAD 0 = 0 ∧ s85.pkg.runState 0 = .frozen ∧ s85.pkg.g .ARY_RUN_STAT_MID_CYCLE 0 = 0 ∧
      s85.pkg.g .DBG_INST_STAT_HOLD 0 ≠ 0 ∧ (s85.pkg.inst 0).begun = true ∧ s85.pkg.lacking 0 = []) ∧
    (s10.pkg.unwatched = true ∧ (s10.pkg.inst 0).desc.cascade = true ∧ s10.pkg.isMaster = true ∧
      (s10.pkg.resetting 0 || s10.pkg.relocating 0 || s10.pkg.patching 0) = false ∧ s10.pkg.runState 0 = .loaded ∧ s10.pkg.startReq 0 = none ∧
      s10.pkg.portsOf 0 = [] ∧ s10.pkg.downPorts = [] ∧ s10.pkg.g .CFG_LOAD_STAT_PEER_MISSING 0 = 0) := by
  refine ⟨?_, ?_, ?_, ?_, ?_, ?_, ?_, ?_, ?_⟩ <;> decide +kernel
end TriggersAndStepsAct

end Debugging

namespace Boot

def z : Pkg := {}
def z' : Pkg := { z with boot.env := some {} }
def ar (l : List (Nat × Nat × Nat)) : List Nat :=
  l.foldl (fun b e => (List.range e.2.1).foldl (fun b k => b.set (e.1 + k) (e.2.2 / 256 ^ k % 256)) b) (List.replicate 40 0)
def msg (op inst flags : Nat) (a : List (Nat × Nat × Nat)) : Msg :=
  { seq := 0, op := op, prio := 0, inst := inst, flags := flags, args := ar a, tag := 0, order := 0 }
def cmd (j : Msg) (s : Pkg) : Pkg := { s.p .MBX_MP_STAT_STATE 0 2 with mbx := [(0, { run := [j] })] }
def rails (s : Pkg) : Pkg := s.ps ((List.range 8).map fun d => (.ADC_MON_RAIL_IN, d, 31))
def h (l : List (Fld × Nat × Nat)) : Pkg := z.ps l
def ky : List Msg := [msg 0x60 0 0 ([(0,8,77),(32,4,kcvOf 77)]), msg 0x61 0 0 ([(0,8,77),(32,4,kcvOf 77)]), msg 0x63 0 0 [(0,1,5)]]
def B : List Pkg := [z, {z with boot.env := some {}},
  {h [(.DBG_MP_STAT_HALTED, 0, 1), (.MBX_MP_STAT_STATE, 1, 1), (.ADC_BOOT_STAT_PHASE, 0, 5)] with boot.env := some {}},
  {h [(.MBX_MP_STAT_STATE, 1, 1), (.ADC_BOOT_STAT_PHASE, 0, 5), (.LNK_LANE_STAT_STATE, 17, 3), (.CAV_AVAIL, 64, 65535)] with boot.env := some {}},
  {h [(.MBX_MP_STAT_STATE, 1, 1), (.ADC_BOOT_STAT_PHASE, 0, 5), (.ADC_BOOT_STAT_DIE_FAIL, 0, 2)] with boot.env := some {}, part.model := .gl2}]

namespace BootAndPowerLossAct
def sList : List State := (B.map st) ++ (ky.flatMap fun j => [{pkg := cmd j z'}, {pkg := cmd j (rails z')},
  {pkg := cmd j {rails z' with slotA := {key := 1, kcv := 2, seq := 3, ok := true}}},
  {pkg := cmd j {rails z' with slotB := {key := 1, kcv := 2, seq := 3, ok := true}}},
  {pkg := cmd j (rails z'), fuses := {secure := true, gen := 3}}])
def jList : List Msg := ky
def be0 : BootEnv := {}
def be2 : BootEnv := {refA := false, refB := false}
def j0 : Msg := jList[0]'(by decide +kernel)
def j1 : Msg := jList[1]'(by decide +kernel)
def j2 : Msg := jList[2]'(by decide +kernel)
def s0 : State := sList.getD 0 {}
def s1 : State := sList.getD 1 {}
def s2 : State := sList.getD 2 {}
def s3 : State := sList.getD 3 {}
def s6 : State := sList.getD 6 {}
def s12 : State := sList.getD 12 {}
def s13 : State := sList.getD 13 {}
def s15 : State := sList.getD 15 {}
/-- The hypotheses of `Obligations.BootAndPowerLossAct` are met, clause by clause: `resetRelease`, `dieBootTimeout`, `firmwareReady`, `pcieLinkUp`,
`powerLoss`. -/
theorem witness_BootAndPowerLossAct :
    ((s0.pkg.boot.env ≠ none ∨ be2.refA = false ∧ be2.refB = false)) ∧
    (s0.pkg.boot.env = none ∧ (∀ d < 8, s0.pkg.g .DBG_MP_STAT_HALTED d = 0) ∧ s0.pkg.g .ADC_BOOT_STAT_DIE_FAIL 0 = 0 ∧
      s0.pkg.g .ADC_BOOT_STAT_FAIL 0 = 0 ∧ (be0.refA = true ∨ be0.refB = true)) ∧
    (1 ≠ 0 ∧ 1 < s2.pkg.part.model.dies ∧ s2.pkg.boot.env ≠ none ∧ s2.pkg.dieOk 1 = true ∧ s2.pkg.g .MBX_MP_STAT_STATE 1 = 1 ∧
      s2.pkg.g .DBG_MP_STAT_HALTED 1 = 0 ∧ 4 ≤ s2.pkg.g .ADC_BOOT_STAT_PHASE 0) ∧
    (¬(0 ≠ 0 ∧ 0 < s0.pkg.part.model.dies ∧ s0.pkg.boot.env ≠ none ∧ s0.pkg.dieOk 0 = true ∧ s0.pkg.g .MBX_MP_STAT_STATE 0 = 1 ∧
      s0.pkg.g .DBG_MP_STAT_HALTED 0 = 0 ∧ 4 ≤ s0.pkg.g .ADC_BOOT_STAT_PHASE 0)) ∧
    (s3.pkg.g .ADC_BOOT_STAT_PHASE 0 = 5 ∧ ∀ d < s3.pkg.part.model.dies, s3.pkg.dieOk d = true → s3.pkg.g .DBG_MP_STAT_HALTED d = 0) ∧
    (¬(s0.pkg.g .ADC_BOOT_STAT_PHASE 0 = 5 ∧ ∀ d < s0.pkg.part.model.dies, s0.pkg.dieOk d = true → s0.pkg.g .DBG_MP_STAT_HALTED d = 0)) ∧
    (s1.pkg.boot.env ≠ none) ∧
    (s1.pkg.boot.env ≠ none) ∧
    (s0.pkg.boot.env = none) ∧
    (s15.pkg.take 0 0 99 = some j2 ∧ s15.pkg.mpTakes 0 0 j2 = true) ∧
    (s6.pkg.take 0 0 96 = some j0 ∧ s6.pkg.mpTakes 0 0 j0 = true ∧ s6.fuses.keyBarred = false ∧ s6.pkg.railsIn = true ∧ j0.kcv = kcvOf j0.key) ∧
    (s12.pkg.take 0 0 97 = some j1 ∧ s12.pkg.mpTakes 0 0 j1 = true ∧ s12.fuses.bbKeyDis = false ∧ j1.kcv = kcvOf j1.key ∧
      s12.pkg.slotActive = some false) := by
  refine ⟨?_, ?_, ?_, ?_, ?_, ?_, ?_, ?_, ?_, ?_, ?_, ?_⟩ <;> decide +kernel
theorem witness_BootAndPowerLossAct_2 :
    (s13.pkg.take 0 0 97 = some j1 ∧ s13.pkg.mpTakes 0 0 j1 = true ∧ s13.fuses.bbKeyDis = false ∧ j1.kcv = kcvOf j1.key ∧
      s13.pkg.slotActive = some true) := by decide +kernel
end BootAndPowerLossAct

end Boot

namespace Clocks

def z : Pkg := {}
def own (n : Nat) (c : Bool) (s : Pkg) (l : List (Fld × Nat × Nat) :=
  []) : Pkg := { s.ps ([(.MBX_MP_STAT_STATE, 0, 2), (.ARY_RUN_STAT_STATE, 0, n), (.ARY_CFG_INFO_DEPTH, 0, 80), (.ARY_VMAP_REG_VALID, 0, 1), (.ARY_VMAP_USE, 0, 1)] ++ l) with fab.regOwn := [(0, 1)], insts := [(0, {desc := {dies := [0], flowCount := 1, cascade := c}, begun := true})] }
def h (l : List (Fld × Nat × Nat)) : Pkg := { z.ps l with boot.env := some {} }
def R : List (List (Fld × Nat × Nat)) := [[], [(.ADC_REF_STAT_A_VALID,0,1)],
  [(.ADC_REF_STAT_A_VALID,0,1),(.ADC_REF_STAT_B_VALID,0,1),(.ADC_REF_CTRL_ALT,0,1)],
  [(.ADC_REF_STAT_A_VALID,0,1),(.ADC_REF_STAT_B_VALID,0,1),(.ADC_REF_CTRL_ALT,0,1),(.ADC_REF_STAT_ACTIVE,0,1),(.ADC_REF_CTRL_REVERT,0,1)],
  [(.ADC_REF_STAT_B_VALID,0,1),(.ADC_REF_CTRL_ALT,0,1),(.ADC_REF_STAT_ACTIVE,0,1),(.ADC_REF_CTRL_REVERT,0,1)], [(.ADC_REF_STAT_LOST,0,1)],
  [(.ADC_REF_STAT_REC_VALID,0,1),(.ADC_REF_STAT_ACTIVE,0,2),(.ADC_REF_CTRL_PRI,0,2),(.ADC_REF_CTRL_ALT,0,0)],
  [(.ADC_REF_STAT_REC_VALID,0,1),(.ADC_REF_STAT_ACTIVE,0,2),(.ADC_REF_CTRL_PRI,0,2),(.ADC_REF_CTRL_ALT,0,0),(.ADC_REF_STAT_A_VALID,0,1),(.LNK_LANE_STAT_STATE,0,3)],
  [(.LNK_LANE_STAT_STATE,0,3)], [(.ADC_REF_STAT_REC_VALID,0,1),(.ADC_REF_STAT_A_VALID,0,1)],
  [(.ADC_REF_STAT_A_VALID,0,1),(.ADC_REF_STAT_ACTIVE,0,0),(.ADC_REF_STAT_B_VALID,0,0),(.ADC_REF_CTRL_ALT,0,1)]]
def S1 : List Pkg :=
  [z] ++ R.map h ++ [{own 3 false (h [(.ADC_REF_STAT_A_VALID,0,1),(.ADC_REF_STAT_B_VALID,0,1),(.ADC_REF_CTRL_ALT,0,1)]) with part.slow := true},
  own 2 false (h [(.ADC_REF_STAT_A_VALID,0,1)]), own 3 false (h [(.ADC_REF_STAT_A_VALID,0,1)]), { h [] with part.slow := true, part.model := .gl2 },
  {h [(.ADC_PLL_STAT_ROOT_LOCK,0,1)] with boot.relock := [0]},
  {own 3 false (h [(.ADC_PLL_STAT_ROOT_LOCK,0,1)]) with boot.relock := [1], boot.realign := true},
  {h [(.ADC_PLL_STAT_ROOT_LOCK,0,1),(.ADC_CTRL_HOST,0,1)] with boot.relock := [0], boot.realign := true}]
def S2 : List Pkg := [h [(.ADC_CTRL_MODE,0,1)], {h [(.ADC_CFG_CHAN,0,3),(.ADC_CFG_RATE,0,4)] with boot.adc := [(0,{start := true, settle := 5})]},
  {h [(.ADC_CFG_CHAN,0,3),(.ADC_CFG_RATE,0,4),(.ADC_CTRL_MODE,0,1)] with boot.adc := [(0,{wait := 1})]},
  {h [] with boot.adc := [(0,{conv := some (3,2,true)})]}, {h [] with pendw := [{ fld := .ADC_CFG_CHAN, idx := 0, val := 5, wait := 0 }]},
  own 3 false (h [(.LNK_LANE_STAT_STATE,1,3),(.ADC_MON_RAIL_IN,0,31),(.LNK_LANE_STAT_STATE,0,3)]), h [(.ADC_MON_RAIL_IN,0,30)],
  own 3 false (h [(.ADC_MON_TEMP_WARN,0,15),(.ADC_MON_TEMP_CRIT,0,15)]), {own 3 false (h []) with boot.warm := [(0,1),(1,2)]}]

namespace ClocksAndMonitorsAct
def sList : List State := (S1 ++ S2).map st
def s0 : State := sList.getD 0 {}
def s1 : State := sList.getD 1 {}
def s2 : State := sList.getD 2 {}
def s3 : State := sList.getD 3 {}
def s4 : State := sList.getD 4 {}
def s5 : State := sList.getD 5 {}
def s6 : State := sList.getD 6 {}
def s7 : State := sList.getD 7 {}
def s10 : State := sList.getD 10 {}
def s12 : State := sList.getD 12 {}
def s15 : State := sList.getD 15 {}
def s16 : State := sList.getD 16 {}
def s18 : State := sList.getD 18 {}
def s22 : State := sList.getD 22 {}
def s23 : State := sList.getD 23 {}
def s24 : State := sList.getD 24 {}
def s26 : State := sList.getD 26 {}
/-- The hypotheses of `Obligations.ClocksAndMonitorsAct` are met, clause by clause: `referenceInvalid`, `referenceValid`, `refCtrlWrite`, `rootWrite`,
`rootLockLoss`, `pllRelock`, `adcStart`, `adcConversionBoundary`, `adcConversionEnd`, `railDeparture`, `railReturn`, `tempClear`. -/
theorem witness_ClocksAndMonitorsAct :
    (s0.pkg.g (refValid 0) 0 = 0) ∧
    (s4.pkg.g (refValid 0) 0 ≠ 0 ∧ (s4.pkg.g .ADC_REF_STAT_ACTIVE 0 ≠ 0 ∨ s4.pkg.g .ADC_REF_STAT_LOST 0 ≠ 0)) ∧
    (s3.pkg.g (refValid 0) 0 ≠ 0 ∧ s3.pkg.g .ADC_REF_STAT_ACTIVE 0 = 0 ∧ s3.pkg.g .ADC_REF_STAT_LOST 0 = 0 ∧ s3.pkg.g .ADC_REF_CTRL_ALT 0 ≠ 0 ∧
      s3.pkg.g .ADC_REF_CTRL_ALT 0 < 3 ∧ s3.pkg.g (refValid (s3.pkg.g .ADC_REF_CTRL_ALT 0)) 0 ≠ 0) ∧
    (s2.pkg.g (refValid 0) 0 ≠ 0 ∧ s2.pkg.g .ADC_REF_STAT_ACTIVE 0 = 0 ∧ s2.pkg.g .ADC_REF_STAT_LOST 0 = 0 ∧ (s2.pkg.g .ADC_REF_CTRL_ALT 0 = 0 ∨
      s2.pkg.g (refValid (s2.pkg.g .ADC_REF_CTRL_ALT 0)) 0 = 0)) ∧
    ((s0.pkg.boot.env = none ∨ s0.pkg.g (refValid 0) 0 ≠ 0 ∨ 0 = 2 ∧ (s0.pkg.laneSt s0.pkg.recLane).carriesRec = false)) ∧
    (s6.pkg.boot.env ≠ none ∧ s6.pkg.g (refValid 0) 0 = 0 ∧ (0 = 2 → (s6.pkg.laneSt s6.pkg.recLane).carriesRec = true) ∧
      s6.pkg.g .ADC_REF_STAT_LOST 0 ≠ 0) ∧
    (s5.pkg.boot.env ≠ none ∧ s5.pkg.g (refValid 0) 0 = 0 ∧ (0 = 2 → (s5.pkg.laneSt s5.pkg.recLane).carriesRec = true) ∧
      s5.pkg.g .ADC_REF_STAT_LOST 0 = 0 ∧ s5.pkg.g .ADC_REF_CTRL_REVERT 0 ≠ 0 ∧ s5.pkg.g .ADC_REF_CTRL_PRI 0 = 0 ∧
      s5.pkg.g .ADC_REF_STAT_ACTIVE 0 ≠ 0) ∧
    (s1.pkg.boot.env ≠ none ∧ s1.pkg.g (refValid 0) 0 = 0 ∧ (0 = 2 → (s1.pkg.laneSt s1.pkg.recLane).carriesRec = true) ∧
      s1.pkg.g .ADC_REF_STAT_LOST 0 = 0 ∧ ¬(s1.pkg.g .ADC_REF_CTRL_REVERT 0 ≠ 0 ∧ s1.pkg.g .ADC_REF_CTRL_PRI 0 = 0 ∧
      s1.pkg.g .ADC_REF_STAT_ACTIVE 0 ≠ 0)) ∧
    (s0.pkg.unwatched = true ∧ (0 % 4 = 3 ∨ 0 / 4 % 4 = 3 ∨ 0 % 4 = 0 / 4 % 4)) ∧
    (s12.pkg.unwatched = true ∧ ¬(9 % 4 = 3 ∨ 9 / 4 % 4 = 3 ∨ 9 % 4 = 9 / 4 % 4) ∧ (s12.pkg.g .ADC_REF_CTRL_PRI 0 ≠ 9 % 4 ∨ bit 9 4 = true ∧
      s12.pkg.g .ADC_REF_CTRL_REVERT 0 = 0) ∧ s12.pkg.g .ADC_REF_STAT_ACTIVE 0 ≠ 9 % 4 ∧ s12.pkg.g (refValid (9 % 4)) 0 ≠ 0 ∧
      s12.pkg.g .ADC_REF_STAT_LOST 0 = 0 ∧ (9 % 4 = 2 → (s12.pkg.laneSt (9 / 32 % 32 * 4)).carriesRec = true) ∧ true = true ∧
      (∃ i < 16, s12.pkg.runState i = .running ∨ s12.pkg.runState i = .paused ∨ s12.pkg.runState i = .frozen)) ∧
    (s0.pkg.unwatched = true ∧ ¬(4 % 4 = 3 ∨ 4 / 4 % 4 = 3 ∨ 4 % 4 = 4 / 4 % 4) ∧ ¬((s0.pkg.g .ADC_REF_CTRL_PRI 0 ≠ 4 % 4 ∨ bit 4 4 = true ∧
      s0.pkg.g .ADC_REF_CTRL_REVERT 0 = 0) ∧ s0.pkg.g .ADC_REF_STAT_ACTIVE 0 ≠ 4 % 4 ∧ s0.pkg.g (refValid (4 % 4)) 0 ≠ 0 ∧
      s0.pkg.g .ADC_REF_STAT_LOST 0 = 0 ∧ (4 % 4 = 2 → (s0.pkg.laneSt (4 / 32 % 32 * 4)).carriesRec = true)) ∧
      ((s0.pkg.laneSt (4 / 32 % 32 * 4)).carriesRec = true ∨ s0.pkg.g (refValid 2) 0 = 0)) ∧
    (s10.pkg.unwatched = true ∧ ¬(4 % 4 = 3 ∨ 4 / 4 % 4 = 3 ∨ 4 % 4 = 4 / 4 % 4) ∧ ¬((s10.pkg.g .ADC_REF_CTRL_PRI 0 ≠ 4 % 4 ∨ bit 4 4 = true ∧
      s10.pkg.g .ADC_REF_CTRL_REVERT 0 = 0) ∧ s10.pkg.g .ADC_REF_STAT_ACTIVE 0 ≠ 4 % 4 ∧ s10.pkg.g (refValid (4 % 4)) 0 ≠ 0 ∧
      s10.pkg.g .ADC_REF_STAT_LOST 0 = 0 ∧ (4 % 4 = 2 → (s10.pkg.laneSt (4 / 32 % 32 * 4)).carriesRec = true)) ∧
      ¬((s10.pkg.laneSt (4 / 32 % 32 * 4)).carriesRec = true ∨ s10.pkg.g (refValid 2) 0 = 0) ∧ (s10.pkg.g .ADC_REF_STAT_ACTIVE 0 ≠ 2 ∨
      s10.pkg.g .ADC_REF_STAT_LOST 0 ≠ 0)) := by
  refine ⟨?_, ?_, ?_, ?_, ?_, ?_, ?_, ?_, ?_, ?_, ?_, ?_⟩ <;> decide +kernel
theorem witness_ClocksAndMonitorsAct_2 :
    (s7.pkg.unwatched = true ∧ ¬(4 % 4 = 3 ∨ 4 / 4 % 4 = 3 ∨ 4 % 4 = 4 / 4 % 4) ∧ ¬((s7.pkg.g .ADC_REF_CTRL_PRI 0 ≠ 4 % 4 ∨ bit 4 4 = true ∧
      s7.pkg.g .ADC_REF_CTRL_REVERT 0 = 0) ∧ s7.pkg.g .ADC_REF_STAT_ACTIVE 0 ≠ 4 % 4 ∧ s7.pkg.g (refValid (4 % 4)) 0 ≠ 0 ∧
      s7.pkg.g .ADC_REF_STAT_LOST 0 = 0 ∧ (4 % 4 = 2 → (s7.pkg.laneSt (4 / 32 % 32 * 4)).carriesRec = true)) ∧
      ¬((s7.pkg.laneSt (4 / 32 % 32 * 4)).carriesRec = true ∨ s7.pkg.g (refValid 2) 0 = 0) ∧ s7.pkg.g .ADC_REF_STAT_ACTIVE 0 = 2 ∧
      s7.pkg.g .ADC_REF_STAT_LOST 0 = 0) ∧
    (s3.pkg.unwatched = true ∧ ¬(9 % 4 = 3 ∨ 9 / 4 % 4 = 3 ∨ 9 % 4 = 9 / 4 % 4) ∧ (s3.pkg.g .ADC_REF_CTRL_PRI 0 ≠ 9 % 4 ∨ bit 9 4 = true ∧
      s3.pkg.g .ADC_REF_CTRL_REVERT 0 = 0) ∧ s3.pkg.g .ADC_REF_STAT_ACTIVE 0 ≠ 9 % 4 ∧ s3.pkg.g (refValid (9 % 4)) 0 ≠ 0 ∧
      s3.pkg.g .ADC_REF_STAT_LOST 0 = 0 ∧ (9 % 4 = 2 → (s3.pkg.laneSt (9 / 32 % 32 * 4)).carriesRec = true) ∧
      ((s3.pkg.laneSt (9 / 32 % 32 * 4)).carriesRec = true ∨ s3.pkg.g (refValid 2) 0 = 0) ∧ false = false) ∧
    (s3.pkg.unwatched = true ∧ ¬(9 % 4 = 3 ∨ 9 / 4 % 4 = 3 ∨ 9 % 4 = 9 / 4 % 4) ∧ (s3.pkg.g .ADC_REF_CTRL_PRI 0 ≠ 9 % 4 ∨ bit 9 4 = true ∧
      s3.pkg.g .ADC_REF_CTRL_REVERT 0 = 0) ∧ s3.pkg.g .ADC_REF_STAT_ACTIVE 0 ≠ 9 % 4 ∧ s3.pkg.g (refValid (9 % 4)) 0 ≠ 0 ∧
      s3.pkg.g .ADC_REF_STAT_LOST 0 = 0 ∧ (9 % 4 = 2 → (s3.pkg.laneSt (9 / 32 % 32 * 4)).carriesRec = true) ∧
      ((s3.pkg.laneSt (9 / 32 % 32 * 4)).carriesRec = true ∨ s3.pkg.g (refValid 2) 0 = 0) ∧ true = true ∧ ¬∃ i < 16, s3.pkg.runState i = .running ∨
      s3.pkg.runState i = .paused ∨ s3.pkg.runState i = .frozen) ∧
    (s12.pkg.unwatched = true ∧ ¬∀ i < 16, s12.pkg.runState i = .unloaded) ∧
    (s15.pkg.unwatched = true ∧ (∀ i < 16, s15.pkg.runState i = .unloaded) ∧ s15.pkg.part.slow = true ∧ false = false) ∧
    (s0.pkg.unwatched = true ∧ (∀ i < 16, s0.pkg.runState i = .unloaded) ∧ (s0.pkg.part.slow = false ∨ false = true)) ∧
    (0 < s16.pkg.part.model.dies ∧ s16.pkg.g .ADC_PLL_STAT_ROOT_LOCK 0 ≠ 0 ∧ s16.pkg.g .ADC_REF_STAT_LOST 0 = 0) ∧
    ((¬0 < s0.pkg.part.model.dies ∨ s0.pkg.g .ADC_PLL_STAT_ROOT_LOCK 0 = 0 ∨ s0.pkg.g .ADC_REF_STAT_LOST 0 ≠ 0)) ∧
    (0 ∈ s16.pkg.boot.relock) ∧
    (0 ∉ s0.pkg.boot.relock) ∧
    (s0.pkg.unwatched = true ∧ 0 < s0.pkg.part.model.dies ∧ if s0.pkg.g .ADC_CTRL_HOST 0 ≠ 0 then isMp 0 = false else isMp 0 = true ∧
      s0.pkg.lastWritten .ADC_CTRL_MODE 0 < 2) ∧
    (s18.pkg.unwatched = true ∧ 0 < s18.pkg.part.model.dies ∧ ¬if s18.pkg.g .ADC_CTRL_HOST 0 ≠ 0 then isMp 0 = false else isMp 0 = true) := by
  refine ⟨?_, ?_, ?_, ?_, ?_, ?_, ?_, ?_, ?_, ?_, ?_, ?_⟩ <;> decide +kernel
theorem witness_ClocksAndMonitorsAct_3 :
    (s0.pkg.pendw = []) ∧
    (s23.pkg.pendw = [{ fld := .ADC_CFG_CHAN, idx := 0, val := 5, wait := 0 }]) ∧
    ((s0.pkg.adc 0).conv = none) ∧
    ((s22.pkg.adc 0).conv = some (3, 2, true) ∧ 3 < 16 ∧ 2 < 3) ∧
    (0 < s24.pkg.part.model.dies ∧ bit (s24.pkg.g .ADC_MON_RAIL_IN 0) 0 = true) ∧
    (¬(0 < s0.pkg.part.model.dies ∧ bit (s0.pkg.g .ADC_MON_RAIL_IN 0) 0 = true)) ∧
    (0 < s0.pkg.part.model.dies ∧ bit (s0.pkg.g .ADC_MON_RAIL_IN 0) 0 = false) ∧
    ((¬0 < s24.pkg.part.model.dies ∨ bit (s24.pkg.g .ADC_MON_RAIL_IN 0) 0 = true)) ∧
    (bit (s26.pkg.g (if false = true then .ADC_MON_TEMP_CRIT else .ADC_MON_TEMP_WARN) 0) 0 = true) ∧
    (bit (s0.pkg.g (if false = true then .ADC_MON_TEMP_CRIT else .ADC_MON_TEMP_WARN) 0) 0 = false) := by
  refine ⟨?_, ?_, ?_, ?_, ?_, ?_, ?_, ?_, ?_, ?_⟩ <;> decide +kernel
end ClocksAndMonitorsAct

end Clocks


/-! ## Well-formedness refuses -/

namespace IllFormed
def hdr : RecHdr := { inst := 0, len := 8 }
def req : RingPkt := { write := false, init := 0, tag := 0, addr := 0 }
def desc : ImgDesc :=
  { depth := 80, edgeLen := 1, vrows := 1, vcols := 1, flags := 0, hbmSegs := 1, ioBanks := 1, ports := 1, flowBase := 0, flowCount := 1,
    pin := List.replicate 8 0xFF, pairs := [], regions := [(0, 0, 3, 0)] }
/-- A received Ethernet frame. -/
def ef : EthFrame := { port := 0, kind := 0 }

theorem test_accepts_well_formed : (Instr.registerWrite 0 none 0 [0] none).wellFormed = true ∧ (Instr.sectionBegin hdr desc).wellFormed = true ∧
    (Instr.ringRequest req).wellFormed = true ∧ (Instr.ptpFrameReceive ef).wellFormed = true := by decide +kernel
theorem test_refuses_no_words : (Instr.registerWrite 0 none 0 [] none).wellFormed = false := by decide +kernel
theorem test_refuses_65_words : (Instr.dataStoreWrite 0 none 0 0 (List.replicate 65 0) none).wellFormed = false := by decide +kernel
theorem test_refuses_enables_beyond_words : (Instr.wuStateWrite 0 none 0 0 [0] (some 16)).wellFormed = false := by decide +kernel
theorem test_refuses_wide_record_inst : (Instr.patchBegin { hdr with inst := 256 }).wellFormed = false := by decide +kernel
theorem test_refuses_short_chunk : (Instr.chunk { head := [], data := [], tag := [] }).wellFormed = false := by decide +kernel
theorem test_refuses_short_stream_header : (Instr.streamHeader (List.replicate 559 0)).wellFormed = false := by decide +kernel
theorem test_refuses_pin_of_seven_bytes : (Instr.sectionBegin hdr { desc with pin := List.replicate 7 0 }).wellFormed = false := by decide +kernel
theorem test_refuses_no_frames : (Instr.frames hdr [] true).wellFormed = false := by decide +kernel
theorem test_refuses_class_7 : (Instr.ringRequest { req with cls := 7 }).wellFormed = false := by decide +kernel
theorem test_refuses_response_error_3 : (Instr.ringRequest { req with back := 3 }).wellFormed = false := by decide +kernel
theorem test_refuses_third_ethernet_port : (Instr.ptpFrameReceive { ef with port := 2 }).wellFormed = false := by decide +kernel
theorem test_refuses_store_of_no_words : (Instr.mpFeed 0 0 0 (.store 0 [])).wellFormed = false := by decide +kernel
theorem test_refuses_strap_of_65 : (Instr.resetRelease { pkgId := 65 }).wellFormed = false := by decide +kernel
theorem test_refuses_65_generations : (Instr.powerLoss (.gen 65)).wellFormed = false := by decide +kernel
theorem test_refuses_three_freed_counts : (Instr.lack 0 0 false [0, 0, 0]).wellFormed = false := by decide +kernel
theorem test_refuses_short_slot : (Instr.slotTake 0 (List.replicate 63 0)).wellFormed = false := by decide +kernel
theorem test_refuses_short_entry : (Instr.inboundFetchDone 8 0 0 2 [0]).wellFormed = false := by decide +kernel
theorem test_refuses_named_opcode_as_bypass : (Instr.bscanBypass 2).wellFormed = false := by decide +kernel
end IllFormed

/-! ## Values worked out outside the model -/

namespace Published
/-- AES-256 of the all-zero block under the all-zero key, as published: its first bytes are DC 95 C0 78 (R199). -/
theorem test_key_check_of_zero_key : kcvOf 0 = 0x78C095DC := by decide +kernel
/-- The AES-256-GCM tag of nothing under the all-zero key and vector, as published. -/
theorem test_gcm_tag_of_nothing : gcmTag (roundKeys (keyBytes 0)) (List.replicate 12 0) [] [] =
    [0x53, 0x0F, 0x8A, 0xFB, 0xC7, 0x45, 0x36, 0xB9, 0xA9, 0x63, 0xB4, 0xF1, 0xC4, 0xCB, 0x73, 0x8B] := by decide +kernel
/-- The CRC-32C of the nine characters 1 to 9, as published (R209). -/
theorem test_crc32c_of_digits : crc32c [0x31, 0x32, 0x33, 0x34, 0x35, 0x36, 0x37, 0x38, 0x39] = 0xE3069283 := by decide +kernel
end Published

/-! ## Figures of the worked examples and tables -/

namespace Figures

/-- Bridges, longest path and socket load of Tables 3 and 225 and R476; signal and GND lands of Table 226. -/
theorem test_counts_per_part :
    ([Model.gl2, .gl4, .gl8].map fun m => (m.bridges, m.longest, m.lands, m.signalLands, m.gndLands, m.socketLoad)) =
      [(1, 1, 5580, 505, 3507, 1395), (4, 2, 8100, 897, 4067, 2025), (10, 4, 16384, 1748, 8364, 4096)] := by decide +kernel

/-- Tables 1 and 5: 805 M, 1.61 G and 3.22 G gate equivalents; 248 M on the portable target at D = 80. -/
theorem test_capacity : ([Model.gl2, .gl4, .gl8].map fun m => gateEquivalents (perDies m.dies).bps 1024 / 1000000) = [805, 1610, 3221] ∧
    gateEquivalents Model.gl8.portableBPs 80 = 247726080 := by decide +kernel

/-- Table 6, the split over eight packages, and the GL4 that is too small. -/
theorem test_instance_depth : [(236, 746666668, 1032192), (284, 373333334, 1032192), (332, 186666667, 1032192), (380, 93333334, 1032192),
      (236, 746666668, 516096)].map (fun e => instDepth e.1 e.2.1 e.2.2) = [some 728, some 368, some 336, some 384, none] := by decide +kernel

/-- Die 0 to die 7 of a GL8 costs 24 steps (R16); the hop from die 5 through dies 4 and 0 to die 1 costs 60 (R17). -/
theorem test_latencies : Model.gl8.latency ⟨0, 0, 0⟩ ⟨7, 3, 3⟩ = 24 ∧ packageLatency .gl8 .gl8 0 5 4 0 1 = 60 := by decide +kernel

/-- Table 118 on a -20 part at D = 80: 40.0, 39.8 and 80.4 ns. -/
theorem test_pad_bounds : State.reset.pkg.padBounds 80 (slewDelay 3) = (40000, 39800, 80400) := by decide +kernel

/-- The counts of Vatfield-12 per cycle on one GL8-20 at D = 728, above Table 198. -/
def vatfield : CycleOps := ⟨470666668, 276000000, 4769108, 1200000, 2400000, 8141184, 2400000, 192000⟩

/-- Table 198, to the tenth of a watt: 648.0, 40.7, 26.4 and 15.8 W; 315.7 W static at 70 °C with 63 regions a die. -/
theorem test_power_terms : ([vatfield.bp, vatfield.unit, vatfield.cave, vatfield.hbm].map fun e =>
      (State.reset.pkg.cyclePower 728 e + 50000) / 100000) = [6480, 407, 264, 158] ∧
    (staticAll 70).map (fun f => (8 * staticPower f 63 + 50000) / 100000) = some 3157 := by decide +kernel

/-- Table 234: die 0 draws 100.1 W of VDD_CORE and 32.2 W of VDD_TIER, within Table 228, and its junction is at most 78.5 °C; at 85 °C and 210 W a
junction is at most 97.6 °C (R474). -/
theorem test_rails :
    let x := Model.gl8.dieRails 0 81000000 8387500 1975000 160000 39462500
    x.core / 100000 = 1001 ∧ x.tier / 100000 = 321 ∧ Model.gl8.withinRails 0 x = true ∧ junction 70000 x.total / 100 = 785 ∧
      junction 85000 210000000 = 97600 := by decide +kernel
end Figures

end Sys2Proof.Tests
end

section
/-!
SUPPORT. ARRAY_STEP and the results of the BPs: what an executed step leaves in the data stores, and what precedes it (R44, R45, R48, R52, R56).
-/
namespace Sys2Proof.Machine

section
variable (s : Pkg)

/-! ## What an executed step does beside the BPs leaves the data stores as they were -/

theorem Pkg.each_fab {α : Type} (l : List α) (f : Pkg → α → Pkg) (h : ∀ t x, (f t x).fab = t.fab) : (s.each l f).fab = s.fab :=
  s.each_keeps (fun t => t.fab = s.fab) l f (fun t x _ ht => (h t x).trans ht) rfl

theorem Pkg.each_data {α : Type} (l : List α) (f : Pkg → α → Pkg) (h : ∀ t x, (f t x).fab.data = t.fab.data) :
    (s.each l f).fab.data = s.fab.data :=
  s.each_keeps (fun t => t.fab.data = s.fab.data) l f (fun t x _ ht => (h t x).trans ht) rfl

/-! ### Queue issues -/

@[simp] theorem Pkg.supersede_fab (k e : Nat) : (s.supersede k e).fab = s.fab := by
  unfold Pkg.supersede
  extract_lets
  split <;> rfl

@[simp] theorem Pkg.post_fab (k : Nat) (r : QReq) : (s.post k r).fab = s.fab := by
  unfold Pkg.post
  extract_lets
  split <;> rfl

@[simp] theorem Pkg.skipIssue_fab (k e : Nat) (range : Bool) : (s.skipIssue k e range).fab = s.fab := rfl

@[simp] theorem Pkg.issue_fab (i k e d : Nat) (lines : Nat → Nat × Bool) : (s.issue i k e d lines).fab = s.fab := by
  unfold Pkg.issue
  extract_lets _ _ s1
  have h1 : s1.fab = s.fab := by simp [s1]
  split
  · simp [h1]
  · split <;> simp [h1]

@[simp] theorem Pkg.takeIssues_fab (o : Pkg) (i : Nat) (l : List (Nat × Nat × Nat)) : (s.takeIssues o i l).fab = s.fab :=
  s.each_fab l _ fun t e => t.issue_fab i e.1 e.2.1 e.2.2 _

/-! ### Caves -/

@[simp] theorem Pkg.cavePerform_fab (b : Nat) (l : List CaveAcc) : (s.cavePerform b l).fab = s.fab := by
  unfold Pkg.cavePerform
  extract_lets perf coll old s1 s2 s3 s4
  have h1 : s1.fab = s.fab := s.each_fab _ _ fun t a => by split <;> rfl
  have h2 : s2.fab = s1.fab := s1.each_fab _ _ fun t a => by
    dsimp only
    split
    · rfl
    · split <;> rfl
  have h3 : s3.fab = s2.fab := s2.each_fab _ _ fun t a => rfl
  split
  · split <;> simp [s4, h3, h2, h1]
  · simp [h3, h2, h1]

@[simp] theorem Pkg.cavesPerform_fab (i : Nat) : (s.cavesPerform i).fab = s.fab := by
  unfold Pkg.cavesPerform
  extract_lets mine _ banks
  exact Pkg.each_fab _ _ _ fun t e => t.cavePerform_fab _ _

@[simp] theorem Pkg.caveTake_fab (i k : Nat) (ga gd : Option (Nat × Bool)) : (s.caveTake i k ga gd).fab = s.fab := by
  unfold Pkg.caveTake
  split
  · extract_lets
    split
    · rfl
    · split <;> rfl
  · rfl

@[simp] theorem Pkg.takeCaves_fab (o : Pkg) (i t : Nat) (regs : List Nat) : (s.takeCaves o i t regs).fab = s.fab :=
  s.each_fab _ _ fun u _ => u.each_fab _ _ fun v _ => v.caveTake_fab i _ _ _

/-! ### Word units and stops -/

@[simp] theorem Pkg.wuRaise_fab (i u step : Nat) (before : WordUnit) (l : List (Exc × Nat)) : (s.wuRaise i u step before l).fab = s.fab := by
  unfold Pkg.wuRaise
  split
  · rfl
  · extract_lets mcc s1 s2 s3 s4
    have h1 : s1.fab = s.fab := by simp only [s1]; split <;> simp
    have h2 : s2.fab = s1.fab := s1.each_fab _ _ fun t e => by split <;> rfl
    have h4 : s4.fab = s3.fab := by simp only [s4]; split <;> simp
    simp [h4, s3, h2, h1]

@[simp] theorem Pkg.stepUnits_data (o : Pkg) (x : StepCtx) (regs : List Nat) : (s.stepUnits o x regs).fab.data = s.fab.data :=
  s.each_data _ _ fun t r => t.each_data _ _ fun u c => by simp [Pkg.setWunit]

@[simp] theorem Pkg.sendDown_fab (i : Nat) (b : Ctl) : (s.sendDown i b).fab = s.fab := s.each_fab _ _ fun _ _ => rfl

@[simp] theorem Pkg.sendUp_fab (i : Nat) (b : Ctl) : (s.sendUp i b).fab = s.fab := by
  unfold Pkg.sendUp
  split
  · split <;> rfl
  · rfl

@[simp] theorem Pkg.writeNow_fab (f : Fld) (i v : Nat) : (s.writeNow f i v).fab = s.fab := by
  unfold Pkg.writeNow Pkg.applyOne
  extract_lets
  split
  · rfl
  · rfl
  · split <;> rfl
  · rfl

@[simp] theorem Pkg.cascadeAsk_fab (i : Nat) (c : Cause) (k : Nat) : (s.cascadeAsk i c k).fab = s.fab := by
  unfold Pkg.cascadeAsk Pkg.masterStop Pkg.setStopAt
  split
  · split <;> simp
  · simp

@[simp] theorem Pkg.pendStopAt_fab (i : Nat) (c : Cause) : (s.pendStopAt i c).fab = s.fab := by
  unfold Pkg.pendStopAt
  extract_lets
  split <;> rfl

@[simp] theorem Pkg.wuFreeze_fab (i k : Nat) : (s.wuFreeze i k).fab = s.fab := by
  unfold Pkg.wuFreeze
  split
  · rfl
  · split
    · split <;> simp
    · simp

/-! ### Ports, pads, trace and stage registers -/

@[simp] theorem Pkg.portTake_fab (o : Pkg) (q t mcc d : Nat) : (s.portTake o q t mcc d).fab = s.fab := by
  unfold Pkg.portTake
  extract_lets
  split
  · rfl
  · split <;> rfl

@[simp] theorem Pkg.freeVc_fab (q v n : Nat) : (s.freeVc q v n).fab = s.fab := by
  unfold Pkg.freeVc
  split <;> rfl

@[simp] theorem Pkg.freeSlots_fab (q a : Nat) : (s.freeSlots q a).fab = s.fab := by
  unfold Pkg.freeSlots
  extract_lets
  split
  · rfl
  · simp

@[simp] theorem Pkg.keepDriven_fab (c : Nat) : (s.keepDriven c).fab = s.fab := by
  unfold Pkg.keepDriven
  extract_lets
  split <;> rfl

@[simp] theorem Pkg.launch_fab (i : Nat) : (s.launch i).fab = s.fab :=
  Pkg.each_fab _ _ _ fun t c => by simp

@[simp] theorem Pkg.traceTick_fab (i n : Nat) : (s.traceTick i n).fab = s.fab := by
  unfold Pkg.traceTick
  split <;> rfl

@[simp] theorem Pkg.regionStages_data (o : Pkg) (d t : Nat) (regs : List Nat) : (s.regionStages o d t regs).fab.data = s.fab.data := rfl
@[simp] theorem Pkg.dieStages_data (o : Pkg) (i t a : Nat) : (s.dieStages o i t a).fab.data = s.fab.data := rfl

end

/-! ## The results of a step -/

/-- What the BPs read beside the data stores in the step that `Pkg.execStep` executes. -/
def Pkg.stepCtx (s : Pkg) (i : Nat) : StepCtx :=
  { inst := i, step := (s.inst i).step, depth := s.depth i, compat := s.b .ARY_CFG_INFO_COMPAT i, edge := s.edges i (s.g .ARY_MCC i),
    gdl := s.g .XBR_GDL_VAL i,
    caps := Store.setAll 0 [] (((s.regionsOf i).flatMap fun r => s.captures (s.depth i) r (s.inst i).step).filter fun e => e.2 != 0) }

/-- Results put into the data stores at the address of step `t`. -/
def putResults (t : Nat) (m : NStore) (l : List (Nat × Nat)) : NStore := l.foldl (fun m e => m.put (e.1 * 2048 + t) e.2) m

/-- An executed step leaves in the data stores its BPs' results, put last. -/
theorem Pkg.execStep_data (s : Pkg) (i : Nat) :
    ∃ m, (s.execStep i).fab.data =
      putResults (s.inst i).step m ((s.stepTick i).evalAll ((s.stepTick i).stepCtx i) (s.regionsOf i)).2.writes := by
  have hstep : ((s.stepTick i).inst i).step = (s.inst i).step := by simp [Pkg.stepTick]
  have hregs : (s.stepTick i).regionsOf i = s.regionsOf i := rfl
  unfold Pkg.execStep
  extract_lets s0 o z t d k a regs caps x early
  have hx : (s.stepTick i).stepCtx i = x := rfl
  rw [hx, ← hregs, ← hstep]
  generalize o.evalAll x regs = evaluated
  obtain ⟨s1, acc⟩ := evaluated
  dsimp -zeta only
  extract_lets s2 s3 captured results _ stored counted caves pend units frozen ports launched staged advanced
  have hcounted : counted.fab = stored.fab := by simp only [counted]; split <;> simp
  have hcaves : caves.fab = counted.fab := by simp [caves]
  have hunits : units.fab.data = caves.fab.data := by simp [units]
  have hfrozen : frozen.fab = units.fab := by simp only [frozen]; split <;> simp
  have hports : ports.fab = frozen.fab := frozen.each_fab _ _ fun _ _ => by simp
  have hlaunched : launched.fab = ports.fab := by simp only [launched]; split <;> simp
  have hstaged : staged.fab.data = launched.fab.data := by simp [staged]
  refine ⟨captured, ?_⟩
  simp only [Pkg.traceTick_fab, Pkg.ps_fab, advanced, Pkg.updInst_fab, hstaged, hlaunched, hports, hfrozen, hunits, hcaves, hcounted]
  rfl

/-! ## Evaluation -/

/-- Evaluating a BP adds at most one result, its own; the cases are the classes of Table 25 in their order. -/
theorem Pkg.evalBP_writes (o : Pkg) (x : StepCtx) (s : Pkg) (acc : EvalAcc) (bp w : Nat) :
    (o.evalBP x s acc bp w).2.writes = acc.writes ∨ ∃ v, (o.evalBP x s acc bp w).2.writes = (bp, v) :: acc.writes := by
  unfold Pkg.evalBP
  extract_lets rd tt a b c put _ k q e freed acc'
  split
  · exact .inr ⟨_, rfl⟩
  · exact .inr ⟨_, rfl⟩
  · split
    · exact .inl rfl
    · exact .inr ⟨_, rfl⟩
  · split
    · exact .inl rfl
    · exact .inr ⟨_, rfl⟩
  · exact .inr ⟨_, rfl⟩
  · split
    · exact .inr ⟨_, rfl⟩
    · have hfreed : freed.writes = acc.writes := by simp only [freed]; split <;> rfl
      exact .inr ⟨_, congrArg (_ :: ·) hfreed⟩
  · split <;> exact .inl rfl
  · exact .inl rfl

/-- What a LUT instruction word gives: the bit of its truth table that its operands select. -/
def lutResult (x : StepCtx) (f : Fabric) (bp w : Nat) : Nat :=
  let v := fun sel => x.read f bp sel
  b2n (bit (bpTT w) (v (bpSelA w) + 2 * v (bpSelB w) + 4 * v (bpSelC w) + (if x.compat then 0 else 8 * v (bpSelD w))))

theorem Pkg.evalBP_lut (o : Pkg) (x : StepCtx) (s : Pkg) (acc : EvalAcc) (bp : Nat) {w : Nat} (h : bpClass w = 1) :
    (o.evalBP x s acc bp w).2.writes = (bp, lutResult x o.fab bp w) :: acc.writes := by
  simp only [Pkg.evalBP, h]
  rfl

theorem Pkg.evalBP_send (o : Pkg) (x : StepCtx) (s : Pkg) (acc : EvalAcc) (bp : Nat) {w : Nat} (h : bpClass w = 5) :
    (o.evalBP x s acc bp w).2.writes = (bp, x.read o.fab bp (bpSelA w)) :: acc.writes := by
  simp only [Pkg.evalBP, h]

/-- The results stand at `v` for BP `bp` at the address of step `t`, whatever the data stores held. -/
def EvalAcc.settled (t bp v : Nat) (acc : EvalAcc) : Prop := ∀ m, (putResults t m acc.writes).at (bp * 2048 + t) = v

theorem putResults_at_other (t bp : Nat) (m : NStore) (l : List (Nat × Nat)) (h : ∀ e ∈ l, e.1 ≠ bp) :
    (putResults t m l).at (bp * 2048 + t) = m.at (bp * 2048 + t) := by
  induction l generalizing m with
  | nil => rfl
  | cons e l ih =>
    have hne : e.1 ≠ bp := h e List.mem_cons_self
    exact (ih _ fun e' he' => h e' (List.mem_cons_of_mem _ he')).trans (NStore.at_put_other _ _ _ _ (by omega))

/-- A BP's first result stands: one evaluated later is put before it. -/
theorem Pkg.evalBP_settled {t b v : Nat} (o : Pkg) (x : StepCtx) (s : Pkg) (acc : EvalAcc) (bp w : Nat) (h : acc.settled t b v) :
    (o.evalBP x s acc bp w).2.settled t b v := by
  intro m
  rcases o.evalBP_writes x s acc bp w with hw | ⟨r, hw⟩
  · rw [hw]; exact h m
  · rw [hw]; exact h _

/-- The fold of `Pkg.evalAll` over any list of BPs and words, from any point of it. -/
def Pkg.evalList (o : Pkg) (x : StepCtx) (sa : Pkg × EvalAcc) (l : List (Nat × Nat)) : Pkg × EvalAcc :=
  l.foldl (fun sa e => o.evalBP x sa.1 sa.2 e.1 e.2) sa

theorem Pkg.evalList_settled {t b v : Nat} (o : Pkg) (x : StepCtx) (sa : Pkg × EvalAcc) (l : List (Nat × Nat)) (h : sa.2.settled t b v) :
    (o.evalList x sa l).2.settled t b v := by
  induction l generalizing sa with
  | nil => exact h
  | cons e l ih => exact ih _ (o.evalBP_settled x sa.1 sa.2 e.1 e.2 h)

/-- The first word listed for a BP decides the BP's result, where that word is one that gives a result `v`. -/
theorem Pkg.evalList_first {t bp w v : Nat} (o : Pkg) (x : StepCtx) (sa : Pkg × EvalAcc) (l : NStore) (hl : l.at bp = w) (hw : w ≠ 0)
    (hv : ∀ s acc, (o.evalBP x s acc bp w).2.writes = (bp, v) :: acc.writes) (hsa : ∀ e ∈ sa.2.writes, e.1 ≠ bp) :
    (o.evalList x sa l).2.settled t bp v := by
  induction l generalizing sa with
  | nil => exact absurd hl.symm hw
  | cons e l ih =>
    obtain ⟨bp', w'⟩ := e
    by_cases hbp : bp = bp'
    · have hw' : w' = w := by simpa [NStore.at, Store.get, hbp] using hl
      subst hbp hw'
      refine o.evalList_settled x _ l fun m => ?_
      rw [hv, show putResults t m ((bp, v) :: sa.2.writes) = putResults t (m.put (bp * 2048 + t) v) sa.2.writes from rfl,
        putResults_at_other t bp _ _ hsa, NStore.at_put_same]
    · refine ih _ (by simpa [NStore.at, Store.get, hbp] using hl) ?_
      rcases o.evalBP_writes x sa.1 sa.2 bp' w' with h | ⟨r, h⟩
      · rw [h]; exact hsa
      · rw [h]; simpa using ⟨fun e => hbp e.symm, by simpa using hsa⟩

/-! ## The instruction word of a BP -/

theorem Store.get_append_of_unlisted {α : Type} (d : α) (m m' : Store α) (k : Nat) (h : ∀ e ∈ m, e.1 ≠ k) :
    Store.get d (m ++ m') k = Store.get d m' k := by
  induction m with
  | nil => rfl
  | cons e m ih =>
    obtain ⟨k', v⟩ := e
    have hk : k ≠ k' := fun x => h (k', v) List.mem_cons_self x.symm
    simpa [Store.get, hk] using ih fun e he => h e (List.mem_cons_of_mem _ he)

theorem Store.get_append_of_listed {α : Type} (d : α) (m m' : Store α) (k : Nat) (h : Store.get d m k ≠ d) :
    Store.get d (m ++ m') k = Store.get d m k := by
  induction m with
  | nil => exact absurd rfl h
  | cons e m ih =>
    obtain ⟨k', v⟩ := e
    by_cases hk : k = k'
    · simp [Store.get, hk]
    · simpa [Store.get, hk] using ih (by simpa [Store.get, hk] using h)

/-- A key of a block of keys moved to another base reads as it did before the move. -/
theorem Store.get_range_moved {α : Type} (d : α) (m : Store α) (lo n base k : Nat) (hk : k < n) :
    Store.get d ((Store.range m lo (lo + n)).map fun e => (base + (e.1 - lo), e.2)) (base + k) = Store.get d m (lo + k) := by
  induction m with
  | nil => rfl
  | cons e m ih =>
    obtain ⟨k', v⟩ := e
    by_cases hin : lo ≤ k' ∧ k' < lo + n
    · by_cases hk' : lo + k = k'
      · subst hk'
        simp [Store.range, Store.get, hk]
      · have hne : k ≠ k' - lo := by omega
        simpa [Store.range, Store.get, hin, hk', hne] using ih
    · have hk' : lo + k ≠ k' := by omega
      simpa [Store.range, Store.get, hin, hk'] using ih

theorem Pkg.words_at (s : Pkg) (r t k : Nat) (hk : k < 2048) :
    NStore.at (s.words r t) (r * 2048 + k) = s.fab.instr.at (slotKey r t + k) :=
  Store.get_range_moved 0 _ (slotKey r t) 2048 (r * 2048) k hk

/-- The words of a region are those of its own BPs. -/
theorem Pkg.words_region {s : Pkg} {r t : Nat} {e : Nat × Nat} (he : e ∈ s.words r t) : e.1 / 2048 = r := by
  simp only [Pkg.words, Store.range, List.mem_map, List.mem_filter, Bool.and_eq_true, decide_eq_true_eq] at he
  obtain ⟨a, ⟨-, hlo, hhi⟩, rfl⟩ := he
  show (r * 2048 + (a.1 - slotKey r t)) / 2048 = r
  omega

/-- Among the words of several regions, that of a BP is the one its region holds for it. -/
theorem Pkg.flatMap_words_at (s : Pkg) (regs : List Nat) (r t k : Nat) (hr : r ∈ regs) (hk : k < 2048)
    (hw : s.fab.instr.at (slotKey r t + k) ≠ 0) :
    NStore.at (regs.flatMap fun q => s.words q t) (r * 2048 + k) = s.fab.instr.at (slotKey r t + k) := by
  induction regs with
  | nil => exact absurd hr List.not_mem_nil
  | cons q regs ih =>
    rw [← s.words_at r t k hk] at hw ⊢
    rw [List.flatMap_cons]
    by_cases hq : q = r
    · subst hq
      exact Store.get_append_of_listed 0 _ _ _ hw
    · have hne : ∀ e ∈ s.words q t, e.1 ≠ r * 2048 + k := fun e he h => hq (by have := Pkg.words_region he; omega)
      rw [s.words_at r t k hk] at hw ⊢
      exact (Store.get_append_of_unlisted 0 _ _ _ hne).trans
        (ih ((List.mem_cons.1 hr).resolve_left fun h => hq h.symm))

/-! ## What precedes a step leaves the instance's course as it was -/

/-- The fields of an instance that decide whether it executes a step, and which. -/
def courseFields : List Fld :=
  [.ARY_RUN_STAT_STATE, .SCH_INST_RST_PHASE, .ARY_RUN_STAT_STALLING, .ARY_CFG_INFO_DEPTH, .ARY_CFG_INFO_COMPAT]

/-- Instance `i` owns the same regions and stands at the same step, in the same course, in `t` as in `s`. -/
def Pkg.SameCourse (i : Nat) (s t : Pkg) : Prop :=
  t.fab.regOwn = s.fab.regOwn ∧ t.pins = s.pins ∧ (t.inst i).row = (s.inst i).row ∧ (t.inst i).step = (s.inst i).step ∧
    ∀ f ∈ courseFields, t.g f i = s.g f i

namespace Pkg.SameCourse
variable {i : Nat} {s t u : Pkg}

theorem regOwn (h : SameCourse i s t) : t.fab.regOwn = s.fab.regOwn := let ⟨regOwn, _⟩ := h; regOwn
theorem pins (h : SameCourse i s t) : t.pins = s.pins := let ⟨_, pins, _⟩ := h; pins
theorem row (h : SameCourse i s t) : (t.inst i).row = (s.inst i).row := let ⟨_, _, row, _⟩ := h; row
theorem step (h : SameCourse i s t) : (t.inst i).step = (s.inst i).step := let ⟨_, _, _, step, _⟩ := h; step
theorem fields (h : SameCourse i s t) : ∀ f ∈ courseFields, t.g f i = s.g f i := let ⟨_, _, _, _, fields⟩ := h; fields

/-- A change beside the registers, the instances, the pins and the regions' owners. -/
theorem of_eq (hown : t.fab.regOwn = s.fab.regOwn) (hpins : t.pins = s.pins) (hinsts : t.insts = s.insts) (hflds : t.flds = s.flds) :
    SameCourse i s t :=
  ⟨hown, hpins, by simp only [Pkg.inst, hinsts], by simp only [Pkg.inst, hinsts], fun _ _ => by simp only [Pkg.g, hflds]⟩

theorem refl : SameCourse i s s := of_eq rfl rfl rfl rfl

theorem trans (h : SameCourse i s t) (h' : SameCourse i t u) : SameCourse i s u :=
  ⟨h'.regOwn.trans h.regOwn, h'.pins.trans h.pins, h'.row.trans h.row, h'.step.trans h.step,
    fun f hf => (h'.fields f hf).trans (h.fields f hf)⟩

theorem each {α : Type} (l : List α) (f : Pkg → α → Pkg) (h : ∀ t x, SameCourse i t (f t x)) : SameCourse i s (s.each l f) :=
  s.each_keeps (SameCourse i s) l f (fun t x _ ht => ht.trans (h t x)) refl

/-- A write of a field that is none of the course's. -/
theorem p (h : SameCourse i s t) (f : Fld) {k v : Nat} (hf : f ∉ courseFields) : SameCourse i s (t.p f k v) :=
  h.trans ⟨rfl, rfl, rfl, rfl, fun f' hf' => t.g_p_fld f f' k i v fun e => hf (e ▸ hf')⟩

theorem setQport (k : Nat) (q : QPort) : SameCourse i s (s.setQport k q) := of_eq rfl rfl rfl rfl

theorem runs (h : SameCourse i s t) : t.runs i = s.runs i := by
  unfold Pkg.runs Pkg.runState Pkg.resetting Pkg.tripped
  rw [h.fields .ARY_RUN_STAT_STATE (by decide), h.fields .SCH_INST_RST_PHASE (by decide), h.pins]

theorem stalling (h : SameCourse i s t) : t.b .ARY_RUN_STAT_STALLING i = s.b .ARY_RUN_STAT_STALLING i :=
  congrArg (· != 0) (h.fields _ (by decide))

theorem compat (h : SameCourse i s t) : t.b .ARY_CFG_INFO_COMPAT i = s.b .ARY_CFG_INFO_COMPAT i :=
  congrArg (· != 0) (h.fields _ (by decide))

theorem depth (h : SameCourse i s t) : t.depth i = s.depth i := h.fields _ (by decide)

theorem regionsOf (h : SameCourse i s t) : t.regionsOf i = s.regionsOf i := by
  unfold Pkg.regionsOf
  rw [h.regOwn]

end Pkg.SameCourse

section
variable (s : Pkg) (i : Nat)

theorem Pkg.flipFrameBit_sameCourse (f : FAddr) (b : Nat) : SameCourse i s (s.flipFrameBit f b) := by
  unfold Pkg.flipFrameBit
  split
  case h_7 =>
    extract_lets
    split
    · exact .of_eq rfl rfl rfl rfl
    · split
      · exact .of_eq rfl rfl rfl rfl
      · exact .refl
  all_goals exact .of_eq rfl rfl rfl rfl

theorem Pkg.upsets_sameCourse (l : List (Nat × List Nat)) : SameCourse i s (s.upsets l) := by
  refine .each _ _ fun t e => ?_
  split
  · next f _ => exact .trans (.each _ _ fun u b => u.flipFrameBit_sameCourse i f b) (.of_eq rfl rfl rfl rfl)
  · exact .refl

theorem Pkg.bridgeErrors_sameCourse (l : List (Nat × Nat × Nat)) : SameCourse i s (s.bridgeErrors l) := by
  refine .each _ _ fun t e => ?_
  dsimp only
  split
  · have hflags : SameCourse i t ((t.incSat .XBR_BRG_PERR e.1).pbit .XBR_BRG_STAT_PERR (e.1 / 4) (e.1 % 4) true) :=
      (SameCourse.refl.p .XBR_BRG_PERR (by decide)).p .XBR_BRG_STAT_PERR (by decide)
    exact hflags.trans (.of_eq rfl rfl rfl rfl)
  · exact .refl

theorem Pkg.supersede_sameCourse (k e : Nat) : SameCourse i s (s.supersede k e) := by
  unfold Pkg.supersede
  extract_lets
  split
  · exact (SameCourse.setQport _ _).p .QUE_CANCELLED (by decide)
  · exact (SameCourse.setQport _ _).p .QUE_STAT_ORPHAN (by decide)
  · exact .refl

theorem Pkg.post_sameCourse (k : Nat) (r : QReq) : SameCourse i s (s.post k r) := by
  unfold Pkg.post
  extract_lets
  split <;> exact .setQport _ _

theorem Pkg.skipIssue_sameCourse (k e : Nat) (range : Bool) : SameCourse i s (s.skipIssue k e range) := by
  have hskipped : SameCourse i s ((s.setQport k ((s.qport k).doneWith e 0)).inc .QUE_SKIPPED k) :=
    (SameCourse.setQport _ _).p .QUE_SKIPPED (by decide)
  exact hskipped.p _ (by cases range <;> decide)

theorem Pkg.issue_sameCourse (n k e d : Nat) (lines : Nat → Nat × Bool) : SameCourse i s (s.issue n k e d lines) := by
  unfold Pkg.issue
  extract_lets _ _ s1
  have h1 : SameCourse i s s1 := .trans (.p .refl .QUE_ISSUED (by decide)) (Pkg.supersede_sameCourse _ i k e)
  split
  · exact h1.trans (s1.skipIssue_sameCourse i _ _ _)
  · split
    · exact h1.trans (s1.skipIssue_sameCourse i _ _ _)
    · exact h1.trans (s1.post_sameCourse i _ _)

theorem Pkg.issueEarly_sameCourse : SameCourse i s (s.issueEarly i) := by
  unfold Pkg.issueEarly
  split
  · exact .refl
  · have h : SameCourse i s (s.takeIssues s i (earlyIssues (s.slotWords i (s.inst i).step))) :=
      .each _ _ fun t e => t.issue_sameCourse i _ _ _ _ _
    refine h.trans ⟨rfl, rfl, ?_, ?_, fun _ _ => rfl⟩ <;> simp

/-- The bridge lines taken wrong change the bridge lines alone. -/
theorem Pkg.bridgeFlips_frame (l : List (Nat × Nat × Nat)) : ∃ arr, s.bridgeFlips i l = { s with fab.arr := arr } := by
  refine s.each_keeps (fun t => ∃ arr, t = { s with fab.arr := arr }) l _ (fun t e _ ht => ?_) ⟨s.fab.arr, rfl⟩
  obtain ⟨arr, rfl⟩ := ht
  dsimp only
  split
  · exact ⟨arr, rfl⟩
  · split
    · exact ⟨_, rfl⟩
    · exact ⟨arr, rfl⟩

theorem Pkg.bridgeFlips_sameCourse (l : List (Nat × Nat × Nat)) : SameCourse i s (s.bridgeFlips i l) := by
  obtain ⟨arr, h⟩ := s.bridgeFlips_frame i l
  rw [h]
  exact .of_eq rfl rfl rfl rfl

theorem Pkg.bridgeFlips_late (l : List (Nat × Nat × Nat)) : (s.bridgeFlips i l).late i = s.late i := by
  obtain ⟨arr, h⟩ := s.bridgeFlips_frame i l
  rw [h]
  rfl

end

theorem State.due_sameCourse (s : State) (i : Nat) (perr : List (Fin 32 × Fin 8 × BitVec 33)) (ups : List (BitVec 32 × List (Fin 4128))) :
    s.pkg.SameCourse i (s.due i perr ups) :=
  ((s.pkg.upsets_sameCourse i _).trans (Pkg.bridgeErrors_sameCourse _ i _)).trans (Pkg.issueEarly_sameCourse _ i)

/-- ARRAY_STEP executes the step due of a RUNNING instance in mid-cycle that does not stall and that nothing holds back. -/
theorem State.arrayStep_executes (s : State) (i : Nat) (perr : List (Fin 32 × Fin 8 × BitVec 33)) (ups : List (BitVec 32 × List (Fin 4128)))
    (hruns : s.pkg.runs i = true) (hrow : (s.pkg.inst i).row = 0) (hstall : s.pkg.b .ARY_RUN_STAT_STALLING i = false)
    (hlate : ((s.due i perr ups).late i).none = true) :
    (s.pkg.upsets (ups.map fun e => (e.1.toNat, e.2.map Fin.val))).arrayStep i (wrongBlocks perr) =
      ((s.due i perr ups).bridgeFlips i (wrongBlocks perr)).execStep i := by
  have hnoted := (s.pkg.upsets_sameCourse i (ups.map fun e => (e.1.toNat, e.2.map Fin.val))).trans
    (Pkg.bridgeErrors_sameCourse _ i (wrongBlocks perr))
  have hdue := s.due_sameCourse i perr ups
  have hruns' := hnoted.runs.trans hruns
  have hrow' := hnoted.row.trans hrow
  unfold Pkg.arrayStep
  extract_lets noted x due l
  have hl : l.none = true := hlate
  have hs : due.b .ARY_RUN_STAT_STALLING i = false := hdue.stalling.trans hstall
  rw [if_pos hruns', if_pos hrow', if_neg (by simp [hl]), if_neg (by simp [hs])]
  rfl

/-! ## The command -/

theorem Becomes.unique {cmd : Instr} {s : State} {p q : Pkg} (hp : Becomes cmd s p) (hq : Becomes cmd s q) : p = q := by
  have h : Host.Outcome.next { s with pkg := p } = .next { s with pkg := q } := hp.symm.trans hq
  exact congrArg State.pkg (Host.Outcome.next.inj h)

/-- The package that ARRAY_STEP leaves: the frame bits upset first, then the period of the instance passes. -/
theorem becomes_arrayStep (i : Fin 16) (perr : List (Fin 32 × Fin 8 × BitVec 33)) (ups : List (BitVec 32 × List (Fin 4128))) (s : State) :
    Becomes (.arrayStep i (perr, ups)) s
      ((s.pkg.upsets (ups.map fun e => (e.1.toNat, e.2.map Fin.val))).arrayStep i (wrongBlocks perr)) := rfl

theorem Pkg.stepTick_sameCourse (s : Pkg) (i : Nat) : SameCourse i s (s.stepTick i) := by
  unfold Pkg.stepTick
  extract_lets c t
  have hcount : SameCourse i s (s.p .LNK_STEP_CNT 0 (max c t)) := SameCourse.refl.p _ (by decide)
  refine hcount.trans ⟨rfl, rfl, ?_, ?_, fun _ _ => rfl⟩ <;> simp

/-- After an executed step a BP's bit at the step's address is the result that evaluating its instruction word gives. -/
theorem Pkg.execStep_bit {s : Pkg} {i r k w v : Nat} (hr : r ∈ s.regionsOf i) (hk : k < 2048)
    (hword : s.fab.instr.at (slotKey r (s.inst i).step + k) = w) (hw : w ≠ 0)
    (hv : ∀ u acc, ((s.stepTick i).evalBP ((s.stepTick i).stepCtx i) u acc (r * 2048 + k) w).2.writes = (r * 2048 + k, v) :: acc.writes) :
    (s.execStep i).fab.bit (r * 2048 + k) (s.inst i).step = v := by
  obtain ⟨m, hm⟩ := s.execStep_data i
  have hstep : ((s.stepTick i).stepCtx i).step = (s.inst i).step := (s.stepTick_sameCourse i).step
  have hlisted : NStore.at ((s.regionsOf i).flatMap fun q => (s.stepTick i).words q ((s.stepTick i).stepCtx i).step) (r * 2048 + k) = w := by
    rw [hstep, ← hword]
    exact (s.stepTick i).flatMap_words_at _ r _ k hr hk (hword.trans_ne hw)
  unfold Fabric.bit
  rw [hm]
  exact (s.stepTick i).evalList_first _ (s.stepTick i, {}) _ hlisted hw hv (by simp) m

/-- In a word of 64 bits the truth table reaches to the top, so a bit of the table is a bit of the word. -/
theorem bit_bpTT {w : Nat} (hw : w < 2 ^ 64) (n : Nat) : bit (bpTT w) n = bit w (48 + n) := by
  have htop : w / 2 ^ 48 % 2 ^ 16 = w / 2 ^ 48 := Nat.mod_eq_of_lt (by omega)
  unfold bit bpTT bits
  rw [htop, Nat.div_div_eq_div_mul, ← pow_add]

theorem StepCtx.read_congr {x y : StepCtx} (hstep : x.step = y.step) (hcaps : x.caps = y.caps) (f : Fabric) (bp : Nat) :
    x.read f bp = y.read f bp := by
  funext a
  unfold StepCtx.read
  rw [hstep, hcaps]

/-- The bit that ARRAY_STEP leaves for a BP of the instance whose step it executes, at that step's address: the result of evaluating the BP's word. -/
theorem State.arrayStep_bit {s : State} {i : Fin 16} {perr : List (Fin 32 × Fin 8 × BitVec 33)} {ups : List (BitVec 32 × List (Fin 4128))}
    {p : Pkg} {r k v : Nat} (hp : p = (s.due i perr ups).bridgeFlips i (wrongBlocks perr))
    (hruns : s.pkg.runs i = true) (hrow : (s.pkg.inst i).row = 0) (hstall : s.pkg.b .ARY_RUN_STAT_STALLING i = false)
    (hlate : (p.late i).none = true) (hr : r ∈ s.pkg.regionsOf i) (hk : k < 2048)
    (hw : bpClass (p.fab.instr.at (slotKey r (s.pkg.inst i).step + k)) ≠ 0)
    (hv : ∀ u acc, ((p.stepTick i).evalBP ((p.stepTick i).stepCtx i) u acc (r * 2048 + k)
      (p.fab.instr.at (slotKey r (s.pkg.inst i).step + k))).2.writes = (r * 2048 + k, v) :: acc.writes) :
    ((s.pkg.upsets (ups.map fun e => (e.1.toNat, e.2.map Fin.val))).arrayStep i (wrongBlocks perr)).fab.bit (r * 2048 + k)
      (s.pkg.inst i).step = v := by
  subst hp
  have hcourse := (s.due_sameCourse i perr ups).trans (Pkg.bridgeFlips_sameCourse _ i (wrongBlocks perr))
  rw [Pkg.bridgeFlips_late] at hlate
  rw [s.arrayStep_executes i perr ups hruns hrow hstall hlate]
  rw [← hcourse.step] at hw hv ⊢
  exact Pkg.execStep_bit (hcourse.regionsOf ▸ hr) hk rfl (fun h => hw (by rw [h]; rfl)) hv

/-- What `Obligations.BpWritesItsResult` says of a BP holds of every state in which its instruction word has 64 bits (R42). -/
theorem bpWritesItsResult_of_word_lt (i : Fin 16) (perr : List (Fin 32 × Fin 8 × BitVec 33)) (ups : List (BitVec 32 × List (Fin 4128))) (s : State)
    (r k : Nat) :
    let p := (s.due i perr ups).bridgeFlips i (wrongBlocks perr)
    let t := (s.pkg.inst i).step
    let bp := r * 2048 + k
    let w := p.fab.instr.at (slotKey r t + k)
    let caps := (s.pkg.regionsOf i).flatMap fun q => p.captures (s.pkg.depth i) q t
    let x : StepCtx := { inst := i, step := t, depth := s.pkg.depth i, compat := s.pkg.b .ARY_CFG_INFO_COMPAT i, edge := 0, gdl := 0,
                         caps := Store.setAll 0 [] (caps.filter fun e => e.2 != 0) }
    let v := fun sel => x.read p.fab bp sel
    w < 2 ^ 64 →
    s.pkg.runs i = true → (s.pkg.inst i).row = 0 → s.pkg.b .ARY_RUN_STAT_STALLING i = false → (p.late i).none = true →
    r ∈ s.pkg.regionsOf i → k < 2048 →
    Yields (.arrayStep i (perr, ups)) s fun z =>
      (bpClass w = 1 → s.pkg.b .ARY_CFG_INFO_COMPAT i = false →
        z.fab.bit bp t = b2n (bit w (48 + (v (bpSelA w) + 2 * v (bpSelB w) + 4 * v (bpSelC w) + 8 * v (bpSelD w))))) ∧
      (bpClass w = 1 → s.pkg.b .ARY_CFG_INFO_COMPAT i = true →
        z.fab.bit bp t = b2n (bit w (48 + (v (bpSelA w) + 2 * v (bpSelB w) + 4 * v (bpSelC w))))) ∧
      (bpClass w = 5 → z.fab.bit bp t = v (bpSelA w)) := by
  intro p t bp w caps x v hw hruns hrow hstall hlate hr hk
  have hcourse : s.pkg.SameCourse i (p.stepTick i) :=
    ((s.due_sameCourse i perr ups).trans (Pkg.bridgeFlips_sameCourse _ i _)).trans (p.stepTick_sameCourse i)
  have hread : ((p.stepTick i).stepCtx i).read p.fab bp = v := by
    refine StepCtx.read_congr hcourse.step ?_ p.fab bp
    show Store.setAll 0 [] (List.filter _ (List.flatMap (fun q => p.captures ((p.stepTick i).depth i) q ((p.stepTick i).inst i).step) _)) = _
    rw [hcourse.depth, hcourse.step, hcourse.regionsOf]
  have hcompat : ((p.stepTick i).stepCtx i).compat = s.pkg.b .ARY_CFG_INFO_COMPAT i := hcourse.compat
  refine ⟨_, becomes_arrayStep i perr ups s, ?_⟩
  generalize hz : (s.pkg.upsets _).arrayStep i _ = z
  have hbit {y : Nat} (hclass : bpClass w ≠ 0)
      (hy : ∀ u acc, ((p.stepTick i).evalBP ((p.stepTick i).stepCtx i) u acc bp w).2.writes = (bp, y) :: acc.writes) : z.fab.bit bp t = y :=
    hz ▸ State.arrayStep_bit rfl hruns hrow hstall hlate hr hk hclass hy
  have hlut (hclass : bpClass w = 1) : z.fab.bit bp t = lutResult ((p.stepTick i).stepCtx i) p.fab bp w :=
    hbit (by omega) fun u acc => (p.stepTick i).evalBP_lut _ u acc bp hclass
  simp only [lutResult, hread, hcompat, bit_bpTT hw] at hlut
  refine ⟨fun hclass hcomp => ?_, fun hclass hcomp => ?_, fun hclass => ?_⟩
  · simpa [hcomp] using hlut hclass
  · simpa [hcomp] using hlut hclass
  · rw [← hread]
    exact hbit (by omega) fun u acc => (p.stepTick i).evalBP_send _ u acc bp hclass

/-! ## The statement -/

/-- A RUNNING instance 0 before step 0, with no command waiting: BP 0 holds instruction word `w` for it, and its data-store bit 0 holds `a`. -/
def oneWord (w a : Nat) : State :=
  { pkg := { Pkg.ps {} [(.ARY_RUN_STAT_STATE, 0, 3), (.ARY_CFG_INFO_DEPTH, 0, 80)] with
             fab := { regOwn := [(0, 1)], instr := [(0, w)], data := [(0, a)] } } }

theorem oneWord_runs (w a : Nat) : (oneWord w a).pkg.runs 0 = true := rfl
theorem oneWord_row (w a : Nat) : ((oneWord w a).pkg.inst 0).row = 0 := rfl
theorem oneWord_stalling (w a : Nat) : (oneWord w a).pkg.b .ARY_RUN_STAT_STALLING 0 = false := rfl
theorem oneWord_regions (w a : Nat) : 0 ∈ (oneWord w a).pkg.regionsOf 0 := List.mem_singleton.2 rfl

/-- The hypotheses of `bpWritesItsResult_of_word_lt` are met by a LUT word of 64 bits, the function value for four ones its only one. -/
theorem witness_bpWritesItsResult_of_word_lt :
    let s := oneWord (2 ^ 63 + 1) 1
    let p := (s.due 0 [] []).bridgeFlips 0 (wrongBlocks [])
    let w := p.fab.instr.at (slotKey 0 (s.pkg.inst 0).step + 0)
    (bpClass w = 1 ∧ w < 2 ^ 64) ∧ s.pkg.runs 0 = true ∧ (s.pkg.inst 0).row = 0 ∧ s.pkg.b .ARY_RUN_STAT_STALLING 0 = false ∧
      p.late 0 = {} ∧ 0 ∈ s.pkg.regionsOf 0 :=
  ⟨by decide, oneWord_runs _ _, oneWord_row _ _, oneWord_stalling _ _, by decide, oneWord_regions _ _⟩

/-- A LUT word wider than the 64 bits of an instruction: bit 78 is set and every bit of its truth table is clear. All four of its operands read data-store
bit 0, which holds 2, no bit value, so that together they select bit 30 of the table. -/
def wideLut : State := oneWord (2 ^ 78 + 1) 2

/-- The package in which the step of `wideLut` executes. -/
def wideLutDue : Pkg := (wideLut.due 0 [] []).bridgeFlips 0 (wrongBlocks [])

theorem wideLutDue_late : (wideLutDue.late 0).none = true := by
  have h : wideLutDue.late 0 = {} := by decide
  rw [h]
  rfl

/-- The truth table has no bit 30, and the LUT writes 0. -/
theorem wideLut_writes_zero : ((wideLut.pkg.upsets []).arrayStep 0 []).fab.bit 0 0 = 0 := by
  have hlut := State.arrayStep_bit (s := wideLut) (i := 0) (perr := []) (ups := []) (r := 0) (k := 0) (p := wideLutDue) rfl (oneWord_runs _ _)
    (oneWord_row _ _) (oneWord_stalling _ _) wideLutDue_late (oneWord_regions _ _) (by decide) (by decide)
    fun u acc => (wideLutDue.stepTick 0).evalBP_lut _ u acc _ (by decide)
  exact hlut.trans (by decide)

/-- Refutes O8: the statement also ranges over states that hold an instruction word of more than 64 bits and a data-store bit that is neither 0 nor 1
(`wideLut`). There bit `48 + n` of the word lies beyond the truth table: the statement asks for that bit, the model reads the table alone and writes 0.
Where the word has its 64 bits, the statement holds: `bpWritesItsResult_of_word_lt`. -/
theorem not_bpWritesItsResult : ¬ Obligations.BpWritesItsResult := by
  unfold Obligations.BpWritesItsResult
  intro h
  obtain ⟨p, hp, hlut, -, -⟩ := h 0 [] [] wideLut 0 0 (oneWord_runs _ _) (oneWord_row _ _) (oneWord_stalling _ _) wideLutDue_late
    (oneWord_regions _ _) (by decide) (by decide)
  have asked : p.fab.bit 0 0 = 1 := hlut (by decide) (by decide)
  rw [hp.unique (becomes_arrayStep 0 [] [] wideLut)] at asked
  exact absurd (asked.symm.trans wideLut_writes_zero) (by decide)

end Sys2Proof.Machine
end

section
/-!
SUPPORT. The word unit: what a step of a scalar instruction leaves, and division one quotient bit per step (R103, R107).
-/
namespace Sys2Proof.Machine

/-! ## Accumulators and divide hold -/

/-- DHn, the divide hold of accumulator `n` (R107). -/
def WordUnit.hold (u : WordUnit) (n : Nat) : Bool := if n = 0 then u.dh0 else u.dh1

/-- What a result writes to accumulator `n`. -/
def WRes.acc (r : WRes) (n : Nat) : Option Nat := if n = 0 then r.acc0 else r.acc1

theorem WordUnit.take_acc (u : WordUnit) (r : WRes) (n : Nat) : (u.take r).acc n = (r.acc n).getD (u.acc n) := by
  unfold WordUnit.acc WRes.acc
  split <;> rfl

theorem WordUnit.take_hold_written {r : WRes} {n : Nat} {b : Bool} (u : WordUnit) (hn : n < 2) (h : r.dh = some (n, b)) :
    (u.take r).hold n = b := by
  unfold WordUnit.hold WordUnit.take
  interval_cases n <;> simp [h]

theorem WordUnit.take_hold_kept {r : WRes} (u : WordUnit) (n : Nat) (h : r.dh = none) : (u.take r).hold n = u.hold n := by
  simp [WordUnit.hold, WordUnit.take, h]

@[simp] theorem accRes_acc (n v : Nat) (l : List (Exc × Nat)) : (accRes n v l).acc n = some (v % 2 ^ 40) := by
  unfold accRes WRes.acc
  split <;> rfl

theorem WRes.acc_withDh (r : WRes) (b : Option (Nat × Bool)) (n : Nat) : ({ r with dh := b } : WRes).acc n = r.acc n := rfl

theorem accRes_dh {n : Nat} (hn : n < 2) (v : Nat) (l : List (Exc × Nat)) : (accRes n v l).dh = some (n, false) := by
  interval_cases n <;> rfl

@[simp] theorem accRes_dst (n v : Nat) (l : List (Exc × Nat)) : (accRes n v l).dst = none := by
  unfold accRes
  split <;> rfl

@[simp] theorem accRes_excs (n v : Nat) (l : List (Exc × Nat)) : (accRes n v l).excs = l := by
  unfold accRes
  split <;> rfl

theorem accChecked_eq (n : Nat) (sata : Bool) (x : Int) : accChecked n sata x =
    accRes n (rangeCheck 40 sata x).1 ((rangeCheck 40 sata x).2.toList.map fun e => (e, accCode n)) := rfl

/-! ## One step -/

/-- The index steps of an operand change IDX alone (R100). -/
theorem WordUnit.stepIdx_eq (u : WordUnit) (c k : Nat) : ∃ l, u.stepIdx c k = { u with idx := l } := by
  unfold WordUnit.stepIdx
  extract_lets
  split
  · exact ⟨_, rfl⟩
  · split <;> exact ⟨_, rfl⟩

@[simp] theorem WordUnit.stepIdx_hold (u : WordUnit) (c k n : Nat) : (u.stepIdx c k).hold n = u.hold n := by
  obtain ⟨l, hl⟩ := u.stepIdx_eq c k
  rw [hl]
  rfl

/-- The sequencer changes its own state alone (R97). -/
theorem WordUnit.advance_eq (u : WordUnit) (isRep : Bool) (w a : Nat) (st : List (Nat × Nat × Nat)) :
    ∃ p l, u.advance isRep w a st = { u with wpc := p, stack := l } := by
  unfold WordUnit.advance
  extract_lets
  split
  · exact ⟨_, _, rfl⟩
  · split
    · split
      · split <;> exact ⟨_, _, rfl⟩
      · exact ⟨_, _, rfl⟩
    · exact ⟨_, _, rfl⟩

@[simp] theorem WordUnit.advance_hold (u : WordUnit) (isRep : Bool) (w a : Nat) (st : List (Nat × Nat × Nat)) (n : Nat) :
    (u.advance isRep w a st).hold n = u.hold n := by
  obtain ⟨p, l, h⟩ := u.advance_eq isRep w a st
  rw [h]
  rfl

theorem WordUnit.step_operate {u : WordUnit} {w in0 in1 edge : Nat} (hrep : (wIns w).opc ≠ 1) (hp : predHolds (wIns w) edge in1 = true) :
    u.step w in0 in1 edge =
      ((u.operate (wIns w) w in0 in1).1.advance false w u.wpc u.stack, (u.operate (wIns w) w in0 in1).2) := by
  simp [WordUnit.step, hrep, hp]

theorem isCplx_iff {o : Nat} : isCplx o = true ↔ 0x2A ≤ o ∧ o ≤ 0x2D := by
  rw [isCplx, Bool.and_eq_true, decide_eq_true_eq, decide_eq_true_eq]

theorem isFtap_iff {o : Nat} : isFtap o = true ↔ o = 0x2E ∨ o = 0x2F := by
  rw [isFtap, Bool.or_eq_true, beq_iff_eq, beq_iff_eq]

/-- An instruction above SETIX with its codes allowed is none of those that do nothing. -/
theorem not_idle_of_codesOk {x : WIns} (ho : 0x20 ≤ x.opc) (hok : codesOk x = true) : ¬ (x.opc = 0 ∨ x.opc = 1 ∨ (!codesOk x) = true) := by
  simp [hok]
  omega

/-- What the scalar instruction `x` answers with its sources read. -/
def WordUnit.scalar (u : WordUnit) (x : WIns) (in0 in1 : Nat) : Option WRes :=
  scalarOp u x (if usesA x.opc then u.src in0 in1 x.imm x.sa else 0) (if usesB x.opc then u.src in0 in1 x.imm x.sb else 0)

/-- A scalar instruction whose result writes no destination puts the result into the unit and steps its operands' indices. -/
theorem WordUnit.operate_scalar {u : WordUnit} {x : WIns} {in0 in1 : Nat} {r : WRes} (w : Nat) (ho : 0x20 ≤ x.opc)
    (hcplx : ¬ isCplx x.opc) (hftap : ¬ isFtap x.opc) (hok : codesOk x = true)
    (hr : u.scalar x in0 in1 = some r) (hd : r.dst = none) :
    ∃ l, u.operate x w in0 in1 = ({ u.take r with idx := l }, r.excs) := by
  unfold WordUnit.scalar at hr
  obtain ⟨l, hl⟩ : ∃ l, (if usesA x.opc then (u.take r).stepIdx x.sa 1 else u.take r) = { u.take r with idx := l } := by
    split
    · exact WordUnit.stepIdx_eq _ _ _
    · exact ⟨_, rfl⟩
  unfold WordUnit.operate
  rw [if_neg (by omega), if_neg (not_idle_of_codesOk (by omega) hok), if_neg (by omega)]
  simp only [hcplx, hftap, hr, hd, hl, Bool.false_eq_true, if_false]
  split
  · obtain ⟨l', hl'⟩ := WordUnit.stepIdx_eq { u.take r with idx := l } x.sb 1
    exact ⟨l', by rw [hl']⟩
  · exact ⟨l, rfl⟩

/-! ## Instructions that write an accumulator clear its divide hold -/

/-- The scalar instructions that write accumulator `n`, without those of division. -/
def scalarWriters (n : Nat) : List Nat :=
  [0x20 + n, 0x22 + n, 0x24 + n, 0x26 + n, 0x28 + n, 0x30 + n, 0x32 + n, 0x36 + n, 0x3C + n]

theorem scalarOp_writer {x : WIns} {n : Nat} (hn : n < 2) (h : x.opc ∈ scalarWriters n) (u : WordUnit) (a b : Nat) :
    ∃ v l, scalarOp u x a b = some (accRes n v l) := by
  simp only [scalarWriters, List.mem_cons, List.not_mem_nil, or_false] at h
  obtain ⟨o, dst, sa, sb, pred, psel, imm⟩ := x
  interval_cases n <;> rcases h with h | h | h | h | h | h | h | h | h <;> cases h <;> exact ⟨_, _, by with_unfolding_all rfl⟩

theorem WordUnit.operate_scalarWriter_hold {x : WIns} {n : Nat} (hn : n < 2) (h : x.opc ∈ scalarWriters n) (hok : codesOk x = true)
    (u : WordUnit) (w in0 in1 : Nat) : (u.operate x w in0 in1).1.hold n = false := by
  obtain ⟨v, l, hr⟩ := scalarOp_writer hn h u _ _
  simp only [scalarWriters, List.mem_cons, List.not_mem_nil, or_false] at h
  obtain ⟨i, hi⟩ := WordUnit.operate_scalar (in0 := in0) (in1 := in1) w (by omega) (by rw [isCplx_iff]; omega)
    (by rw [isFtap_iff]; omega) hok hr (accRes_dst ..)
  rw [hi]
  exact u.take_hold_written hn (accRes_dh hn _ _)

theorem WordUnit.operate_cplx_hold {x : WIns} (h : isCplx x.opc = true) (hok : codesOk x = true) (u : WordUnit) (w in0 in1 n : Nat) :
    (u.operate x w in0 in1).1.hold n = false := by
  have ho : 0x2A ≤ x.opc := (isCplx_iff.1 h).1
  unfold WordUnit.operate
  rw [if_neg (by omega), if_neg (not_idle_of_codesOk (by omega) hok), if_neg (by omega), if_pos h]
  simp only [stepIdx_hold]
  exact ite_self false

theorem WordUnit.operate_ftap_hold {x : WIns} {n : Nat} (hn : n < 2) (h : x.opc = 0x2E + n) (hok : codesOk x = true) (u : WordUnit)
    (w in0 in1 : Nat) : (u.operate x w in0 in1).1.hold n = false := by
  have hacc : x.opc % 2 = n := by omega
  unfold WordUnit.operate
  rw [if_neg (by omega), if_neg (not_idle_of_codesOk (by omega) hok), if_neg (by omega), if_neg (by rw [isCplx_iff]; omega),
    if_pos (by rw [isFtap_iff]; omega)]
  simp only [stepIdx_hold, hacc, accChecked_eq]
  exact u.take_hold_written hn (accRes_dh hn _ _)

/-- The instructions beside those of division that write accumulator `n` (Table 52). -/
def accWriters (n : Nat) : List Nat :=
  [0x20 + n, 0x22 + n, 0x24 + n, 0x26 + n, 0x28 + n, 0x2A, 0x2B, 0x2C, 0x2D, 0x2E + n, 0x30 + n, 0x32 + n, 0x36 + n, 0x3C + n]

theorem accWriters_cases {o n : Nat} (h : o ∈ accWriters n) : o ∈ scalarWriters n ∨ isCplx o = true ∨ o = 0x2E + n := by
  simp only [accWriters, scalarWriters, isCplx_iff, List.mem_cons, List.not_mem_nil, or_false] at h ⊢
  omega

/-- Every other instruction that writes ACCn clears DHn (R107). -/
theorem WordUnit.step_accWriter_hold {w n : Nat} (hn : n < 2) (h : (wIns w).opc ∈ accWriters n) (hok : codesOk (wIns w) = true)
    {edge in1 : Nat} (hp : predHolds (wIns w) edge in1 = true) (u : WordUnit) (in0 : Nat) : (u.step w in0 in1 edge).1.hold n = false := by
  have hrep : (wIns w).opc ≠ 1 := by
    simp only [accWriters, List.mem_cons, List.not_mem_nil, or_false] at h
    omega
  rw [WordUnit.step_operate hrep hp, advance_hold]
  rcases accWriters_cases h with hs | hc | hf
  · exact u.operate_scalarWriter_hold hn hs hok w in0 in1
  · exact u.operate_cplx_hold hc hok w in0 in1 n
  · exact u.operate_ftap_hold hn hf hok w in0 in1

/-! ## The division instructions -/

/-- The instruction with opcode `o` and divisor register W`c`, every other field 0. -/
def divWord (o c : Nat) : Nat := o * 2 ^ 42 + c * 2 ^ 24

theorem wIns_divWord {o c : Nat} (ho : o < 64) (hc : c < 64) :
    wIns (divWord o c) = { opc := o, dst := 0, sa := 0, sb := c, pred := 0, psel := 0, imm := 0 } := by
  simp only [wIns, divWord, bits, WIns.mk.injEq]
  omega

/-- What a faulting division step writes: quotient 0xFFFF and remainder 0, and DHn set. -/
def divFault (n : Nat) : WRes := { accRes n 0xFFFF [(.dvf, accCode n)] with dh := some (n, true) }

/-- What DIV0 does on divisor `d`. -/
def div0Res (u : WordUnit) (n d : Nat) : WRes :=
  if d = 0 ∨ d ≤ bits (u.acc n) 16 16 then divFault n else accRes n (divStep (u.acc n) d)

/-- What DIVS does on divisor `d`. -/
def divsRes (u : WordUnit) (n d : Nat) : WRes :=
  if u.hold n then {} else if d = 0 then divFault n else { accRes n (divStep (u.acc n) d) with dh := none }

section
variable {u : WordUnit} {n d : Nat}

theorem div0Res_fault (h : d = 0 ∨ d ≤ bits (u.acc n) 16 16) : div0Res u n d = divFault n := if_pos h

theorem div0Res_divide (h : bits (u.acc n) 16 16 < d) : div0Res u n d = accRes n (divStep (u.acc n) d) := if_neg (by omega)

theorem divsRes_held (h : u.hold n = true) : divsRes u n d = {} := if_pos h

theorem divsRes_fault (h : u.hold n = false) (h0 : d = 0) : divsRes u n d = divFault n :=
  (if_neg (ne_true_of_eq_false h)).trans (if_pos h0)

theorem divsRes_divide (h : u.hold n = false) (h0 : d ≠ 0) :
    divsRes u n d = { accRes n (divStep (u.acc n) d) with dh := none } :=
  (if_neg (ne_true_of_eq_false h)).trans (if_neg h0)

end

theorem scalarOp_div0 {x : WIns} {n : Nat} (hn : n < 2) (hx : x.opc = 0x38 + n) (u : WordUnit) (a d : Nat) :
    scalarOp u x a d = some (div0Res u n d) := by
  delta div0Res
  rw [apply_ite some]
  obtain ⟨o, dst, sa, sb, pred, psel, imm⟩ := x
  interval_cases n <;> cases hx <;> with_unfolding_all rfl

theorem scalarOp_divs {x : WIns} {n : Nat} (hn : n < 2) (hx : x.opc = 0x3A + n) (u : WordUnit) (a d : Nat) :
    scalarOp u x a d = some (divsRes u n d) := by
  delta divsRes
  rw [apply_ite some, apply_ite some]
  obtain ⟨o, dst, sa, sb, pred, psel, imm⟩ := x
  interval_cases n <;> cases hx <;> with_unfolding_all rfl

theorem divFault_dst (n : Nat) : (divFault n).dst = none := accRes_dst ..

theorem div0Res_dst (u : WordUnit) (n d : Nat) : (div0Res u n d).dst = none := by
  delta div0Res
  split
  · exact divFault_dst n
  · exact accRes_dst ..

theorem divsRes_dst (u : WordUnit) (n d : Nat) : (divsRes u n d).dst = none := by
  delta divsRes
  split
  · rfl
  · split
    · exact divFault_dst n
    · exact accRes_dst ..

/-- `z` is what an instruction with result `r` makes of `u` where division looks: W0 to W15 stay, ACCn and DHn take the result, its exceptions are
raised. -/
def WordUnit.Takes (u : WordUnit) (r : WRes) (n : Nat) (z : WordUnit × List (Exc × Nat)) : Prop :=
  z.1.w = u.w ∧ z.1.acc n = (r.acc n).getD (u.acc n) ∧ z.1.hold n = (u.take r).hold n ∧ z.2 = r.excs

/-- A step of a division instruction, its divisor in W`c`, puts its result into the unit. -/
theorem WordUnit.step_takes {u : WordUnit} {o c : Nat} {r : WRes} (ho : 0x38 ≤ o ∧ o ≤ 0x3B) (hc : c ≤ 15)
    (hr : scalarOp u (wIns (divWord o c)) 0 (u.w.at c) = some r) (hd : r.dst = none) (in0 in1 edge n : Nat) :
    u.Takes r n (u.step (divWord o c) in0 in1 edge) := by
  have hx := wIns_divWord (o := o) (c := c) (by omega) (by omega)
  have hA : usesA o = false := by simp [usesA]; omega
  have hB : usesB o = true := by simp [usesB]; omega
  have hD : usesD o = false := by simp [usesD]; omega
  have hcplx : ¬ isCplx o := by rw [isCplx_iff]; omega
  have hftap : ¬ isFtap o := by rw [isFtap_iff]; omega
  have hok : codesOk (wIns (divWord o c)) = true := by
    simp [hx, codesOk, opcOk, hcplx, hftap, hA, hB, hD, srcOk]
    omega
  have hs : u.scalar (wIns (divWord o c)) in0 in1 = some r := by
    simpa [WordUnit.scalar, hx, hA, hB, WordUnit.src, hc] using hr
  obtain ⟨l, hl⟩ := WordUnit.operate_scalar (divWord o c) (by simp [hx]; omega) (by rwa [hx]) (by rwa [hx]) hok hs hd
  rw [WordUnit.step_operate (by simp [hx]; omega) (by simp [hx, predHolds]), hl]
  obtain ⟨p, st, h⟩ := WordUnit.advance_eq { u.take r with idx := l } false (divWord o c) u.wpc u.stack
  rw [h]
  exact ⟨rfl, u.take_acc r n, rfl, rfl⟩

section
variable {n c : Nat} (hn : n < 2) (hc : c ≤ 15) (u : WordUnit) (in0 in1 edge : Nat)
include hn hc

theorem WordUnit.step_div0 : u.Takes (div0Res u n (u.w.at c)) n (u.step (divWord (0x38 + n) c) in0 in1 edge) :=
  WordUnit.step_takes (by omega) hc (scalarOp_div0 hn (by rw [wIns_divWord (by omega) (by omega)]) u 0 _) (div0Res_dst ..) ..

theorem WordUnit.step_divs : u.Takes (divsRes u n (u.w.at c)) n (u.step (divWord (0x3A + n) c) in0 in1 edge) :=
  WordUnit.step_takes (by omega) hc (scalarOp_divs hn (by rw [wIns_divWord (by omega) (by omega)]) u 0 _) (divsRes_dst ..) ..

end

theorem divStep_lt (a d : Nat) : divStep a d < 2 ^ 32 := Nat.mod_lt _ (Nat.two_pow_pos 32)

/-- The 32 bits of a division step fit the accumulator: bits 39 to 32 become 0. -/
theorem accRes_divStep_acc (n a d : Nat) (l : List (Exc × Nat)) : (accRes n (divStep a d) l).acc n = some (divStep a d) := by
  rw [accRes_acc, Nat.mod_eq_of_lt ((divStep_lt a d).trans (by omega))]

/-- A division step with result `z` faulted (R107). -/
def DivFaulted (n : Nat) (z : WordUnit × List (Exc × Nat)) : Prop :=
  z.1.acc n = 0xFFFF ∧ z.1.hold n = true ∧ z.2 = [(.dvf, 0x30 + n)]

/-- A division step of `u` on divisor `d` with result `z` did not fault (R107). -/
def Divided (u : WordUnit) (n d : Nat) (z : WordUnit × List (Exc × Nat)) : Prop :=
  z.1.hold n = false ∧ z.2 = [] ∧ z.1.acc n = divStep (u.acc n) d

theorem WordUnit.Takes.faulted {u : WordUnit} {n : Nat} {z : WordUnit × List (Exc × Nat)} (hn : n < 2) (h : u.Takes (divFault n) n z) :
    DivFaulted n z := by
  obtain ⟨-, hacc, hhold, hexcs⟩ := h
  rw [u.take_hold_written hn rfl] at hhold
  rw [divFault, WRes.acc_withDh, accRes_acc] at hacc
  exact ⟨hacc, hhold, hexcs.trans (accRes_excs ..)⟩

section
variable {n c : Nat} (hn : n < 2) (hc : c ≤ 15) {u : WordUnit} (in0 in1 edge : Nat)
include hn hc

theorem WordUnit.div0_faults (h : u.w.at c = 0 ∨ u.w.at c ≤ bits (u.acc n) 16 16) :
    DivFaulted n (u.step (divWord (0x38 + n) c) in0 in1 edge) := by
  have hs := u.step_div0 hn hc in0 in1 edge
  rw [div0Res_fault h] at hs
  exact hs.faulted hn

theorem WordUnit.div0_divides (h : bits (u.acc n) 16 16 < u.w.at c) :
    Divided u n (u.w.at c) (u.step (divWord (0x38 + n) c) in0 in1 edge) := by
  have hs := u.step_div0 hn hc in0 in1 edge
  rw [div0Res_divide h] at hs
  obtain ⟨-, hacc, hhold, hexcs⟩ := hs
  rw [u.take_hold_written hn (accRes_dh hn _ _)] at hhold
  rw [accRes_divStep_acc] at hacc
  exact ⟨hhold, hexcs.trans (accRes_excs ..), hacc⟩

theorem WordUnit.divs_held (h : u.hold n = true) :
    let z := u.step (divWord (0x3A + n) c) in0 in1 edge
    z.1.acc n = u.acc n ∧ z.1.hold n = true ∧ z.2 = [] := by
  have hs := u.step_divs hn hc in0 in1 edge
  rw [divsRes_held h] at hs
  obtain ⟨-, hacc, hhold, hexcs⟩ := hs
  have hnone : WRes.acc {} n = none := ite_self none
  rw [u.take_hold_kept n rfl, h] at hhold
  rw [hnone] at hacc
  exact ⟨hacc, hhold, hexcs⟩

theorem WordUnit.divs_faults (h : u.hold n = false) (h0 : u.w.at c = 0) :
    DivFaulted n (u.step (divWord (0x3A + n) c) in0 in1 edge) := by
  have hs := u.step_divs hn hc in0 in1 edge
  rw [divsRes_fault h h0] at hs
  exact hs.faulted hn

theorem WordUnit.divs_divides (h : u.hold n = false) (h0 : u.w.at c ≠ 0) :
    Divided u n (u.w.at c) (u.step (divWord (0x3A + n) c) in0 in1 edge) := by
  have hs := u.step_divs hn hc in0 in1 edge
  rw [divsRes_divide h h0] at hs
  obtain ⟨-, hacc, hhold, hexcs⟩ := hs
  rw [u.take_hold_kept n rfl, h] at hhold
  rw [WRes.acc_withDh, accRes_divStep_acc] at hacc
  exact ⟨hhold, hexcs.trans (accRes_excs ..), hacc⟩

end

/-! ## A run of division steps -/

/-- The unit after it not_idle_of_codesOk the words `ws`, one in each step, with the same inputs in all. -/
def WordUnit.steps (in0 in1 edge : Nat) (u : WordUnit) (ws : List Nat) : WordUnit := ws.foldl (fun v w => (v.step w in0 in1 edge).1) u

section
variable {n c : Nat} (hn : n < 2) (hc : c ≤ 15) (in0 in1 edge : Nat)
include hn hc

theorem WordUnit.steps_divs_held (k : Nat) (u : WordUnit) (h : u.hold n = true) :
    let z := u.steps in0 in1 edge (List.replicate k (divWord (0x3A + n) c))
    z.acc n = u.acc n ∧ z.hold n = true := by
  induction k generalizing u with
  | zero => exact ⟨rfl, h⟩
  | succ k ih =>
    obtain ⟨hacc, hhold, -⟩ := WordUnit.divs_held hn hc in0 in1 edge h
    obtain ⟨iacc, ihold⟩ := ih _ hhold
    exact ⟨iacc.trans hacc, ihold⟩

theorem WordUnit.steps_divs_divide (k : Nat) (u : WordUnit) (h : u.hold n = false) (h0 : u.w.at c ≠ 0) :
    let z := u.steps in0 in1 edge (List.replicate k (divWord (0x3A + n) c))
    z.acc n = (divStep · (u.w.at c))^[k] (u.acc n) ∧ z.hold n = false := by
  induction k generalizing u with
  | zero => exact ⟨rfl, h⟩
  | succ k ih =>
    obtain ⟨hhold, -, hacc⟩ := WordUnit.divs_divides hn hc in0 in1 edge h h0
    obtain ⟨hw, -⟩ := u.step_divs hn hc in0 in1 edge
    have hz := ih _ hhold (hw ▸ h0)
    rw [hw, hacc] at hz
    exact hz

end

/-! ## Quotient and remainder -/

/-- The division step on a dividend below `d` shifted divisors: it is doubled; where a shifted divisor goes, that is taken out and a quotient bit set. -/
theorem divStep_eq {a d : Nat} (hd : d < 2 ^ 16) (ha : a < d * 2 ^ 16) :
    divStep a d = if d * 2 ^ 16 ≤ 2 * a then 2 * a - d * 2 ^ 16 + 1 else 2 * a := by
  have hlow : a % 2 ^ 32 = a := by omega
  have hle : d ≤ 2 * a / 2 ^ 16 ↔ d * 2 ^ 16 ≤ 2 * a := Nat.le_div_iff_mul_le (Nat.two_pow_pos 16)
  simp only [divStep, hlow, hle]
  split <;> omega

/-- After `k` steps on dividend `a` the accumulator is `s`: with the `k` quotient bits `q` found so far, `s` is what remains of the dividend after `k`
doublings with `q` shifted divisors taken out, `q` added below. -/
def Dividing (a d k s : Nat) : Prop := ∃ q < 2 ^ k, s + q * (d * 2 ^ 16) = 2 ^ k * a + q ∧ s < d * 2 ^ 16

theorem Dividing.step {a d k s : Nat} (hd : d < 2 ^ 16) (h : Dividing a d k s) : Dividing a d (k + 1) (divStep s d) := by
  obtain ⟨q, hq, hs, hlt⟩ := h
  have hdouble : 2 * s + 2 * q * (d * 2 ^ 16) = 2 ^ (k + 1) * a + 2 * q := by linear_combination 2 * hs
  rw [divStep_eq hd hlt]
  split
  case isTrue hle => exact ⟨2 * q + 1, by omega, by rw [add_mul]; omega, by omega⟩
  case isFalse hgt => exact ⟨2 * q, by omega, hdouble, by omega⟩

theorem Dividing.iterate {a d : Nat} (hd : d < 2 ^ 16) (ha : a < d * 2 ^ 16) (k : Nat) : Dividing a d k ((divStep · d)^[k] a) := by
  induction k with
  | zero => exact ⟨0, by simp, by simp, ha⟩
  | succ k ih =>
    rw [Function.iterate_succ_apply']
    exact ih.step hd

/-- After 16 steps the remainder stands above the quotient. -/
theorem Dividing.result {a d s : Nat} (hd : d < 2 ^ 16) (h : Dividing a d 16 s) :
    bits s 0 16 = a / d ∧ bits s 16 16 = a % d ∧ bits s 32 8 = 0 := by
  obtain ⟨q, hq, hs, hlt⟩ := h
  have hsplit : s % 2 ^ 16 = q ∧ s / 2 ^ 16 + q * d = a := by
    rw [← mul_assoc] at hs
    omega
  obtain ⟨hlow, hhigh⟩ := hsplit
  have hrem : s / 2 ^ 16 < d := by omega
  have hdiv : a / d = q ∧ a % d = s / 2 ^ 16 := by
    rw [Nat.div_mod_unique (by omega)]
    exact ⟨by rw [← hhigh, mul_comm], hrem⟩
  unfold bits
  omega

/-- A step sees the low 32 bits of the accumulator alone. -/
theorem divStep_bits (a d : Nat) : divStep (bits a 0 32) d = divStep a d := by
  simp [divStep, bits]

/-- The step as R107 writes it, with the 33-bit value T. -/
theorem divStep_eq_bits (a d : Nat) :
    divStep a d = (if d ≤ bits (2 * bits a 0 32) 16 17 then 2 * bits a 0 32 - d * 2 ^ 16 + 1 else 2 * bits a 0 32) % 2 ^ 32 := by
  have hlow : bits a 0 32 = a % 2 ^ 32 := by simp [bits]
  have htop : bits (2 * (a % 2 ^ 32)) 16 17 = 2 * (a % 2 ^ 32) / 2 ^ 16 := Nat.mod_eq_of_lt (by omega)
  rw [hlow, htop, divStep]

section
variable {n c : Nat} (hn : n < 2) (hc : c ≤ 15) {u : WordUnit} (in0 in1 edge : Nat)
include hn hc

/-- DIV0 and `k` DIVS on a divisor above the dividend's upper half are `k + 1` division steps. -/
theorem WordUnit.steps_division (k : Nat) (h : bits (u.acc n) 16 16 < u.w.at c) :
    let z := (u.step (divWord (0x38 + n) c) in0 in1 edge).1.steps in0 in1 edge (List.replicate k (divWord (0x3A + n) c))
    z.acc n = (divStep · (u.w.at c))^[k + 1] (u.acc n) ∧ z.hold n = false := by
  obtain ⟨hhold, -, hacc⟩ := WordUnit.div0_divides hn hc in0 in1 edge h
  obtain ⟨hw, -⟩ := u.step_div0 hn hc in0 in1 edge
  have hz := WordUnit.steps_divs_divide hn hc in0 in1 edge k _ hhold (by rw [hw]; omega)
  rw [hw, hacc] at hz
  exact hz

theorem WordUnit.steps_division_result (hd : u.w.at c < 2 ^ 16) (h : bits (u.acc n) 16 16 < u.w.at c) :
    let z := (u.step (divWord (0x38 + n) c) in0 in1 edge).1.steps in0 in1 edge (List.replicate 15 (divWord (0x3A + n) c))
    bits (z.acc n) 0 16 = bits (u.acc n) 0 32 / u.w.at c ∧ bits (z.acc n) 16 16 = bits (u.acc n) 0 32 % u.w.at c ∧
      bits (z.acc n) 32 8 = 0 ∧ z.hold n = false := by
  intro z
  obtain ⟨hacc, hhold⟩ := WordUnit.steps_division hn hc in0 in1 edge 15 h
  have hlt : bits (u.acc n) 0 32 < u.w.at c * 2 ^ 16 := by
    unfold bits at *
    omega
  have hdividing := Dividing.iterate hd hlt 16
  rw [Function.iterate_succ_apply, divStep_bits, ← Function.iterate_succ_apply (divStep · _), ← hacc] at hdividing
  obtain ⟨hquot, hrem, htop⟩ := hdividing.result hd
  exact ⟨hquot, hrem, htop, hhold⟩

theorem WordUnit.steps_division_faulted (k : Nat) (h : u.w.at c ≤ bits (u.acc n) 16 16) :
    let z := (u.step (divWord (0x38 + n) c) in0 in1 edge).1.steps in0 in1 edge (List.replicate k (divWord (0x3A + n) c))
    z.acc n = 0xFFFF ∧ z.hold n = true := by
  obtain ⟨hacc, hhold, -⟩ := WordUnit.div0_faults hn hc in0 in1 edge (.inr h)
  obtain ⟨zacc, zhold⟩ := WordUnit.steps_divs_held hn hc in0 in1 edge k _ hhold
  exact ⟨zacc.trans hacc, zhold⟩

end

/-- Settles O42: a division instruction puts its result into the unit (`step_div0`, `step_divs`), and 16 division steps keep `Dividing`. -/
theorem wordUnitDivides : Obligations.WordUnitDivides := by
  intro u n c in0 in1 edge hn hc hd d div0 divs after excs hold faulted T divided writers
  have hdivided {w : Nat} (h : Divided u n d (u.step w in0 in1 edge)) : divided w := by
    obtain ⟨hhold, hexcs, hacc⟩ := h
    exact ⟨hhold, hexcs, hacc.trans (divStep_eq_bits ..)⟩
  exact ⟨WordUnit.div0_faults hn hc in0 in1 edge,
    fun _ h => hdivided (WordUnit.div0_divides hn hc in0 in1 edge h),
    WordUnit.divs_held hn hc (u := u) in0 in1 edge,
    WordUnit.divs_faults hn hc in0 in1 edge,
    fun h h0 => hdivided (WordUnit.divs_divides hn hc in0 in1 edge h h0),
    fun w ho hok hp => WordUnit.step_accWriter_hold hn ho hok hp u in0,
    WordUnit.steps_division_result hn hc in0 in1 edge hd,
    WordUnit.steps_division_faulted hn hc in0 in1 edge 15⟩

end Sys2Proof.Machine
end
